-- ==== Sys2Proof/Word.lean ====
section
/-!
DEFINITION. The word types of the module and their plainest arithmetic (R7, R15, R16).
-/

namespace Sys2Proof

/-- One byte of a structure defined by Dolnor (R15). -/
abbrev Byte := BitVec 8

/-- A 16-bit field. -/
abbrev Half := BitVec 16

/-- A 32-bit word: a data-memory element, a status word, a fixed-point quantity of R7. -/
abbrev Word := BitVec 32

/-- A 64-bit word: an instruction of the Batten engine, the fuse word. -/
abbrev DWord := BitVec 64

/-- Nanoseconds in one millisecond. -/
def msNs : Nat := 1000000

/-- Nanoseconds in one microsecond. -/
def usNs : Nat := 1000

/-- Nanoseconds in one second. -/
def secNs : Nat := 1000000000

end Sys2Proof
end

