-- ==== Sys2Proof/Machine/Types/Basic.lean ====
section
/-!
DEFINITION. Small shared types: lanes, safety channels, events, counters, samples, snapshots, replies.
-/

namespace Sys2Proof.Machine

/-- The two computing lanes (R34). -/
inductive LaneId where
  | a
  | b
deriving DecidableEq, Repr

/-- The two channels of the safety unit (R34, R51). -/
inductive Chan where
  | x
  | y
deriving DecidableEq, Repr

/-- A raised event or a record for the recorder: code (R28), kind (RINFO of R629: 0 event, 1 trend, 2 time step, 3 marker),
payload bytes, and frame, module time, time status and monotonic time at which it was raised. -/
structure Event where
  code : Half
  kind : Nat
  payload : List Byte
  frame : Word
  taiS : Nat
  taiNs : Nat
  tstatus : Half
  mono : Nat
deriving DecidableEq, Repr

/-- One event or error counter: the value and the sticky overflow bit of R19. -/
structure Counter where
  value : Word
  overflow : Bool
deriving DecidableEq, Repr

/-- A reply released to a Jalnomel session: transport, the address and UDP port it goes to (R564), session, host tag, request opcode, handle, FLAGS of R566, status code (R588) and payload bytes without the authentication tag. -/
structure Reply where
  transport : Nat
  addr : Nat := 0
  session : Nat
  tag : Half
  opcode : Half
  handle : Nat
  flags : Nat
  status : Half
  payload : List Byte
deriving DecidableEq, Repr

/-- A snapshot sample entry (R84): arrival time, port timestamp, SFLAGS and the data bytes (DLEN is their number). -/
structure Sample where
  arrival : Nat
  portTs : Nat
  sflags : Half
  data : List Byte
deriving DecidableEq, Repr

/-- A snapshot section (R84): source number and samples in arrival order. -/
structure Section where
  source : Nat
  samples : List Sample
deriving DecidableEq, Repr

/-- The redundancy control trailer of a frame on OPN-A or OPN-B: network (0 A, 1 B), sender, sequence number (R562). -/
structure PrpTrailer where
  lan : Nat
  source : Nat
  seq : Nat
deriving DecidableEq, Repr

/-- The header of a Jalnomel request as received: time of receipt, transport (0 operator network, 1 service network,
2 HSER), session number, host tag; the authentication tag, none with AUTH clear (R565, R570); the address and UDP port it came from
(R564); the trailer of its frame, none without one (R562). -/
structure Req where
  t : Nat
  transport : Nat
  session : Nat
  tag : Half
  mac : Option (List Byte) := none
  addr : Nat := 0
  prp : Option PrpTrailer := none
deriving DecidableEq, Repr

/-- A command as it enters a snapshot (R79, R578): request, opcode, handle (0: none), payload, and for PARAM_WRITE the status bits
the hardware sets in the cycle of the write, by ID (R18). -/
structure Command where
  req : Req
  opcode : Nat
  handle : Nat
  payload : List Byte
  present : List (Nat × Nat)
deriving DecidableEq, Repr

/-- A snapshot or sub-snapshot (R84); its digest is a function of its bytes. -/
structure Snapshot where
  flags : Half
  frame : Word
  strobeMono : Nat
  taiS : Nat
  taiNs : Nat
  timeStatus : Half
  periodMs : Nat
  configGen : Word
  sections : List Section
  /-- The commands that arrived before its cut-off, in arrival order (R79). -/
  commands : List Command
deriving DecidableEq, Repr

end Sys2Proof.Machine
end

