-- ==== Sys2Proof/Machine/Types/Buses.lean ====
section
/-!
DEFINITION. State of the message-bus controllers and of the serial ports (R523 to R560).
-/

namespace Sys2Proof.Machine

/-- A CAN frame: identifier, 29-bit format, FD format, bit-rate switch, remote, error state indicator, data (R532). -/
structure CanFrame where
  id : Nat
  ide : Bool
  fdf : Bool
  brs : Bool
  rtr : Bool
  esi : Bool
  data : List Byte
deriving DecidableEq, Repr

/-- A transmit entry (R535 to R538): message number, or 256 + connection number; the frame of the strobe it was written in,
its lifetime, failed attempts; whether it is on the wire, a newer entry that waits behind it, expiry while on the wire. -/
structure TxEntry where
  owner : Nat
  frame : CanFrame
  written : Word
  lifetime : Nat
  attempts : Nat
  onWire : Bool
  newer : Option (CanFrame × Word × Nat)
  expired : Bool
deriving DecidableEq, Repr

/-- A mailbox and its shadow (R534); `lost`: the next delivered sample carries OVERRUN. -/
structure Mailbox where
  locked : Bool
  shadow : Option (CanFrame × Nat)
  lost : Bool
deriving DecidableEq, Repr

/-- Rate detection (R529, R545). -/
inductive RateState where
  | programmed
  /-- Candidate, consecutive good frames, start. -/
  | detecting (cand good start : Nat)
  | detected (cand : Nat)
  | fallenBack
deriving DecidableEq, Repr

/-- How a transmission attempt goes on or ends (R537, R540, R541). -/
inductive TxOutcome where
  /-- The chosen entry is on the wire. -/
  | started
  | acknowledged
  /-- No acknowledgement; a dominant bit was or was not seen during a passive error flag. -/
  | ackError (dominant : Bool)
  /-- Another error, with its LEC code. -/
  | error (lec : Nat)
  | lostArbitration
deriving DecidableEq, Repr

/-- One bus controller. -/
structure BusCtl where
  tec : Nat
  rec_ : Nat
  lec : Nat
  busOff : Bool
  recovering : Bool
  noAck : Bool
  ackRun : Nat
  protExc : Bool
  overrun : Bool
  txFull : Bool
  /-- Buffers with an episode of refusals while full (R536). -/
  fullEpisodes : List Nat
  rate : RateState
  detectHandle : Option Nat
  buffers : List (List TxEntry)
  mailboxes : List Mailbox
  /-- Alive counters by message number (R549). -/
  alive : List (Nat × Nat)
  overrunEvent : Option Nat
  protEvent : Option Nat
  inReset : Bool
  lastSent : Option CanFrame
deriving DecidableEq, Repr

/-- A message that waits in the transmit queue of a serial port (R559): its number and bytes, when it was queued, the frame of the strobe it
was written in, its lifetime. -/
structure SerQueued where
  num : Nat
  data : List Byte
  at_ : Nat
  written : Word
  lifetime : Nat
deriving DecidableEq, Repr

/-- One serial port: characters held, each with its start-bit edge and the centre of its first stop bit; a TAG block; the transmit queue,
until when the port sends, the latest character received, and what was sent, with its start. -/
structure SerPort where
  rx : List (Byte × Nat × Nat)
  tag : List (Byte × Nat × Nat)
  inTag : Bool
  errorEvent : Option Nat
  queue : List SerQueued
  busyUntil : Nat
  lastRx : Nat
  sent : List (Nat × List Byte)
  alive : List (Nat × Nat)
deriving DecidableEq, Repr

/-- The bus units. -/
structure Buses where
  can : List BusCtl
  ser : List SerPort
deriving DecidableEq, Repr

/-- An empty mailbox. -/
def Mailbox.reset : Mailbox := { locked := false, shadow := none, lost := false }

/-- A controller after a reset (R544). -/
def BusCtl.reset : BusCtl :=
  { tec := 0, rec_ := 0, lec := 0, busOff := false, recovering := false, noAck := false, ackRun := 0, protExc := false,
    overrun := false, txFull := false, fullEpisodes := [], rate := .programmed, detectHandle := none,
    buffers := [[], [], []], mailboxes := List.replicate 32 .reset, alive := [], overrunEvent := none,
    protEvent := none, inReset := false, lastSent := none }

/-- A serial port after a reset. -/
def SerPort.reset : SerPort := { rx := [], tag := [], inTag := false, errorEvent := none, queue := [], busyUntil := 0, lastRx := 0, sent := [], alive := [] }

/-- Both units after bring-up. -/
def Buses.reset : Buses := { can := List.replicate 6 .reset, ser := List.replicate 8 .reset }

end Sys2Proof.Machine
end

