-- ==== Sys2Proof/Machine/Types/FieldIo.lean ====
section
/-!
DEFINITION. State of the field I/O unit: digital channels, energy-limited ports, analogue inputs, filter chains, pulse inputs,
analogue outputs (R459 to R522).
-/

namespace Sys2Proof.Machine

/-- A digital channel: its status of R482 and what its rules remember. -/
structure DioChannel where
  /-- Filtered input state, or readback of an output. -/
  st : Bool
  cmd : Bool
  level : Nat
  wireBreak : Bool
  extDrive : Bool
  overload : Bool
  readback : Bool
  groupOverload : Bool
  supplyOff : Bool
  restartWait : Bool
  forced : Option Bool
  hostValue : Bool
  hostAt : Nat
  hostExpired : Bool
  /-- Value at the expiry of a watchdog, for the safe state HOLD (R472). -/
  atExpiry : Bool
  /-- Consecutive failed test pulses; a test pulse is running (R466, R467). -/
  testFails : Nat
  pulsing : Bool
  pulseSince : Nat
deriving DecidableEq, Repr

/-- State of a supply group (R477). -/
inductive SupplyState where
  | normal
  | warning
  | undervoltage
  | cutoff
deriving DecidableEq, Repr

/-- A supply group: state and voltage, 10 mV. -/
structure Supply where
  st : SupplyState
  volts : Nat
deriving DecidableEq, Repr

/-- A logic term: output and for how many passes the truth table has given 1 and 0 (R476). -/
structure LogicTerm where
  out : Bool
  ones : Nat
  zeros : Nat
deriving DecidableEq, Repr

/-- A NAMUR input: state and valid bit (R487). -/
structure Namur where
  st : Bool
  valid : Bool
deriving DecidableEq, Repr

/-- A running calibration of an input (R518): handle, start of the hold, phase, the sample held. -/
structure Calibration where
  handle : Nat
  start : Option Nat
  phase : Nat
  held : Int
deriving DecidableEq, Repr

/-- An analogue input (R493 to R498). -/
structure AnalogIn where
  source : Nat
  code : Int
  /-- The last 50 samples, newest first. -/
  window : List Int
  valid : Bool
  overrange : Bool
  /-- Since when VALID has had its value, and the value last reported by event. -/
  validSince : Nat
  told : Bool
  shuntOpen : Bool
  shuntAt : Nat
  calFail : Bool
  cal : Option Calibration
  /-- Calibration coefficients, ppm from the factory values. -/
  offset : Int
  gain : Int
deriving DecidableEq, Repr

/-- Detector sums over some samples (R509). -/
structure Detect where
  count : Nat
  hi : Int
  lo : Int
  squares : Nat
  env : Nat
deriving DecidableEq, Repr

/-- A filter chain (R503 to R510): per stage its latest inputs, newest first, each with its SATURATED flag. -/
structure Chain where
  stages : List (List (Int × Bool))
  /-- RESTARTED is due on the next value. -/
  restarted : Bool
  latest : Int
  lastInvalid : Option Nat
  lastCal : Option Nat
  /-- The packed sample under construction: flags, timestamp of the first value, values. -/
  flags : Nat
  first : Nat
  values : List Int
  /-- Detectors over the samples up to the last value, and over those after it. -/
  covered : Detect
  after : Detect
  env : Nat
  /-- Values since the latest SATURATED one; none outside an episode (R522). -/
  satRun : Option Nat
deriving DecidableEq, Repr

/-- A pulse input (R500, R501). -/
structure PulseIn where
  a : Bool
  b : Bool
  count : Word
  /-- Quarter steps of quadrature ×1. -/
  quarter : Int
  edgeAt : Nat
  lastA : Option Nat
  lastB : Option Nat
  qerr : Nat
  lastEvent : Option Nat
  /-- Count, quarter steps and edge time before the last counted edge, which a simultaneous change takes back (R500). -/
  before : Word × Int × Nat
deriving DecidableEq, Repr

/-- An analogue output (R512 to R516). -/
structure AnalogOut where
  code : Int
  clamped : Bool
  forced : Option Int
  hostCode : Int
  hostAt : Nat
  hostExpired : Bool
  atExpiry : Int
  openLoop : Bool
  short : Bool
  deviation : Bool
deriving DecidableEq, Repr

/-- The field I/O unit. -/
structure FieldIo where
  inReset : Bool
  inhibit : Bool
  channels : List DioChannel
  /-- Command bits of the latest dispatch, bit k (R470), and the duty value (R469). -/
  cmdBits : Nat
  duty : Bool
  terms : List LogicTerm
  /-- Frames without a dispatch, and expiry (R471). -/
  undispatched : Nat
  expired : Bool
  fld1 : Supply
  fld2 : Supply
  /-- The channel pulsed last in each connector group; 0 none (R467). -/
  pulseAt : List Nat
  namur : List Namur
  inputs : List AnalogIn
  /-- The latest sample instant (R495). -/
  sampledAt : Option Nat
  chains : List Chain
  pulses : List PulseIn
  outputs : List AnalogOut
deriving DecidableEq, Repr

/-- A digital channel after bring-up. -/
def DioChannel.reset : DioChannel :=
  { st := false, cmd := false, level := 0, wireBreak := false, extDrive := false, overload := false, readback := false,
    groupOverload := false, supplyOff := false, restartWait := false, forced := none, hostValue := false, hostAt := 0,
    hostExpired := false, atExpiry := false, testFails := 0, pulsing := false, pulseSince := 0 }

/-- An analogue input after bring-up. -/
def AnalogIn.reset (source : Nat) : AnalogIn :=
  { source := source, code := 0, window := [], valid := false, overrange := false, validSince := 0, told := false,
    shuntOpen := false, shuntAt := 0, calFail := false, cal := none, offset := 0, gain := 0 }

/-- No sample covered. -/
def Detect.none : Detect := { count := 0, hi := 0, lo := 0, squares := 0, env := 0 }

/-- A chain at a restart (R507). -/
def Chain.restart : Chain :=
  { stages := [[], [], [], []], restarted := true, latest := 0, lastInvalid := .none, lastCal := .none, flags := 0,
    first := 0, values := [], covered := .none, after := .none, env := 0, satRun := .none }

/-- A pulse input after bring-up. -/
def PulseIn.reset : PulseIn :=
  { a := false, b := false, count := 0, quarter := 0, edgeAt := 0, lastA := none, lastB := none, qerr := 0,
    lastEvent := none, before := (0, 0, 0) }

/-- An analogue output after bring-up. -/
def AnalogOut.reset : AnalogOut :=
  { code := 0, clamped := false, forced := none, hostCode := 0, hostAt := 0, hostExpired := false, atExpiry := 0,
    openLoop := false, short := false, deviation := false }

/-- The chain source codes (R493). -/
def chainSources : List Nat :=
  (List.range 16).map (· + 1) ++ [0x20, 0x21, 0x22, 0x28, 0x29] ++ (List.range 6).map (· + 0x30)
    ++ (List.range 4).map (· + 0x40)

/-- The unit after bring-up: every output off (R474). -/
def FieldIo.reset : FieldIo :=
  { inReset := false, inhibit := false, channels := List.replicate 32 .reset, cmdBits := 0, duty := false,
    terms := List.replicate 64 { out := false, ones := 0, zeros := 0 }, undispatched := 0, expired := false,
    fld1 := { st := .normal, volts := 2400 }, fld2 := { st := .normal, volts := 2400 }, pulseAt := [0, 0, 0, 0],
    namur := List.replicate 6 { st := false, valid := false }, inputs := chainSources.map AnalogIn.reset, sampledAt := none,
    chains := List.replicate 24 .restart, pulses := [.reset, .reset], outputs := List.replicate 4 .reset }

end Sys2Proof.Machine
end

