-- ==== Sys2Proof/Machine/Bytes.lean ====
section
/-!
DEFINITION. Byte order, bit fields, checks and the wrapping comparisons shared by every unit (R7 to R9, R15, R16, R21).
-/

namespace Sys2Proof.Machine

/-- The n bytes of v, least significant first (R15). -/
def le : Nat → Nat → List Byte
  | 0, _ => []
  | n + 1, v => BitVec.ofNat 8 (v % 256) :: le n (v / 256)

/-- The n bytes of an integer in two's complement, least significant first. -/
def leInt (n : Nat) (v : Int) : List Byte := le n (v % (256 ^ n : Nat)).toNat

/-- The value of a little-endian byte list. -/
def ofLe : List Byte → Nat
  | [] => 0
  | b :: bs => b.toNat + 256 * ofLe bs

/-- The value of a big-endian byte list. -/
def ofBe (bs : List Byte) : Nat := bs.foldl (fun n b => n * 256 + b.toNat) 0

/-- The n bytes of v, most significant first. -/
def be (n v : Nat) : List Byte := (le n v).reverse

/-- n bytes of a list from an offset; bytes past the end read as 0. -/
def slice (bs : List Byte) (off n : Nat) : List Byte :=
  (List.range n).map fun i => bs.getD (off + i) 0

/-- The unsigned field of n bytes at an offset. -/
def field (bs : List Byte) (off n : Nat) : Nat := ofLe (slice bs off n)

/-- The signed value of an unsigned n-bit one. -/
def signed (n v : Nat) : Int := if v < 2 ^ (n - 1) then (v : Int) else (v : Int) - (2 ^ n : Nat)

/-- The signed field of n bytes at an offset. -/
def fieldInt (bs : List Byte) (off n : Nat) : Int := signed (8 * n) (field bs off n)

/-- Bit i of a number (R16). -/
def bit (v i : Nat) : Bool := v.testBit i

/-- Bits hi down to lo of a number (R16). -/
def bits (v hi lo : Nat) : Nat := v / 2 ^ lo % 2 ^ (hi - lo + 1)

/-- 1 for true, 0 for false. -/
def b2n (b : Bool) : Nat := if b then 1 else 0

/-- A list padded with zero bytes to a multiple of 4 (R84). -/
def pad4 (bs : List Byte) : List Byte := bs ++ List.replicate ((4 - bs.length % 4) % 4) 0

/-- An integer limited to the range of int32. -/
def sat32 (v : Int) : Int := if v > 2147483647 then 2147483647 else if v < -2147483648 then -2147483648 else v

/-- An integer limited to lo to hi. -/
def clampInt (lo hi v : Int) : Int := if v < lo then lo else if hi < v then hi else v

/-- The wrapped difference of two binary angles, −180° up to +180° (R8). -/
def angleDiff (a b : Nat) : Int := signed 32 (((a : Int) - (b : Int)) % 4294967296).toNat

/-- A binary angle plus a signed angle, wrapped (R7). -/
def angleAdd (a : Nat) (d : Int) : Nat := (((a : Int) + d) % 4294967296).toNat

/-- A wrapped int32 sum. -/
def wrap32 (v : Int) : Int := signed 32 (v % 4294967296).toNat

/-- Division by 2^n rounding half up (R10). -/
def shrRound (v : Int) (n : Nat) : Int := if n = 0 then v else (v + (2 ^ (n - 1) : Nat)) / (2 ^ n : Nat)

/-- Division by a positive divisor rounding half up. -/
def divRound (v : Int) (d : Nat) : Int := (2 * v + d) / (2 * d)

/-- a is later than b among n-bit sequence numbers (R21). -/
def seqLater (n a b : Nat) : Bool :=
  let d := (a + 2 ^ n - b % 2 ^ n) % 2 ^ n
  1 ≤ d ∧ d ≤ 2 ^ (n - 1) - 1

/-- One bit of a reflected CRC-32C register. -/
def crcBit (r : BitVec 32) : BitVec 32 :=
  if r.getLsbD 0 then (r >>> 1) ^^^ 0x82F63B78#32 else r >>> 1

/-- One byte into the CRC-32C register. -/
def crcByte (r : BitVec 32) (b : Byte) : BitVec 32 :=
  crcBit (crcBit (crcBit (crcBit (crcBit (crcBit (crcBit (crcBit (r ^^^ b.setWidth 32))))))))

/-- CRC-32C: initial value and final XOR 0xFFFF_FFFF, reflected (R442, R565). -/
def crc32c (bs : List Byte) : BitVec 32 := (bs.foldl crcByte 0xFFFFFFFF#32) ^^^ 0xFFFFFFFF#32

/-- One bit of the CRC-24Q register of RTCM 3 (R141). -/
def crc24Bit (r : BitVec 24) : BitVec 24 :=
  if r.getMsbD 0 then (r <<< 1) ^^^ 0x864CFB#24 else r <<< 1

/-- One byte into the CRC-24Q register. -/
def crc24Byte (r : BitVec 24) (b : Byte) : BitVec 24 :=
  crc24Bit (crc24Bit (crc24Bit (crc24Bit (crc24Bit (crc24Bit (crc24Bit (crc24Bit
    (r ^^^ (b.setWidth 24 <<< 16)))))))))

/-- CRC-24Q of a byte list. -/
def crc24q (bs : List Byte) : BitVec 24 := bs.foldl crc24Byte 0

/-- Integer square root: the largest r with r * r ≤ n, by binary digits from bit k down. -/
def isqrtFrom : Nat → Nat → Nat → Nat
  | 0, n, r => if (r + 1) * (r + 1) ≤ n then r + 1 else r
  | k + 1, n, r =>
    let c := r + 2 ^ (k + 1)
    isqrtFrom k n (if c * c ≤ n then c else r)

/-- Integer square root of a number below 2^256. -/
def isqrt (n : Nat) : Nat := isqrtFrom 128 n 0

/-- The entry of a list at an index, replaced. -/
def setAt {α : Type} (l : List α) (i : Nat) (f : α → α) : List α :=
  match l, i with
  | [], _ => []
  | a :: as, 0 => f a :: as
  | a :: as, n + 1 => a :: setAt as n f

/-- The value stored under a key of an association list. -/
def assoc {β : Type} (l : List (Nat × β)) (k : Nat) : Option β :=
  match l with
  | [] => none
  | (k', v) :: t => if k' = k then some v else assoc t k

/-- A key of an association list set, keys rising; an existing entry is replaced. -/
def assocSet {β : Type} (l : List (Nat × β)) (k : Nat) (v : β) : List (Nat × β) :=
  match l with
  | [] => [(k, v)]
  | (k', v') :: t =>
    if k' = k then (k, v) :: t
    else if k < k' then (k, v) :: (k', v') :: t
    else (k', v') :: assocSet t k v

/-- A key of an association list removed. -/
def assocErase {β : Type} (l : List (Nat × β)) (k : Nat) : List (Nat × β) :=
  l.filter fun e => e.1 ≠ k

/-- Bytes with some changed: `err` is added without carry, byte by byte. -/
def changedBytes (bs err : List Byte) : List Byte := bs.zipIdx.map fun p => p.1 ^^^ err.getD p.2 0

end Sys2Proof.Machine
end

