-- ==== Sys2Proof/Machine/Angles.lean ====
section
/-!
DEFINITION. Sines, cosines and directions of binary angles, rounded half up from their exact value (R7, R215, R267).
They are evaluated in fixed point with 192 fraction bits, from a series.
-/

namespace Sys2Proof.Machine

/-- π in units of 2^-192, rounded down. -/
def piFix : Nat := 0x3243f6a8885a308d313198a2e03707344a4093822299f31d0

/-- The fixed-point one. -/
def oneFix : Nat := 2 ^ 192

/-- Terms of the sine series from power k on: x^k/k! − x^(k+2)/(k+2)! + …, `term` being the first, `x2` the square of x. -/
def sineTerms : Nat → Nat → Nat → Nat → Int
  | 0, _, _, _ => 0
  | n + 1, k, x2, term =>
    (term : Int) - sineTerms n (k + 2) x2 (term * x2 / (oneFix * ((k + 1) * (k + 2))))

/-- Sine of x in the first quadrant, x in units of 2^-192 rad. -/
def sineFix (x : Nat) : Int := sineTerms 30 1 (x * x / oneFix) x

/-- Cosine of x in the first quadrant. -/
def cosineFix (x : Nat) : Int := sineTerms 30 0 (x * x / oneFix) oneFix

/-- Radians, in units of 2^-192, of an angle of a parts of 2^n parts in a quarter turn. -/
def quarterRad (n a : Nat) : Nat := piFix * a / 2 ^ (n + 1)

/-- Sine of the binary angle a of 32 bits, in units of 2^-192. -/
def sinAngle (a : Nat) : Int :=
  let q := a / 2 ^ 30 % 4
  let x := quarterRad 30 (a % 2 ^ 30)
  if q = 0 then sineFix x else if q = 1 then cosineFix x
  else if q = 2 then -sineFix x else -cosineFix x

/-- Cosine of a binary angle. -/
def cosAngle (a : Nat) : Int := sinAngle (a + 2 ^ 30)

/-- Sine of a binary angle in Q1.30, rounded half up (R267). -/
def sinQ30 (a : Nat) : Int := shrRound (sinAngle a) 162

/-- Cosine of a binary angle in Q1.30. -/
def cosQ30 (a : Nat) : Int := shrRound (cosAngle a) 162

/-- The largest half-LSB angle k of the first quadrant, k below 2^31, with tan k ≤ y / x; x and y not negative. -/
def atanFrom : Nat → Nat → Nat → Nat → Nat
  | 0, _, _, k => k
  | n + 1, x, y, k =>
    let c := k + 2 ^ n
    let r := quarterRad 31 c
    atanFrom n x y (if sineFix r * x ≤ cosineFix r * y then c else k)

/-- Half-LSB direction of (x, y) in the first quadrant, the diagonal taken exactly. -/
def atanHalf (x y : Nat) : Nat :=
  if y = 0 then 0 else if x = y then 2 ^ 30 else atanFrom 31 x y 0

/-- The binary angle from the x axis towards the y axis, rounded half up and wrapped; (0, 0) gives 0 (R215, R267). -/
def direction (x y : Int) : Nat :=
  if x = 0 ∧ y = 0 then 0
  else
    let ax := x.natAbs
    let ay := y.natAbs
    let k :=
      if 0 < x ∧ 0 ≤ y then atanHalf ax ay
      else if x ≤ 0 ∧ 0 < y then 2 ^ 31 + atanHalf ay ax
      else if x < 0 then 2 ^ 32 + atanHalf ax ay
      else 3 * 2 ^ 31 + atanHalf ay ax
    (k + 1) / 2 % 4294967296

/-- The largest half-LSB angle k of the first quadrant with sin k ≤ s / n. -/
def asinFrom : Nat → Nat → Nat → Nat → Nat
  | 0, _, _, k => k
  | m + 1, s, n, k =>
    let c := k + 2 ^ m
    asinFrom m s n (if sineFix (quarterRad 31 c) * n ≤ s * oneFix then c else k)

/-- arcsin(s / n) as an angle difference, rounded half up; |s| does not exceed n (R215). -/
def arcsinAngle (s : Int) (n : Nat) : Int :=
  if s = 0 then 0
  else if n ≤ s.natAbs then (if 0 < s then 1073741824 else -1073741824)
  else
    let k := asinFrom 31 s.natAbs n 0
    if 0 < s then ((k + 1) / 2 : Nat) else -((k + 1) / 2 : Nat)

/-- Rotation of (x, y) by a binary angle, or by its transpose; each sum exact, then shifted by 30 with rounding (R267). -/
def rotate (a : Nat) (transpose : Bool) (x y : Int) : Int × Int :=
  let s := sinQ30 a
  let c := cosQ30 a
  if transpose then (shrRound (c * x + s * y) 30, shrRound (-s * x + c * y) 30)
  else (shrRound (c * x - s * y) 30, shrRound (s * x + c * y) 30)

end Sys2Proof.Machine
end

