-- ==== Sys2Proof/Machine/Float64.lean ====
section
/-!
DEFINITION. IEEE 754 binary64 as rules 1 to 6 of R340 use it: round to nearest even, subnormal numbers kept, fused multiply-add.
A finite value is ±m × 2^e in its one canonical form.
-/

namespace Sys2Proof.Machine

/-- A binary64 value; a finite one has m below 2^53, e at least −1074, and m at least 2^52 unless e is −1074. -/
inductive F64 where
  | nan
  | inf (neg : Bool)
  | fin (neg : Bool) (m : Nat) (e : Int)
deriving DecidableEq, Repr, Inhabited

/-- Zero with a sign. -/
def F64.zeroOf (neg : Bool) : F64 := .fin neg 0 (-1074)

/-- +0. -/
def F64.zero : F64 := .zeroOf false

/-- m × 2^e rounded to nearest, ties to even. -/
def F64.round (neg : Bool) (m : Nat) (e : Int) : F64 :=
  if m = 0 then .zeroOf neg
  else
    let e' := max (e + (m.log2 : Int) - 52) (-1074)
    let r : Nat × Int :=
      if e' ≤ e then (m * 2 ^ (e - e').toNat, e')
      else
        let d := (e' - e).toNat
        let q := m / 2 ^ d
        let rem := m % 2 ^ d
        let q := if 2 * rem > 2 ^ d ∨ (2 * rem = 2 ^ d ∧ q % 2 = 1) then q + 1 else q
        if q = 2 ^ 53 then (2 ^ 52, e' + 1) else (q, e')
    if r.2 > 971 then .inf neg else .fin neg r.1 r.2

/-- The value of an integer times a power of two, rounded. -/
def F64.ofIntExp (v : Int) (e : Int) : F64 := F64.round (decide (v < 0)) v.natAbs e

/-- The value of an integer. -/
def F64.ofInt (v : Int) : F64 := F64.ofIntExp v 0

/-- The value of a / b for integers, b positive, rounded once. -/
def F64.ofRat (a : Int) (b : Nat) : F64 :=
  let k := 64 + b.log2 + 1
  let n := a.natAbs * 2 ^ k
  let q := n / b
  let s := if n % b = 0 then 0 else 1
  F64.round (decide (a < 0)) (2 * q + s) (-(k : Int) - 1)

/-- The decimal a × 10^-d. -/
def F64.dec (a : Int) (d : Nat) : F64 := F64.ofRat a (10 ^ d)

/-- Negation. -/
def F64.neg : F64 → F64
  | .nan => .nan
  | .inf s => .inf (!s)
  | .fin s m e => .fin (!s) m e

/-- Absolute value. -/
def F64.abs : F64 → F64
  | .nan => .nan
  | .inf _ => .inf false
  | .fin _ m e => .fin false m e

/-- The signed mantissa. -/
def smant (s : Bool) (m : Nat) : Int := if s then -(m : Int) else m

/-- Exact sum of two finite values, rounded; an exact zero from opposite signs is +0. -/
def F64.addFin (s1 : Bool) (m1 : Nat) (e1 : Int) (s2 : Bool) (m2 : Nat) (e2 : Int) : F64 :=
  let e := min e1 e2
  let v := smant s1 m1 * (2 ^ (e1 - e).toNat : Nat) + smant s2 m2 * (2 ^ (e2 - e).toNat : Nat)
  if v = 0 then .zeroOf (s1 && s2) else F64.ofIntExp v e

/-- Addition. -/
def F64.add : F64 → F64 → F64
  | .nan, _ => .nan
  | _, .nan => .nan
  | .inf a, .inf b => if a = b then .inf a else .nan
  | .inf a, .fin _ _ _ => .inf a
  | .fin _ _ _, .inf b => .inf b
  | .fin s1 m1 e1, .fin s2 m2 e2 => F64.addFin s1 m1 e1 s2 m2 e2

/-- Subtraction. -/
def F64.sub (a b : F64) : F64 := a.add b.neg

/-- Multiplication. -/
def F64.mul : F64 → F64 → F64
  | .nan, _ => .nan
  | _, .nan => .nan
  | .inf a, .inf b => .inf (a != b)
  | .inf a, .fin b m _ => if m = 0 then .nan else .inf (a != b)
  | .fin a m _, .inf b => if m = 0 then .nan else .inf (a != b)
  | .fin a m1 e1, .fin b m2 e2 => F64.round (a != b) (m1 * m2) (e1 + e2)

/-- Fused multiply-add a × b + c, rounded once. -/
def F64.fma (a b c : F64) : F64 :=
  match a, b, c with
  | .fin s1 m1 e1, .fin s2 m2 e2, .fin s3 m3 e3 => F64.addFin (s1 != s2) (m1 * m2) (e1 + e2) s3 m3 e3
  | .fin _ _ _, .fin _ _ _, c => c
  | a, b, c => (a.mul b).add c

/-- Division. -/
def F64.div : F64 → F64 → F64
  | .nan, _ => .nan
  | _, .nan => .nan
  | .inf _, .inf _ => .nan
  | .inf a, .fin b _ _ => .inf (a != b)
  | .fin a _ _, .inf b => .zeroOf (a != b)
  | .fin a m1 e1, .fin b m2 e2 =>
    if m2 = 0 then (if m1 = 0 then .nan else .inf (a != b))
    else
      let n := m1 * 2 ^ 120
      let q := n / m2
      let s := if n % m2 = 0 then 0 else 1
      F64.round (a != b) (2 * q + s) (e1 - e2 - 121)

/-- Square root. -/
def F64.sqrt : F64 → F64
  | .nan => .nan
  | .inf s => if s then .nan else .inf false
  | .fin s m e =>
    if m = 0 then .fin s m e
    else if s then .nan
    else
      let k : Nat := if e % 2 = 0 then 120 else 121
      let n := m * 2 ^ k
      let r := isqrt n
      let st := if r * r = n then 0 else 1
      F64.round false (2 * r + st) ((e - k) / 2 - 1)

/-- a < b, false when either is a NaN. -/
def F64.lt : F64 → F64 → Bool
  | .nan, _ => false
  | _, .nan => false
  | .inf a, .inf b => a && !b
  | .inf a, .fin _ _ _ => a
  | .fin _ _ _, .inf b => !b
  | .fin s1 m1 e1, .fin s2 m2 e2 =>
    let e := min e1 e2
    smant s1 m1 * (2 ^ (e1 - e).toNat : Nat) < smant s2 m2 * (2 ^ (e2 - e).toNat : Nat)

/-- a ≤ b. -/
def F64.le (a b : F64) : Bool :=
  match a, b with
  | .nan, _ => false
  | _, .nan => false
  | a, b => !(b.lt a)

/-- The larger of two values. -/
def F64.max (a b : F64) : F64 := if a.lt b then b else a

/-- The smaller of two values. -/
def F64.min (a b : F64) : F64 := if b.lt a then b else a

/-- Not a NaN and not infinite. -/
def F64.finite : F64 → Bool
  | .fin _ _ _ => true
  | _ => false

/-- Whether a value is a zero of either sign. -/
def F64.isZero : F64 → Bool
  | .fin _ m _ => m = 0
  | _ => false

/-- The nearest int32, ties to even, limited to the bounds; a NaN gives 0 (rule 6 of R340). -/
def F64.toInt32 : F64 → Int
  | .nan => 0
  | .inf s => if s then -2147483648 else 2147483647
  | .fin s m e =>
    if 0 ≤ e then sat32 (smant s (m * 2 ^ e.toNat))
    else
      let d := (-e).toNat
      let q := m / 2 ^ d
      let rem := m % 2 ^ d
      let q := if 2 * rem > 2 ^ d ∨ (2 * rem = 2 ^ d ∧ q % 2 = 1) then q + 1 else q
      sat32 (smant s q)

/-- An inner product in ascending index, each term fused, from +0 (rule 2 of R340). -/
def F64.dot (a b : List F64) : F64 := (a.zip b).foldl (fun acc p => F64.fma p.1 p.2 acc) .zero

/-- A sum from left to right (rule 3 of R340). -/
def F64.sum : List F64 → F64
  | [] => .zero
  | x :: xs => xs.foldl F64.add x

/-- A finite value as a ratio: numerator and power of two of the denominator. -/
def F64.ratio : F64 → Int × Nat
  | .fin s m e => if 0 ≤ e then (smant s (m * 2 ^ e.toNat), 0) else (smant s m, (-e).toNat)
  | _ => (0, 0)

/-- Radians in units of 2^-192 reduced to one turn, the sine taken exactly enough and rounded once: the sine of a binary64 argument. -/
def F64.sinShift (quarters : Nat) (x : F64) : F64 :=
  if x.isZero ∧ quarters = 0 then x
  else
    let r := x.ratio
    let fix : Int := r.1 * (2 ^ 192 : Nat) / (2 ^ r.2 : Nat)
    let half : Int := piFix / 2
    let q := fix / half + quarters
    let y := (fix % half).toNat
    let v : Int :=
      if q % 4 = 0 then sineFix y else if q % 4 = 1 then cosineFix y
      else if q % 4 = 2 then -sineFix y else -cosineFix y
    F64.ofIntExp v (-192)

/-- Correctly rounded sine of a binary64 argument (R719). -/
def F64.sin (x : F64) : F64 := if x.finite then x.sinShift 0 else .nan

/-- Correctly rounded cosine of a binary64 argument. -/
def F64.cos (x : F64) : F64 := if x.finite then x.sinShift 1 else .nan

/-- A geodetic position: latitude int32, longitude uint32, height 0.1 mm (R719). -/
structure Geodetic where
  lat : Int
  lon : Nat
  height : Int
deriving DecidableEq, Repr

/-- The Earth-centred coordinates and the sines and cosines R719 forms for one position: X, Y, Z, s, c, sin rl, cos rl. -/
def Geodetic.ecef (g : Geodetic) : F64 × F64 × F64 × F64 × F64 × F64 × F64 :=
  let one := F64.ofInt 1
  let f := one.div (F64.dec 298257223563 9)
  let e2 := f.mul ((F64.ofInt 2).sub f)
  let k := (F64.ofRat piFix oneFix).div (F64.ofInt 2147483648)
  let rp := (F64.ofInt g.lat).mul k
  let rl := (F64.ofInt g.lon).mul k
  let hm := (F64.ofInt g.height).div (F64.ofInt 10000)
  let s := rp.sin
  let c := rp.cos
  let n := (F64.ofInt 6378137).div (one.sub (e2.mul (s.mul s))).sqrt
  let x := ((n.add hm).mul c).mul rl.cos
  let y := ((n.add hm).mul c).mul rl.sin
  let z := ((n.mul (one.sub e2)).add hm).mul s
  (x, y, z, s, c, rl.sin, rl.cos)

/-- A geodetic position in the Earth frame about an origin: north, east, down in 0.1 mm (R719). -/
def toEarth (o p : Geodetic) : Int × Int × Int :=
  let (x0, y0, z0, s0, c0, sl, cl) := o.ecef
  let (x, y, z, _, _, _, _) := p.ecef
  let dx := x.sub x0
  let dy := y.sub y0
  let dz := z.sub z0
  let north := (((s0.mul cl).neg.mul dx).sub ((s0.mul sl).mul dy)).add (c0.mul dz)
  let east := (sl.neg.mul dx).add (cl.mul dy)
  let down := (((c0.mul cl).neg.mul dx).sub ((c0.mul sl).mul dy)).sub (s0.mul dz)
  let mk (v : F64) : Int := (v.mul (F64.ofInt 10000)).toInt32
  (mk north, mk east, mk down)

end Sys2Proof.Machine
end

