-- ==== Sys2Proof/Machine/Types/Gnss.lean ====
section
/-!
DEFINITION. State of the GNSS baseband (R104 to R159, R717).
-/

namespace Sys2Proof.Machine

/-- Bias state of an antenna input (R105), coded as BIAS_STATE of R135. -/
inductive BiasState where
  | ok
  | opened
  | overload
  | disabled
deriving DecidableEq, Repr

/-- One antenna input: the bias supply and the conditions being timed (R105). -/
structure Antenna where
  bias : BiasState
  /-- Latest bias current, 0.1 mA. -/
  current : Nat
  biasOn : Bool
  lowSince : Option Nat
  highSince : Option Nat
  retestDue : Option Nat
deriving DecidableEq, Repr

/-- Tracking stage of a channel (R124 to R126, R154): pull-in, phase lock, or lock lost. -/
inductive ChStage where
  | fll
  | pll
  | lost
deriving DecidableEq, Repr

/-- An assigned tracking channel (R114): its assignment, stage and record flags (R136). -/
structure Channel where
  ant : Nat
  ch : Nat
  sys : Nat
  svid : Nat
  signal : Nat
  gloK : Int
  stage : ChStage
  /-- Start of the present stage. -/
  since : Nat
  /-- Start of carrier lock. -/
  lockStart : Nat
  bitSync : Bool
  cpValid : Bool
  halfCycle : Bool
  slip : Bool
  /-- Whole cycles the carrier phase was set to at the start of lock (R130), once a record has been formed since. -/
  cycles : Option Int
deriving DecidableEq, Repr

/-- One adaptive notch (R150). -/
structure Notch where
  engaged : Bool
  /-- Frequency bin of the line it stands on. -/
  line : Nat
  /-- Since when the line has been below 10 dB. -/
  lowSince : Option Nat
deriving DecidableEq, Repr

/-- One RF chain: antenna 0 or 1, chain 0 L1, 1 L2, 2 L5 (R106), with its flags (R151). -/
structure RfChain where
  ant : Nat
  chain : Nat
  notch1 : Notch
  notch2 : Notch
  agc : Int
  agcLowSince : Option Nat
  dropSince : Option Nat
  flags : BitVec 4
  lastEvent : Option Nat
  /-- AGC gain and mean C/N0 of the chain's records at the epochs of the last 60 s, newest first: time, 0.01 dB, 0.01 dB-Hz. -/
  history : List (Nat × Int × Int)
  /-- Latest spectrum scan (R150). -/
  scanAt : Option Nat
deriving DecidableEq, Repr

/-- A decoded navigation data set or SBAS message (R138). -/
structure NavSet where
  sys : Nat
  svid : Nat
  kind : Nat
  signal : Nat
  iod : Nat
  nbits : Nat
  rxMono : Nat
  bits : List Byte
deriving DecidableEq, Repr

/-- What is known of a satellite when its search starts (R120): nothing, with the OCXO warm or not yet warm; almanac or ephemeris,
position and time; an outage of less than 60 s. -/
inductive Knowledge where
  | noneWarm
  | noneCold
  | predicted
  | outage
deriving DecidableEq, Repr

/-- An acquisition engine at work on one satellite (R119 to R121): the search space, the correlations done in it, and the cell of a
detection that waits for its confirmation (Doppler bin, code point). -/
structure AcqEngine where
  ant : Nat
  sys : Nat
  svid : Nat
  gloK : Int
  know : Knowledge
  done : Nat
  cell : Option (Nat × Nat)
deriving DecidableEq, Repr

/-- A satellite acquired by a confirmed detection (R121), with its GLONASS frequency channel. -/
structure Acquired where
  sys : Nat
  svid : Nat
  gloK : Int
deriving DecidableEq, Repr

/-- A stored ephemeris: the set, until when it is valid (TAI ns), and whether it marks the satellite healthy (R116, R122, R139). -/
structure StoredEph where
  set : NavSet
  validTo : Nat
  healthy : Bool
deriving DecidableEq, Repr

/-- The assistance store (R122): latest ephemerides, almanac pages and when the newest was received (TAI ns), last position, GLONASS
frequency channels by slot. -/
structure Assist where
  eph : List StoredEph
  almanac : List NavSet
  almanacTai : Option Nat
  position : Option Geodetic
  gloK : List (Nat × Int)
deriving DecidableEq, Repr

/-- How the baseband started (R123). -/
inductive StartType where
  | hot
  | warm
  | cold
deriving DecidableEq, Repr

/-- One spoofing indicator: whether its bit is set, when its condition was last met, and the satellites it implicates (R152). -/
structure SpoofBit where
  set : Bool
  lastMet : Nat
  sats : List (Nat × Nat)
deriving DecidableEq, Repr

/-- The baseband. -/
structure Gnss where
  antA : Antenna
  antB : Antenna
  channels : List Channel
  capacity : Bool
  /-- Satellites the channel manager wants and has not acquired (R116, R118), and those acquired (R121). -/
  searching : List (Nat × Nat)
  acquired : List Acquired
  /-- Strobe of the latest epoch, and of the epoch after which the channel manager last ran (R115). -/
  latchAt : Option Nat
  managerAt : Option Nat
  /-- Loop parameters as taken over at the latest latch (R124); an item not listed has its present value. -/
  loop : List (Nat × Nat)
  /-- Engines 0 to 7 at work. -/
  engines : List (Nat × AcqEngine)
  chains : List RfChain
  spoof : List SpoofBit
  /-- Satellites whose navigation data has met the NAVDATA condition since the latest epoch (R152). -/
  navdata : List (Nat × Nat)
  /-- Exclusion list (R118). -/
  excluded : List (Nat × Nat)
  /-- Ephemeris store, at most 128 sets, and the round-robin pointer (R139). -/
  store : List StoredEph
  repeatAt : Nat
  /-- Almanac pages and ionosphere and time sets held, one of each kind, satellite, signal and issue (R138); the newest almanac page. -/
  pages : List NavSet
  almanacTai : Option Nat
  /-- Latest SBAS message of each type and its repeat pointer (R139). -/
  sbas : List NavSet
  sbasAt : Nat
  /-- Navigation data waiting for a frame (R139). -/
  ephQueue : List NavSet
  /-- New data sets sent since the latest cut-off, at most 15 (R139). -/
  ephCount : Nat
  /-- TAI − UTC and leap announcement from the decoded UTC parameters (R184). -/
  utc : Option (Int × Int)
  /-- Broadcast offsets of the systems' times from GPS time, 0.1 ns, and GLONASS frequency channels by slot (R122, R131). -/
  offsets : List (Nat × Int)
  gloK : List (Nat × Int)
  /-- Divider count (R127) and the divider in force. -/
  divCount : Nat
  divider : Nat
  stepGenSeen : Bool
  restarting : Bool
  start : StartType
  solValid : Bool
  lostAll : Bool
  /-- CLK_BIAS (0.1 ns) and CLK_DRIFT of the latest solution (R134), and the strobe of its latch. -/
  clkBias : Int
  clkDrift : Int
  clkAt : Nat
  /-- The monotonic clock against GNSS-derived TAI in that solution, 0.1 ns: CLK_BIAS without the module-time offset (R152). -/
  clkRef : Option Int
  /-- The latest online check of the bias supply and the notch filters passed (R157). -/
  onlineOk : Bool
  /-- The last position, and how far off it may be, km (R116, R120, R122, R123). -/
  position : Option Geodetic
  positionKm : Nat
  /-- GNSS-NAV header bytes of the latest epoch, for GNSS_STATUS (R134). -/
  lastNav : List Byte
  lastAnt : List (List Byte)
  /-- Assistance store contents and the time of the last write (R122). -/
  assist : Assist
  assistAt : Nat
  /-- Handle of the RF self-test in progress (R157), if one runs. -/
  rfTest : Option Nat
deriving DecidableEq, Repr

/-- An antenna right after reset. -/
def Antenna.reset : Antenna :=
  { bias := .ok, current := 0, biasOn := true, lowSince := none, highSince := none, retestDue := none }

/-- A released notch. -/
def Notch.reset : Notch := { engaged := false, line := 0, lowSince := none }

/-- A chain with both notches released. -/
def RfChain.reset (ant chain : Nat) : RfChain :=
  { ant := ant, chain := chain, notch1 := .reset, notch2 := .reset, agc := 0, agcLowSince := none,
    dropSince := none, flags := 0, lastEvent := none, history := [], scanAt := none }

/-- A clear indicator. -/
def SpoofBit.reset : SpoofBit := { set := false, lastMet := 0, sats := [] }

/-- An empty assistance store. -/
def Assist.reset : Assist := { eph := [], almanac := [], almanacTai := none, position := none, gloK := [] }

/-- The baseband at release from reset: no channel in lock, epochs carry RESTARTING (R154). -/
def Gnss.reset : Gnss :=
  { antA := .reset, antB := .reset, channels := [], capacity := false, searching := [], acquired := [], latchAt := none,
    managerAt := none, loop := [], engines := [],
    chains := [.reset 0 0, .reset 0 1, .reset 0 2, .reset 1 0, .reset 1 1, .reset 1 2],
    spoof := [.reset, .reset, .reset, .reset, .reset, .reset], navdata := [], excluded := [], store := [], repeatAt := 0, pages := [],
    almanacTai := none, sbas := [], sbasAt := 0, ephQueue := [], ephCount := 0, utc := none, offsets := [], gloK := [], divCount := 0,
    divider := 1, stepGenSeen := false, restarting := true, start := .cold, solValid := false, lostAll := false, clkBias := 0,
    clkDrift := 0, clkAt := 0, clkRef := none, onlineOk := true, position := none, positionKm := 0, lastNav := [], lastAnt := [], assist := .reset,
    assistAt := 0, rfTest := none }

end Sys2Proof.Machine
end

