-- ==== Sys2Proof/Machine/Types/Fusion.lean ====
section
/-!
DEFINITION. State of reference tracking, fusion and alignment in one lane (R201 to R253).
-/

namespace Sys2Proof.Machine

/-- What a sample says once its sentence, packet or record is parsed (R205). -/
inductive Meas where
  /-- GGA or GNS: position, quality codes of the sentence (R223), UTC time of day in ns (R720). -/
  | geo (p : Geodetic) (quality : List Nat) (tod : Nat)
  /-- GST: standard deviations of latitude and longitude error in mm, UTC time of day in ns. -/
  | gst (latSd lonSd tod : Nat)
  /-- Range (0.1 mm) and bearing to a fixed or moving target, with the target-lost flag. -/
  | polar (range : Int) (bearing : Nat) (lost : Bool)
  /-- Taut wire: fore-aft and athwartship angle, as angle differences. -/
  | wire (foreAft athwart : Int)
  /-- Heading, binary angle. -/
  | heading (a : Nat)
  /-- Roll, pitch (angle differences), heave (0.1 mm), roll, pitch and yaw rate (µrad/s). -/
  | motion (roll pitch heave p q r : Int)
  /-- Relative wind speed (µm/s) and direction at the sensor (binary angle). -/
  | wind (speed : Int) (dir : Nat)
  /-- Internal GNSS solution of the lane (R234 to R236): mode, antenna B used, satellites removed, epoch failed. -/
  | gnss (p : Geodetic) (mode : Nat) (antB : Bool) (removed : List (Nat × Nat)) (failed : Bool)
  /-- GNSS heading of the baseline (R147, R239): azimuth, fix formed, baseline length in 0.1 mm. -/
  | baseline (azimuth : Nat) (fixed : Bool) (len : Nat)
deriving DecidableEq, Repr

/-- A sample of a reference as fusion holds it: timing (R208 to R211), flags and contents. -/
structure RefSample where
  ref : Nat
  arrival : Nat
  portTs : Nat
  tm : Int
  timeSuspect : Bool
  /-- The sample carries INVALID or fails its parser check (R223). -/
  bad : Bool
  calibrating : Bool
  /-- Reported variance, mm² or µrad². -/
  variance : Option Nat
  retro : Bool
  meas : Meas
deriving DecidableEq, Repr

/-- Covariance of one axis: position variance (µm² or µrad²), cross term (per s), velocity variance (per s²) (R219). -/
structure Cov where
  pp : Int
  pv : Int
  vv : Int
deriving DecidableEq, Repr

/-- The track of a reference: value a and b (north and east in 0.1 mm; heading; wind components), their rates
(µm/s; binary-angle LSB/s), covariances, and its time (R219, R220). -/
structure Track where
  time : Int
  a : Int
  b : Int
  va : Int
  vb : Int
  ca : Cov
  cb : Cov
deriving DecidableEq, Repr

/-- A measurement record of the baseband as the lanes read it (R136). -/
structure GnssRec where
  sys : Nat
  svid : Nat
  signal : Nat
  gloK : Int
  mflags : Nat
  pr : Int
  cp : Int
  doppler : Int
  cn0 : Nat
  prSigma : Nat
  lockMs : Nat
  cpSigma : Nat
deriving DecidableEq, Repr

/-- A correction stream (R141, R142): the station's ID and reference point, the latest message of each number the lanes use, and when the
latest observations came. -/
structure Corrections where
  source : Nat
  station : Option Nat
  point : Option (List Byte)
  messages : List (Nat × List Byte)
  observedAt : Nat
deriving DecidableEq, Repr

/-- What a lane holds for the internal GNSS (R140 to R143, R234 to R238): ephemerides and SBAS messages out of the snapshots, the correction
streams, the strobe each carrier-phase ambiguity has run from (system, SVID and signal in one number), the SPOOF word and the interference flags of the latest epoch. -/
structure LaneGnss where
  eph : List (List Byte)
  sbas : List (List Byte)
  streams : List Corrections
  ambiguities : List (Nat × Nat)
  spoof : Nat
  iflags : Nat
deriving DecidableEq, Repr

/-- Everything the position solution of an epoch is computed from (R234): records and their weights, ephemerides, SBAS messages, corrections, ambiguities,
TAI at the latch. -/
structure SolveInput where
  records : List GnssRec
  weights : List F64
  eph : List (List Byte)
  sbas : List (List Byte)
  corrections : Option Corrections
  ambiguities : List (Nat × Nat)
  tai : Int
deriving DecidableEq, Repr

/-- What the solution gives: latitude, longitude, height; the ambiguities are fixed and pass the ratio test; the satellites used with SBAS
corrections; the residuals over their deviations, record by record (R234, R236). -/
structure SolveResult where
  lat : Int
  lon : Nat
  height : Int
  fixed : Bool
  sbasSats : Nat
  ratios : List F64
deriving DecidableEq, Repr, Inhabited

/-- Everything the heading of an epoch is computed from (R147): the pairs of records, the ephemerides, the configured length, TAI. -/
structure HeadingInput where
  pairs : List (GnssRec × GnssRec)
  eph : List (List Byte)
  length : Int
  tai : Int
deriving DecidableEq, Repr

/-- What it gives: azimuth of the baseline from A to B, whether the ambiguities are fixed, and the length found, 0.1 mm (R147). -/
structure HeadingResult where
  azimuth : Nat
  fixed : Bool
  length : Nat
deriving DecidableEq, Repr, Inhabited

/-- A sensor clock model (R209 to R213): bin minima, oldest first, as (second, δ in ns), and start of the model. -/
structure ClockModel where
  bins : List (Nat × Int)
deriving DecidableEq, Repr

/-- One reference (R223 to R226). -/
structure RefState where
  /-- Active conditions of R225. -/
  deselected : Bool
  stale : Bool
  rejected : Bool
  suspect : Bool
  clockBad : Bool
  /-- A select command waits for the next applied sample (R226). -/
  selectPending : Bool
  /-- The state code last reported by event 0x1001. -/
  shown : Nat
  /-- The cause of the latest change of a condition: 0 to 9 the test of R223, 16 a start, 17 a command, 18 a sample, 19 recovery,
  20 re-acceptance, 21 spoofing, 22 a bank swap. -/
  cause : Nat
  track : Option Track
  /-- The track starts anew from the next applied sample (R221). -/
  restart : Bool
  /-- When the latest sample was applied, or since when one is awaited. -/
  appliedAt : Nat
  /-- Latest applied measurement and its tm (SPEED). -/
  last : Option (Int × Int × Int)
  /-- Contents that have been identical, since when and for how many samples (FREEZE). -/
  frozen : Option (List Int)
  frozenSince : Int
  frozenCount : Nat
  innovFails : Nat
  /-- Squared innovations of the last 60 s (VARIANCE). -/
  innovations : List (Int × Int)
  reportedVar : Option Nat
  varSince : Option Nat
  /-- Latest failure of INNOVATION, VARIANCE or DRIFT (R232). -/
  weakAt : Option Nat
  divSince : Option Nat
  /-- Differences from the other references over T_DRIFT. -/
  drift : List (Nat × Int × Int)
  /-- When a SUSPECT condition was last met, and since when every enabled test passes (R226). -/
  suspectAt : Nat
  passSince : Nat
  /-- Earth position of the fixed point (R206). -/
  fixedPoint : Option (Int × Int)
  clock : ClockModel
  /-- Recent GST sentences: time of day and variance, newest first (R720). -/
  gst : List (Nat × Nat)
  /-- Voltage-free values of untracked sensors: roll, pitch, heave or the like. -/
  value : Int × Int × Int
  mode : Nat
  antB : Bool
  retro : Bool
  /-- The estimate at the strobe and its variance (R220), before any TS_FACTOR. -/
  estA : Int
  estB : Int
  var : Int
  weight : Nat
  diffA : Int
  diffB : Int
  lateEvent : Option Nat
deriving DecidableEq, Repr

/-- A moving-target track (R222): state 0 unused, 1 INITIATING, 2 TRACKING, 3 COASTING, 4 LOST. -/
structure Target where
  st : Nat
  track : Option Track
  samples : Nat
  lastAt : Nat
deriving DecidableEq, Repr

/-- The fused values of a frame (R203): flags and counts are formed from them. -/
structure Fused where
  pos : Option (Int × Int × Nat)
  hdg : Option (Nat × Nat)
  nPos : Nat
  nHdg : Nat
  nMru : Nat
  nWind : Nat
  roll : Int
  pitch : Int
  heave : Int
  wind : Option (Int × Int)
  height : Int
deriving DecidableEq, Repr

/-- The rewindable part of fusion. -/
structure Fusion where
  refs : List RefState
  targets : List Target
  /-- Satellites removed in each of the last 10 epochs, newest first, and satellites barred with the end of the bar (R236, R237). -/
  removals : List (List (Nat × Nat))
  barred : List (Nat × Nat × Nat)
  /-- Episodes of events 0x1002 to 0x1005. -/
  twoSeen : Bool
  majoritySeen : Bool
  hdgTwoSeen : Bool
  hdgMajoritySeen : Bool
  mruSeen : Bool
  windSeen : Bool
  hdgSince : Option Nat
  twoSince : Option Nat
  fused : Fused
deriving DecidableEq, Repr

/-- Attitude of a sub-frame as the inertial program left it (R216, R277). -/
structure Attitude where
  time : Nat
  heading : Nat
  pitch : Int
  roll : Int
  rate : Int
deriving DecidableEq, Repr

/-- One frame of the rewind buffer (R242): frame number, strobe, cut-off before it, fusion at its start, samples applied in it,
data words of the observer as they stood before its correction, dispatched force. -/
structure RewindEntry where
  frame : Word
  strobe : Nat
  fusion : Fusion
  samples : List RefSample
  observer : List (Nat × Word)
  dispatched : Int × Int × Int
  snapshot : Option Snapshot
  subs : List Snapshot
deriving DecidableEq, Repr

/-- The shadow of a refined Leggett entry (R248 to R250). -/
structure Shadow where
  entry : Nat
  x : Int
  y : Int
  stopped : Bool
  /-- Normal equations of the regression of R247: Σ of difference × column 1 and 2 of C in Q1.30, the products of the columns in Q2.60,
  and the samples taken. -/
  sumX : Int
  sumY : Int
  sumXX : Int
  sumXY : Int
  sumYY : Int
  count : Nat
  lastStep : Nat
deriving DecidableEq, Repr

/-- The origin of the Earth frame (R3, R4): geodetic position when it has one, fixed at all, site or provisional. -/
structure Origin where
  geo : Option Geodetic
  fixed : Bool
  site : Bool
deriving DecidableEq, Repr

/-- A reference that has seen nothing. -/
def RefState.reset : RefState :=
  { deselected := true, stale := false, rejected := false, suspect := false, clockBad := false,
    selectPending := false, shown := 5, cause := 16, track := none, restart := true, appliedAt := 0, last := none,
    frozen := none, frozenSince := 0, frozenCount := 0, innovFails := 0, innovations := [], reportedVar := none,
    varSince := none, weakAt := none, divSince := none, drift := [], suspectAt := 0, passSince := 0,
    fixedPoint := none, clock := { bins := [] }, gst := [], value := (0, 0, 0), mode := 0, antB := false,
    retro := false, estA := 0, estB := 0, var := 0, weight := 0, diffA := 0, diffB := 0, lateEvent := none }

/-- Nothing held for the internal GNSS. -/
def LaneGnss.reset : LaneGnss := { eph := [], sbas := [], streams := [], ambiguities := [], spoof := 0, iflags := 0 }

/-- Nothing fused. -/
def Fused.reset : Fused :=
  { pos := none, hdg := none, nPos := 0, nHdg := 0, nMru := 0, nWind := 0, roll := 0, pitch := 0, heave := 0,
    wind := none, height := 0 }

/-- Fusion before the first frame. -/
def Fusion.reset : Fusion :=
  { refs := List.replicate 26 .reset,
    targets := List.replicate 8 { st := 0, track := none, samples := 0, lastAt := 0 },
    removals := [], barred := [], twoSeen := false, majoritySeen := false, hdgTwoSeen := false, hdgMajoritySeen := false, mruSeen := false,
    windSeen := false, hdgSince := none, twoSince := none, fused := .reset }

end Sys2Proof.Machine
end

