-- ==== Sys2Proof/Machine/Types/Time.lean ====
section
/-!
DEFINITION. State of the time unit, the PTP instances and the host copy of module time (R160 to R200).
-/

namespace Sys2Proof.Machine

/-- The time state (R163, R164). -/
inductive TimeState where
  | freeRun
  | locked
  | holdover
  | unsynchronised
deriving DecidableEq, Repr

/-- One time source (R166): the run of valid measurements, its spread, the latest offset and uncertainty. Offsets are in 0.1 ns;
`base` is the module-time offset, 2^-32 ns, that the latest one was measured against. -/
structure TimeSource where
  valid : Bool
  validSince : Nat
  minE : Int
  maxE : Int
  qualified : Bool
  qualSince : Nat
  e : Int
  base : Int
  unc : Nat
deriving DecidableEq, Repr

/-- A source that has measured nothing. -/
def TimeSource.reset : TimeSource :=
  { valid := false, validSince := 0, minE := 0, maxE := 0, qualified := false, qualSince := 0, e := 0,
    base := 0, unc := 0 }

/-- A pending step of module time (R177, R182): the error in 0.1 ns, the pulses that carried it, whether it was
announced (a first setting under R182 is not), the confirmation of R180, and since when the error has been small. -/
structure PendingStep where
  e : Int
  announced : Bool
  pulses : Nat
  confirmed : Bool
  lowSince : Option Nat
deriving DecidableEq, Repr

/-- Holdover (R173 to R175): entry time, uncertainty at entry, baseplate temperature at entry and largest departure, 0.01 °C. -/
structure Holdover where
  entry : Nat
  u0 : Nat
  temp0 : Int
  dT : Nat
deriving DecidableEq, Repr

/-- Port state of a PTP instance (IEEE 1588, R185). -/
inductive PtpState where
  | disabled
  | listening
  | slave
  | master
  | passive
deriving DecidableEq, Repr

/-- A grandmaster as announced: the fields the best master clock algorithm compares. -/
structure PtpMaster where
  priority1 : Nat
  clockClass : Nat
  accuracy : Nat
  variance : Nat
  priority2 : Nat
  identity : Nat
  steps : Nat
deriving DecidableEq, Repr

/-- A PTP exchange in progress (R183, R191): origin and receipt of the Sync and of the Delay_Req, TAI ns, and STEP_GEN at its start. -/
structure PtpExchange where
  syncSeq : Nat
  t1 : Option Nat
  t2 : Nat
  reqSeq : Nat
  t3 : Option Nat
  stepGen : Bool
deriving DecidableEq, Repr

/-- What a PTP message sent says (R186, R187): Announce with the data set, currentUtcOffset when valid and the leap announcement;
a two-step Sync; its Follow_Up with the precise origin time; Delay_Req; Delay_Resp with the receive time and the requesting clock. -/
inductive PtpBody where
  | announce (seq : Nat) (m : PtpMaster) (utc : Option Int) (leap : Int)
  | sync (seq : Nat)
  | followUp (seq precise : Nat)
  | delayReq (seq : Nat)
  | delayResp (seq rx requester : Nat)
deriving DecidableEq, Repr

/-- A PTP message as sent: port, domain, transport (R185, R186, R188). -/
structure PtpOut where
  port : Nat
  domain : Nat
  transport : Nat
  body : PtpBody
deriving DecidableEq, Repr

/-- One PTP instance. -/
structure Ptp where
  st : PtpState
  master : Option PtpMaster
  /-- The clock that sent the best foreign master's Announce messages: the instance's parent. -/
  parent : Nat
  /-- Announce messages heard from the best foreign master. -/
  announces : Nat
  lastAnnounce : Nat
  /-- currentUtcOffset when valid, and leap announcement (−1, 0, +1). -/
  utcOffset : Option Int
  leap : Int
  exchange : Option PtpExchange
  /-- Latest offset from master, 0.1 ns, when one has been formed. -/
  offset : Option Int
  seqAnnounce : Nat
  seqSync : Nat
  seqReq : Nat
  /-- The messages sent by the latest command that made the instance send. -/
  sent : List PtpOut
deriving DecidableEq, Repr

/-- An instance at restart (R162). -/
def Ptp.reset : Ptp :=
  { st := .listening, master := none, parent := 0, announces := 0, lastAnnounce := 0, utcOffset := none, leap := 0,
    exchange := none, offset := none, seqAnnounce := 0, seqSync := 0, seqReq := 0, sent := [] }

/-- An entry of a transmit timestamp queue (R191). -/
structure TxStamp where
  seq : Nat
  msgType : Nat
  domain : Nat
  tsS : Nat
  tsNs : Nat
  tstatus : Half
deriving DecidableEq, Repr

/-- One transmit timestamp queue: at most 16 entries and TXTS_OVF (R191). -/
structure TxQueue where
  entries : List TxStamp
  ovf : Bool
deriving DecidableEq, Repr

/-- A pulse and the time-of-day output after it (R192, R193). -/
structure TimeOfDay where
  /-- Monotonic time of the pulse edge, the cable advance applied, and the width of the pulse, ms (R192). -/
  edge : Nat
  width : Nat
  /-- The second that began at the pulse, TAI − UTC, the time status and the uncertainty that the sentences show. -/
  taiS : Nat
  utc : Int
  tstatus : Half
  uncertainty : Nat
  /-- Bit rate, and the characters of the enabled sentences. -/
  bitRate : Nat
  text : List Byte
deriving DecidableEq, Repr

/-- A time label (R194) for the next whole second. -/
structure TimeLabel where
  taiS : Nat
  tstatus : Half
  utc : Int
  leap : Int
  uncertainty : Nat
  step : Option Int
deriving DecidableEq, Repr

/-- The host copy of module time (R194 to R197). -/
structure HostTime where
  /-- Host copy minus monotonic time, ns. -/
  offset : Int
  lastMark : Nat
  labelsMissed : Nat
  label : Option TimeLabel
  isolated : Bool
  isolatedAt : Nat
  /-- Change of the copy left to slew, 2^-32 ns, and an error in ns that waits for the pulse. -/
  slewLeft : Int
  stepWaiting : Option Int
  /-- Pulses that have carried STEP_PENDING for that error (R177, R197). -/
  stepPulses : Nat
  /-- Port 4 shows the field-side state only from the first label after isolation (R197). -/
  awaitingLabel : Bool
  /-- TAI second of the next pulse on Port 4 (R178, R192). -/
  nextPulse : Nat
deriving DecidableEq, Repr

/-- The time unit. -/
structure TimeUnit where
  /-- Module-time offset, 2^-32 ns (R161). -/
  offset : Int
  st : TimeState
  /-- SOURCE of R163: 0 none, 1 GNSS, 2 PTP-1, 3 PTP-2, 4 operator. -/
  source : Nat
  stepGen : Bool
  lastStep : Option Nat
  pending : Option PendingStep
  slewing : Bool
  /-- Error still to be removed by slewing, 2^-32 ns, as a change of the offset. -/
  slewLeft : Int
  /-- OCXO control word (R162), and whether the factory word has been loaded since power-on (R664). -/
  ocxoWord : Word
  ocxoLoaded : Bool
  /-- Frequency in which the servo steers the offset while the OCXO warms up, 2^-32 ns in one second (R171). -/
  offsetRate : Int
  utcValid : Bool
  leap : Int
  /-- TAI second with which the announced leap begins: 00:00:00 UTC of the next month by the offset before the leap (R184). -/
  leapStart : Nat
  taiUtc : Option Int
  warming : Bool
  ocxoFail : Bool
  gnss : TimeSource
  ptp1Src : TimeSource
  ptp2Src : TimeSource
  /-- Operator source of R183: error in 0.1 ns and its uncertainty. -/
  operatorUnc : Nat
  conflictSince : Option Nat
  conflictTold : Bool
  hold : Option Holdover
  ptp1 : Ptp
  ptp2 : Ptp
  txA : TxQueue
  txB : TxQueue
  txPeer : TxQueue
  /-- TAI second of the next pulse boundary of module time; Port 4: whether pulses are driven, and the latest pulse. -/
  nextPulse : Nat
  pulseDriven : Bool
  tod : Option TimeOfDay
  lastMark : Nat
  markLink : Nat
  label : Option TimeLabel
  /-- Uncertainty of a free-running start (R198); none is unknown. -/
  startUnc : Option Nat
  host : HostTime
deriving DecidableEq, Repr

/-- An empty queue. -/
def TxQueue.reset : TxQueue := { entries := [], ovf := false }

/-- The host copy before its first mark. -/
def HostTime.reset : HostTime :=
  { offset := 0, lastMark := 0, labelsMissed := 0, label := none, isolated := false,
    isolatedAt := 0, slewLeft := 0, stepWaiting := none, stepPulses := 0, awaitingLabel := false, nextPulse := 1 }

/-- The time unit at power-on (R160, R163, R198). -/
def TimeUnit.reset : TimeUnit :=
  { offset := 0, st := .freeRun, source := 0, stepGen := false, lastStep := none, pending := none,
    slewing := false, slewLeft := 0, ocxoWord := 0, ocxoLoaded := false, offsetRate := 0, utcValid := false, leap := 0, leapStart := 0, taiUtc := none, warming := true,
    ocxoFail := false, gnss := .reset, ptp1Src := .reset, ptp2Src := .reset, operatorUnc := 0,
    conflictSince := none, conflictTold := false, hold := none, ptp1 := .reset, ptp2 := { Ptp.reset with st := .disabled },
    txA := .reset, txB := .reset, txPeer := .reset, nextPulse := 1, pulseDriven := true, tod := none,
    lastMark := 0, markLink := 0, label := none, startUnc := none, host := .reset }

end Sys2Proof.Machine
end

