-- ==== Sys2Proof/Syntax/Types.lean ====
section
/-!
DEFINITION. Operand types of the commands: what comes to the module from outside with a command.
-/

namespace Sys2Proof.Machine

/-- A sample message at the snapshot builder (R77, R78): the k-th of those in flight from the modelled port units, or one of
another port unit, such as a field network message: source, port timestamp, SFLAGS, data. -/
inductive Arriving where
  | inFlight (k : Nat)
  | message (source portTs sflags : Nat) (data : List Byte)
deriving DecidableEq, Repr

/-- What a read of a protected memory shows (R683, R684): no error, a corrected one or an uncorrectable one at an address. -/
inductive MemRead where
  | clean
  | corrected (addr : Nat)
  | uncorrectable (addr : Nat)
deriving DecidableEq, Repr

/-- What an uncorrectable error spoils (R684): nothing, a forwarded request, an event or a transfer in an Eaves buffer, a yealm
of the recorder buffer, channels of the baseband (antenna, channel), a sample in flight, a lane. -/
inductive MemVictim where
  | none
  | request (session : Nat) (tag : Half)
  | event
  | bulk (handle : Nat)
  | yealm (k : Nat)
  | channels (cs : List (Nat × Nat))
  | sample (k : Nat)
  | lane (l : LaneId)
deriving DecidableEq, Repr

/-- Where a lock-up is found (R656): a core of the host, a core of a lane, or a Purlin router. -/
inductive LockPlace where
  | hostCore
  | laneCore (l : LaneId)
  | router
deriving DecidableEq, Repr

/-- A reset source of R655: power-on, a brown-out (of the time unit's own rail or of another), the Port 5 input energised for some
ns, the watchdogs, the software and the debug request, a clock failure of an island, a lock-up. -/
inductive ResetCause where
  | por
  | bor (timeRail : Bool)
  | pin (ns : Nat)
  | hostWatchdog
  | laneWatchdog (l : LaneId)
  | software
  | debug
  | clock (island : Nat)
  | lockup (p : LockPlace)
deriving DecidableEq, Repr

/-- A class of the Eaves barrier at one of its senders (R35): Bulk has one in each direction. -/
inductive EavesKind where
  | command
  | reply
  | event
  | bulkToHost
  | bulkToField
deriving DecidableEq, Repr

/-- What arrives at an Eaves endpoint (R35): the bytes of a packet, a control symbol, or anything else. -/
inductive EavesArrival where
  | packet (bytes : List Byte)
  | timeMark
  | resetRequest
  | resetOrder
  | other
deriving DecidableEq, Repr

/-- A copy of a snapshot as a lane reads it (R86): whole, with a packet missing, or with these bytes changed in it (added without
carry, byte by byte). -/
inductive SnapCopy where
  | intact
  | missing
  | damaged (err : List Byte)
deriving DecidableEq, Repr

/-- What a safety channel finds of itself at a tick (R415): nothing, a memory fault, a program-flow fault, or a CRC failure of its stored
safety configuration. -/
inductive ChannelCheck where
  | good
  | memory
  | flow
  | tables
deriving DecidableEq, Repr

/-- A satellite as the channel manager sees it (R116): its elevation in degrees from almanac or ephemeris and the last position (none
where it has neither), and the signals it broadcasts. -/
structure SatView where
  sys : Nat
  svid : Nat
  elev : Option Int
  signals : List Nat
deriving DecidableEq, Repr

/-- What one channel samples at the GRF sample edge of a latch (R128): the transmit time its code NCO reads (fs, in the system time of
the satellite, counted from the epoch of TAI), the rate of that time less 1 (10^-12), the carrier NCO since the start of lock
(2^-32 cycle, growing with range), the carrier frequency as Doppler (1 mHz), C/N0 and deviations (R136); whether lock survived the
extrapolation (R129) and whether the slip detector found a discontinuity (R126). -/
structure ChanMeas where
  ant : Nat
  ch : Nat
  txFs : Int
  txRate : Int
  carrier : Int
  doppler : Int
  dopplerValid : Bool
  cn0 : Nat
  prSigma : Nat
  cpSigma : Nat
  kept : Bool
  slipSeen : Bool
deriving DecidableEq, Repr

/-- What one RF chain measures at a latch: AGC gain relative to calibration, 0.01 dB (R135). -/
structure ChainMeas where
  ant : Nat
  chain : Nat
  agc : Int
deriving DecidableEq, Repr

/-- What the navigation processor solves at an epoch (R131, R134): a solution or none, of kind 1 or 2; CLK_BIAS before the cable delay
is taken off (R108); for Galileo, BeiDou and GLONASS the satellites used and the time offset estimated from them; and how far the
solution departs from its own prediction, 0.1 mm (R152). -/
structure NavSolution where
  valid : Bool
  kind : Nat
  used : Nat
  lat : Nat
  lon : Nat
  height : Int
  clkBias : Int
  clkDrift : Int
  gal : Nat × Int
  bds : Nat × Int
  glo : Nat × Int
  pdop : Nat
  departure : Nat
deriving DecidableEq, Repr

/-- What the baseband latches at the strobe (R128): the interval from the strobe to the sample edge in fs, the channels, the chains, the
solution, and the residuals of the single differences of satellites against the fixed baseline, 2^-16 cycle (R152). -/
structure Epoch where
  edge : Nat
  sol : NavSolution
  meas : List ChanMeas
  chains : List ChainMeas
  residuals : List (Nat × Nat × Nat)
deriving DecidableEq, Repr

/-- What the baseband finds in a decoded message beside its bits (R116, R122, R131, R138, R152, R184): its parity or CRC is right; until
when an ephemeris is valid (TAI ns) and whether it marks the satellite healthy; UTC parameters (TAI − UTC, leap announcement); a
broadcast offset from GPS time (system, 0.1 ns); a GLONASS frequency channel (slot, k); a jump of the time of week; an ephemeris and
the almanac more than 10 km apart. -/
structure NavFacts where
  ok : Bool
  validTo : Nat
  healthy : Bool
  utc : Option (Int × Int)
  offset : Option (Nat × Int)
  gloK : Option (Nat × Int)
  towJump : Bool
  apart : Bool
deriving DecidableEq, Repr

/-- A PTP message as received (R185, R186). Times are TAI ns, corrections ns; a Delay_Resp names the clock whose request it answers. -/
inductive PtpMsg where
  | announce (m : PtpMaster) (utc : Option Int) (leap : Int)
  | sync (seq : Nat) (twoStep : Bool) (origin : Nat) (corr : Int)
  | followUp (seq : Nat) (precise : Nat) (corr : Int)
  | delayReq (seq : Nat)
  | delayResp (seq : Nat) (rx : Nat) (corr : Int) (requester : Nat)
  | management
  | other
deriving DecidableEq, Repr

/-- What the contents of one snapshot sample say (R205): its section's source and its index in the section, whether it passes
its parser check, a time field, a reported variance, and the measurement. -/
structure Parsed where
  source : Nat
  index : Nat
  ok : Bool
  tod : Option Nat
  variance : Option Nat
  meas : Meas
deriving DecidableEq, Repr

/-- Which engine runs a Batten instruction: lane, context, class and slot of the program (R254, R270), and whether an
engine memory shows an uncorrectable error during it (R279). -/
structure BRun where
  lane : LaneId
  inertial : Bool
  cls : Nat
  slot : Nat
  fault : Bool
deriving DecidableEq, Repr

/-- The fields of a Batten instruction beside its opcode (R263). -/
structure BFields where
  fmt : Nat
  acc : Bool
  osh : Nat
  mod : Bool
  dst : Nat
  srca : Nat
  srcb : Nat
deriving DecidableEq, Repr

end Sys2Proof.Machine
end

