-- ==== Sys2Proof/Syntax.lean ====
section
/-!
DEFINITION. The commands of the module: one constructor per row of spec/opcode_table.json, in the table's order.
-/

namespace Sys2Proof

open Sys2Proof.Machine

/-- A command. An operand t is the monotonic time of the occurrence in ns; r is the header of a Jalnomel request and p its payload
without authentication tag. -/
inductive Instr where
  /-- The time unit's frame strobe falls one frame period after the previous one and starts a new control frame. (R71) -/
  | frameStrobe (t : Nat) (e : Option Epoch)
  /-- At t0 − 0.5 ms the snapshot builder closes the snapshot of the frame. (R78) -/
  | snapshotCutoff (t : Nat)
  /-- A port unit's sample message reaches the snapshot builder, is stamped with its arrival time and is assigned to a snapshot. (R78) -/
  | sampleArrival (t : Nat) (a : Arriving)
  /-- The GNSS section is not complete at t0 + 0.15 ms, so the snapshot closes without it and GNSS_LATE is set. (R80) -/
  | gnssSectionLate (t : Nat)
  /-- At each sub-frame cut-off the builder sends a sub-snapshot of motion reference unit samples. (R90) -/
  | subframeCutoff (t : Nat) (copiesA copiesB : List SnapCopy) (ps : List Parsed)
  /-- A lane receives a snapshot and checks its digest. (R86) -/
  | snapshotReceive (t : Nat) (lane : LaneId) (copies : List SnapCopy) (ps : List Parsed)
  /-- A lane without a valid snapshot at t0 + 0.5 ms delivers a record carrying only SNAPSHOT_LOST. (R87) -/
  | snapshotDeadline (t : Nat) (lane : LaneId)
  /-- Each lane runs reference tracking, tests, voting and the fusion part of its record from 0.2 ms. (R88) -/
  | fusionPhase (t : Nat) (ps : List Parsed)
  /-- Each lane runs the SETPOINT, OBSERVER and CONTROL programs from 2.0 ms. (R281) -/
  | observerControlPhase (t : Nat)
  /-- Each lane builds the allocation problem, runs the primary solver and the CONVERSION program from 3.0 ms. (R338) -/
  | allocationPhase (t : Nat) (readA readB : MemRead)
  /-- At 5.0 ms the Ridge comparator compares the two output records and releases or withholds them. (R379) -/
  | ridgeCompare (t : Nat) (lateA lateB corruptA corruptB agree : Bool)
  /-- At 5.2 ms of the replay frame the comparator compares the two replayed records of the withheld frame. (R95) -/
  | replayCompare (t : Nat) (lateA lateB corruptA corruptB agree : Bool)
  /-- The 2 ms known-answer set ends, and each lane passes or fails it. (R383) -/
  | knownAnswerSet (t : Nat) (passA passB : Bool)
  /-- The known-answer set of a health reset ends, and the module returns from HOLD or stays there. (R393) -/
  | healthResetKatComplete (t : Nat) (passA passB : Bool)
  /-- The background window starts, and each lane runs rewind, records, self-test steps and status updates in order. (R100) -/
  | backgroundWindow (t fits : Nat) (sliceA sliceB rfOk verdictOk : Bool) (scrubA scrubB : MemRead)
  /-- At P − 3 ms unfinished background work stops. (R103) -/
  | tailReserve (t : Nat)
  /-- The output stage forwards an outbox entry to the event recorder and the Eaves field endpoint. (R47) -/
  | outboxForward (t : Nat)
  /-- At 5.0 ms the auxiliary solver runs the case at the case pointer, and the pointer advances. (R358) -/
  | consequenceCaseRun (t : Nat) (readA readB : MemRead)
  /-- A case has been FAIL for N_P frames, its FAIL alarm sets and event 0x2201 is raised. (R364) -/
  | failAlarmSet (t c : Nat)
  /-- A case has been OK or MARGINAL for N_C frames and its FAIL alarm clears. (R364) -/
  | failAlarmClear (t c : Nat)
  /-- A case has been MARGINAL or FAIL for N_P frames and its MARGINAL warning sets. (R364) -/
  | marginalWarningSet (t c : Nat)
  /-- A case has been OK for N_C frames and its MARGINAL warning clears. (R364) -/
  | marginalWarningClear (t c : Nat)
  /-- At every 64th counted frame the lane takes a wave sample and updates the sea-state measure H. (R284) -/
  | seaStateSample (t : Nat)
  /-- After NB frames the blend ends, and any held level request starts. (R291) -/
  | gainBlendEnd (t : Nat)
  /-- A crossing or mode condition held for T_S frames puts the actuator in RUNDOWN. (R317) -/
  | crossingPersistence (t act : Nat)
  /-- A transit not ended in time makes the actuator UNAVAILABLE, and event 0x2105 is raised. (R320) -/
  | transitTimeout (t act : Nat)
  /-- No ready indication within FB_TIMEOUT makes the actuator UNAVAILABLE. (R350) -/
  | actuatorReadyTimeout (t act : Nat)
  /-- A lane core writes a slot number to the engine's start register to queue a foreground program. (R276) -/
  | battenStart (lane : LaneId) (slot : Nat)
  /-- A Batten program reaches END and the engine signals completion to the core. (R276) -/
  | battenProgramEnd (lane : LaneId) (inertial : Bool)
  /-- The engine starts the INERTIAL program in context 1 on a sub-snapshot, or when a CONVERSION program ends. (R277) -/
  | inertialStart (t k : Nat) (ps : List Parsed)
  /-- Batten NOP does nothing. (R266) -/
  | nop (r : BRun) (f : BFields)
  /-- Batten SHAPE sets the operand shape M, N and K. (R264) -/
  | shape (r : BRun) (f : BFields)
  /-- Batten END ends the program. (R266) -/
  | endProg (r : BRun) (f : BFields)
  /-- Batten MOVC writes the effective values of coefficients. (R266) -/
  | movc (r : BRun) (f : BFields)
  /-- Batten MOVD copies data elements. (R266) -/
  | movd (r : BRun) (f : BFields)
  /-- Batten MVC multiplies a coefficient matrix by a data vector. (R266) -/
  | mvc (r : BRun) (f : BFields)
  /-- Batten MVD multiplies a data matrix by a data vector. (R266) -/
  | mvd (r : BRun) (f : BFields)
  /-- Batten MMC multiplies a coefficient matrix by a data matrix. (R266) -/
  | mmc (r : BRun) (f : BFields)
  /-- Batten MMD multiplies two data matrices. (R266) -/
  | mmd (r : BRun) (f : BFields)
  /-- Batten VSCL scales each element by its coefficient. (R266) -/
  | vscl (r : BRun) (f : BFields)
  /-- Batten VADD adds two vectors elementwise. (R266) -/
  | vadd (r : BRun) (f : BFields)
  /-- Batten VSUB subtracts two vectors elementwise. (R266) -/
  | vsub (r : BRun) (f : BFields)
  /-- Batten VMUL multiplies two vectors elementwise and applies OSH. (R266) -/
  | vmul (r : BRun) (f : BFields)
  /-- Batten VABS forms absolute values. (R266) -/
  | vabs (r : BRun) (f : BFields)
  /-- Batten VCLMP limits each element between coefficient bounds. (R266) -/
  | vclmp (r : BRun) (f : BFields)
  /-- Batten VSEL copies elements where the mask is non-zero. (R266) -/
  | vsel (r : BRun) (f : BFields)
  /-- Batten VCGT compares two vectors elementwise. (R266) -/
  | vcgt (r : BRun) (f : BFields)
  /-- Batten RLIM moves each destination element towards its source by at most its coefficient. (R266) -/
  | rlim (r : BRun) (f : BFields)
  /-- Batten BLND blends destination and source by the data word k. (R266) -/
  | blnd (r : BRun) (f : BFields)
  /-- Batten SINCOS forms sine and cosine of binary angles in Q1.30. (R267) -/
  | sincos (r : BRun) (f : BFields)
  /-- Batten ROT2 rotates pairs by an angle, or by its transpose with MOD 1. (R267) -/
  | rot2 (r : BRun) (f : BFields)
  /-- Batten DIV divides with rounding and flags a zero divisor. (R267) -/
  | div (r : BRun) (f : BFields)
  /-- Batten ISQRT forms a rounded square root and flags negative input. (R267) -/
  | isqrt (r : BRun) (f : BFields)
  /-- Batten TBL interpolates each input in a breakpoint table. (R268) -/
  | tbl (r : BRun) (f : BFields)
  /-- Batten ATAN2 forms the binary angle of each pair. (R267) -/
  | atan2 (r : BRun) (f : BFields)
  /-- A reference without an applied sample for TIMEOUT becomes STALE. (R223) -/
  | referenceTimeout (t ref : Nat)
  /-- A SUSPECT reference without a SUSPECT condition for the recovery time returns to ACCEPTED or TIME-SUSPECT. (R226) -/
  | suspectRecovery (t ref : Nat)
  /-- A REJECTED reference with AUTO_REACCEPT that passes every test for the re-acceptance time becomes SUSPECT. (R226) -/
  | reacceptanceTime (t ref : Nat)
  /-- A satellite bar expires after the bar time. (R237) -/
  | satelliteBarExpiry (t : Nat)
  /-- A moving-target track without an applied sample for the track timeout becomes COASTING. (R222) -/
  | targetTrackTimeout (t track : Nat)
  /-- A track without an applied sample for the coast time becomes LOST, and event 0x1009 is raised. (R222) -/
  | targetTrackLost (t track : Nat)
  /-- Every 6 s the refinement shadow moves towards its estimate by at most 1 LSB per component. (R248) -/
  | refinementShadowStep (t : Nat)
  /-- The time unit takes an offset measurement from a GNSS epoch or a PTP instance. (R166) -/
  | timeOffsetMeasurement (t n unc : Nat)
  /-- A source becomes qualified after 10 s of valid measurements within its limit. (R166) -/
  | sourceQualified (t n : Nat)
  /-- A qualified higher-priority source is selected after the revert delay. (R167) -/
  | revertDelayExpiry (t n : Nat)
  /-- Two qualified sources differ by more than the conflict limit for 10 s, and event 0x120A is raised. (R169) -/
  | sourceConflict (t : Nat)
  /-- Holdover reaches its limit, the module enters UNSYNCHRONISED and event 0x1203 is raised. (R175) -/
  | holdoverLimit (t : Nat)
  /-- The OCXO reaches specification, OCXO_WARMING clears and event 0x1208 is raised. (R171) -/
  | ocxoWarmupComplete (t : Nat)
  /-- The time unit detects OCXO loss, sets OCXO_FAIL and enters UNSYNCHRONISED. (R172) -/
  | ocxoFailure (t : Nat)
  /-- The pulse marks a whole second of module time on Port 4. (R192) -/
  | timePulse (t : Nat)
  /-- A pending step is cancelled when the error stays at or below the threshold for 2 s. (R181) -/
  | stepCancel (t : Nat)
  /-- An announced leap second is applied to UTC, and event 0x120B is raised. (R184) -/
  | leapSecond (t : Nat)
  /-- A PTP instance receives a PTP message on its port. (R185) -/
  | ptpMessageReceive (t n domain transport sender : Nat) (msg : PtpMsg)
  /-- The announce receipt timeout of a PTP instance expires. (R186) -/
  | ptpAnnounceTimeout (t n : Nat)
  /-- A PTP instance sends a message at its configured interval. (R186) -/
  | ptpMessageSend (t n kind : Nat)
  /-- The time unit sends a time mark on the Eaves links at every whole millisecond. (R194) -/
  | timeMarkSend (t : Nat)
  /-- The time unit sends the time label 0.5 s after each whole second. (R194) -/
  | timeLabelSend (t : Nat)
  /-- The host side corrects its time copy at a received time mark. (R195) -/
  | hostTimeMark (t delay : Nat) (err : Int)
  /-- No mark for 10 ms, or three missing labels, sets HOST_ISOLATED. (R196) -/
  | hostMarkTimeout (t : Nat)
  /-- Every 10 ms the bias current of each antenna input is measured and its state updated. (R105) -/
  | antennaBiasCheck (t ant current : Nat)
  /-- 5 s after an overload the bias is switched on for a 10 ms test. (R105) -/
  | antennaBiasRetest (t ant current : Nat)
  /-- Once per second the channel manager assigns and drops tracking channels. (R115) -/
  | channelManagerRun (t : Nat) (views : List SatView)
  /-- An FFT engine completes a search block and declares or rejects detections. (R121) -/
  | acquisitionBlock (t engine ant sys svid : Nat) (gloK : Int) (code sum noise : Nat)
  /-- After 200 ms of frequency lock a channel passes from FLL to PLL. (R125) -/
  | fllToPll (t ant ch lockAt : Nat)
  /-- Carrier phase becomes valid after a further 100 ms of phase lock. (R125) -/
  | carrierPhaseValid (t ant ch above : Nat)
  /-- A channel loses lock on low C/N0 or phase-lock indicator. (R126) -/
  | lockLoss (t ant ch cn0 lowFor : Nat)
  /-- After 60 s without lock a channel returns its satellite to the channel manager. (R154) -/
  | channelHoldExpiry (t ant ch : Nat)
  /-- A navigation data set or SBAS message is decoded and delivered as a GNSS-EPH sample. (R138) -/
  | navMessageDecode (t : Nat) (set : NavSet) (facts : NavFacts)
  /-- The navigation processor writes its assistance store every 30 min. (R122) -/
  | assistStoreWrite (t : Nat) (written : Bool)
  /-- The chain's spectrum scan engages notches on narrowband lines. (R150) -/
  | spectrumScan (t ant chain : Nat) (lines : List (Nat × Int))
  /-- A notch releases after its line has been below 10 dB for 10 s. (R150) -/
  | notchRelease (t ant chain notch : Nat)
  /-- A spoofing indicator clears 60 s after its condition was last met. (R152) -/
  | spoofIndicatorClear (t i : Nat)
  /-- The GNSS RF self-test ends and its handle completes. (R157) -/
  | gnssRfTestComplete (t : Nat) (passed : Bool) (report : List Byte)
  /-- A Purlin router receives a flit, checks and corrects it, and forwards or discards the packet. (R55) -/
  | purlinFlitReceive (t port hop : Nat) (isHead : Bool) (sent : BitVec 128) (err : BitVec 144) (grants : Nat)
  /-- A request without a reply in 50 µs is sent once more, then reported as a device fault. (R58) -/
  | purlinRequestTimeout (t src tag : Nat)
  /-- An Eaves endpoint receives a packet, checks its CRC and acknowledges or ignores it. (R36) -/
  | eavesPacketReceive (t link : Nat) (toHost : Bool) (a : EavesArrival)
  /-- A link loses alignment for 100 µs or fails 16 CRCs and is declared down. (R40) -/
  | eavesLinkDown (t link misaligned : Nat)
  /-- Both links down for 100 ms opens the module-healthy contact and refuses forwarded requests. (R42) -/
  | bothLinksDown (t : Nat)
  /-- A link regains alignment, passes training and resumes each class. (R43) -/
  | eavesLinkRejoin (t link latency : Nat)
  /-- The host endpoint forwards a waiting command once Reply credit for it can be granted. (R68) -/
  | eavesCommandForward (t : Nat) (present : List (Nat × Nat))
  /-- The field endpoint passes or suppresses an event under the token bucket. (R593) -/
  | eventForward (t : Nat)
  /-- While events are suppressed, event 0x8005 with the count is passed once per second. (R593) -/
  | suppressionNotice (t : Nat)
  /-- At each 1 ms tick a safety channel evaluates every circuit, connection and permit. (R421) -/
  | safetyTick (t : Nat) (c : Chan) (check : ChannelCheck) (errs : List (List Byte))
  /-- A safety input change is accepted after 300 agreeing samples. (R420) -/
  | safetyInputAccept (t : Nat) (c : Chan) (input mv ua : Nat)
  /-- The discrepancy count reaches T and the channel latches a discrepancy fault. (R423) -/
  | discrepancyFault (t : Nat) (c : Chan) (i : Nat)
  /-- A test-pulse source drops to 0 V for 200 µs every 20 ms. (R427) -/
  | testPulse (t : Nat) (c : Chan) (source : Nat) (dropped : List Nat) (sourceOk : Bool)
  /-- Once per second a channel switches its own switch of an on permit off for a readback test. (R435) -/
  | switchTest (t : Nat) (c : Chan) (p : Nat) (fallsX fallsY : Bool)
  /-- Contactor feedback that does not follow within T_FB latches a contactor fault. (R434) -/
  | feedbackTimeout (t : Nat) (c : Chan) (p : Nat)
  /-- Every 1 ms the channels exchange and compare their states and adopt each other's faults. (R441) -/
  | crossCompareExchange (t : Nat) (c : Chan) (ok : Bool) (readDiffer : List Nat)
  /-- A Xiros PDU is received, checked and accepted, discarded or made a fault. (R445) -/
  | xirosPduReceive (t transport port addr : Nat) (bytes : List Byte)
  /-- A receive connection without an accepted PDU for T_WD enters FAULT. (R446) -/
  | xirosWatchdog (t : Nat) (ch : Chan) (c : Nat)
  /-- A transmit connection sends the safety status at its interval or on a change. (R448) -/
  | xirosTransmit (t c : Nat)
  /-- FLD-2 below 16.0 V for 1 ms raises event 0x5005. (R437) -/
  | fld2Undervoltage (t : Nat) (c : Chan)
  /-- FLD-2 below 12.0 V for 1 ms switches every permit off and latches a supply loss. (R437) -/
  | fld2SupplyLoss (t : Nat) (c : Chan)
  /-- FLD-2 at 16.0 V or more for 100 ms clears the supply loss. (R437) -/
  | fld2Recovery (t : Nat) (c : Chan)
  /-- The safety self-test ends and the unit enters RUN or SAFE-FAULT. (R414) -/
  | safetySelfTestComplete (t failX failY : Nat)
  /-- A digital input change is accepted after its filter time. (R461) -/
  | dioInputAccept (t c mv ua : Nat)
  /-- A change of the peer's duty discrete is accepted and counted at the next strobe. (R401) -/
  | dutyDiscreteChange (t : Nat) (high : Bool)
  /-- Input current below 0.3 mA for 100 ms sets WIRE_BREAK. (R462) -/
  | wireBreakSet (t c : Nat)
  /-- Input current of 0.5 mA or more for 100 ms clears WIRE_BREAK. (R462) -/
  | wireBreakClear (t c : Nat)
  /-- At each 1 ms pass the field I/O unit sets each digital output by the first rule that applies. (R472) -/
  | outputPass (t : Nat)
  /-- An output commanded off with readback high for 5 ms sets EXT_DRIVE. (R466) -/
  | extDriveFault (t c mv : Nat)
  /-- An output in current limit for tLIM is latched off with OVERLOAD. (R466) -/
  | outputOverload (t c : Nat)
  /-- An output on with low readback for 5 ms is latched off with READBACK. (R466) -/
  | readbackFault (t c mv : Nat)
  /-- A group sum above 4.0 A for 50 ms latches off the highest-numbered on channel. (R466) -/
  | groupOverloadFault (t g : Nat) (currents : List Nat)
  /-- At the end of an output test pulse the readback is judged. (R467) -/
  | outputTestPulseEnd (t c mv : Nat)
  /-- No dispatch for WD frames expires the output watchdog, and event 0x3007 is raised. (R471) -/
  | outputWatchdogExpiry (t : Nat)
  /-- A HOST output not written for the host output timeout is treated as expired. (R471) -/
  | hostOutputTimeout (t c : Nat)
  /-- A write of 1 to a latched fault bit of a channel status clears it if its condition is gone. (R468) -/
  | channelFaultClear (r : Req) (c mask present : Nat)
  /-- Every 1 ms the logic terms are evaluated in ascending order with their delays. (R476) -/
  | logicTermPass (t : Nat)
  /-- A field supply crosses a threshold for its time and its group changes state. (R477) -/
  | fieldSupplyState (t group volts peak least : Nat)
  /-- A NAMUR line break or short clears the input's valid bit, and event 0x3301 is raised. (R487) -/
  | namurLineFault (t i ua : Nat)
  /-- Every converter takes a sample at each 20 µs instant of monotonic time. (R495) -/
  | adcSample (t : Nat) (codes : List (Nat × Int))
  /-- VALID holding a new value for 100 ms raises event 0x3101. (R496) -/
  | inputValidityChange (t source : Nat)
  /-- A current above 30 mA for 1 ms opens the shunt and sets OVERLOAD. (R497) -/
  | shuntOpen (t source ua : Nat)
  /-- After 1 s the shunt closes for a 10 ms test. (R497) -/
  | shuntRetest (t source ua : Nat)
  /-- A chain's packed sample closes 0.1 ms before the cut-off and is sent to the builder. (R510) -/
  | packedSampleClose (t : Nat)
  /-- An edge on a pulse input line is filtered and counted by its mode. (R500) -/
  | pulseInputEdge (t i : Nat) (a b : Bool)
  /-- An analogue output fault condition persists and sets or clears its bit. (R516) -/
  | analogueOutputFault (t i kind : Nat) (present : Bool)
  /-- A channel calibration moves to its next reference phase. (R518) -/
  | calibrationPhase (t source : Nat)
  /-- At 40 ms the hold ends and the new offset and gain are adopted or refused. (R519) -/
  | calibrationHoldEnd (t source : Nat) (offset gain : Int)
  /-- A load-shed contact change is accepted after 100 agreeing samples. (R366) -/
  | loadShedContactAccept (t contact ua : Nat)
  /-- A bus controller receives a frame and places it in a mailbox through its filters. (R530) -/
  | canFrameReceive (t b : Nat) (f : CanFrame)
  /-- The Purlin write of a mailbox is acknowledged, the mailbox unlocks and a shadow frame is forwarded. (R534) -/
  | mailboxUnlock (t b m : Nat)
  /-- The controller chooses an entry and attempts its transmission when the bus allows. (R537) -/
  | canTransmitAttempt (t b : Nat) (o : TxOutcome)
  /-- After 128 occurrences of 11 recessive bits the controller is error active again. (R543) -/
  | busOffRecovery (t b : Nat)
  /-- An unsent entry is withdrawn at strobe n + L and its stale counter increments. (R538) -/
  | entryLifetimeExpiry (t : Nat)
  /-- Rate detection fails within DETECT_MS and the programmed timing is used. (R529) -/
  | rateDetectTimeout (t b : Nat)
  /-- A serial port receives a character and frames sentences or messages. (R555) -/
  | serialCharacterReceive (t p : Nat) (c : Byte) (err overflow : Bool)
  /-- An idle time of GAP characters ends or cuts short a binary message. (R556) -/
  | serialGapTimeout (t p : Nat)
  /-- A peer state PDU is received and checked under the Xiros rules. (R396) -/
  | peerStateReceive (t : Nat) (bytes : List Byte)
  /-- A peer data message is received, its CRC and frame number are checked, and it is used. (R397) -/
  | peerDataReceive (t : Nat) (bytes : List Byte)
  /-- The peer state watchdog expires or PEER loses its link, and event 0x7102 is raised. (R399) -/
  | peerLinkLost (t : Nat) (physicalUp : Bool)
  /-- Both modules holding duty for 3 frames makes the role B module release. (R404) -/
  | dualDutyRelease (t : Nat)
  /-- A role B module takes duty after its further 3 s wait. (R406) -/
  | roleBWait (t : Nat)
  /-- At the end of the hold time the output stage starts the ramp or keeps the freeze. (R392) -/
  | holdTimeExpiry (t : Nat)
  /-- A rejoin starts by itself 60 s after exclusion when automatic rejoin is enabled. (R394) -/
  | autoRejoin (t : Nat)
  /-- The rejoining lane finishes its boot and loads and verifies the active configuration. (R395) -/
  | rejoinBootComplete (t : Nat) (bootOk configOk : Bool)
  /-- The rejoining lane reaches the current frame and follows the normal schedule. (R395) -/
  | rejoinCatchUpComplete (t : Nat) (imageOk : Bool)
  /-- A lane not caught up within 500 frames fails the rejoin. (R395) -/
  | rejoinCatchUpTimeout (t : Nat)
  /-- 250 consecutive equal records complete the rejoin. (R395) -/
  | rejoinTrialComplete (t : Nat)
  /-- A gap of more than 100 ms within an HSER packet discards it. (R563) -/
  | hserGapTimeout (t last : Nat) (rx : List Byte)
  /-- The module sends PRP supervision frames every 2 s. (R562) -/
  | prpSupervision (t : Nat)
  /-- A pending session without SESSION_PROVE within 5 s lapses. (R569) -/
  | pendingSessionLapse (t number : Nat)
  /-- A user's 60 s lockout ends. (R569) -/
  | lockoutExpiry (t user : Nat)
  /-- A session without a valid packet for the session timeout closes. (R572) -/
  | sessionTimeout (t number : Nat)
  /-- A stored reply is discarded after 10 s. (R571) -/
  | storedReplyExpiry (t number : Nat) (tag : Half)
  /-- An unread result is discarded after 10 min, and event 0x8008 is raised. (R584) -/
  | resultExpiry (t n : Nat)
  /-- An unacknowledged event is sent again after 1 s, at most 3 times, then dropped. (R592) -/
  | eventRetransmit (t number seq : Nat)
  /-- A transfer idle for the bulk window is abandoned with BULK_ABANDONED. (R594) -/
  | bulkWindowExpiry (t n : Nat)
  /-- The field side does not answer within 2P + 100 ms and the request completes with TIMEOUT. (R588) -/
  | fieldTimeout (t session : Nat) (tag : Half)
  /-- A long operation completes and its completion packet is sent to the issuing session. (R584) -/
  | operationCompletion (t n : Nat) (ok stored : Bool) (report : List Byte)
  /-- Returns the module identity, versions, bring-up state and host time. (R580) -/
  | identify (r : Req) (p : List Byte)
  /-- Returns the module status of the latest released record. (R581) -/
  | status (r : Req) (p : List Byte)
  /-- Reads up to 255 parameters. (R582) -/
  | paramRead (r : Req) (ids : List Nat)
  /-- Checks and writes up to 255 parameters as a whole in one frame. (R582) -/
  | paramWrite (r : Req) (p : List Byte) (present : List (Nat × Nat))
  /-- Reads counters with their overflow bits. (R19) -/
  | counterRead (r : Req) (p : List Byte)
  /-- Reads counters and clears them in the same cycle. (R20) -/
  | counterReadClear (r : Req) (p : List Byte)
  /-- Reports the state and result of a handle. (R585) -/
  | handleQuery (r : Req) (p : List Byte)
  /-- Marks a completion read and discards the result. (R584) -/
  | handleAck (r : Req) (p : List Byte)
  /-- Stops a cancellable running operation with CANCELLED. (R586) -/
  | handleCancel (r : Req) (p : List Byte)
  /-- Opens a staged set against the active generation. (R614) -/
  | stageOpen (r : Req) (p : List Byte)
  /-- Starts a staged piece whose data follows by BULK_WRITE. (R615) -/
  | stagePiece (r : Req) (p : List Byte)
  /-- A piece's data is complete and checked, completing OK or discarding the staged set. (R616) -/
  | stagePieceComplete (t h : Nat)
  /-- Discards the staged set at once. (R617) -/
  | stageDiscard (r : Req) (p : List Byte)
  /-- A staged set without a staging opcode for 10 min is discarded. (R617) -/
  | stagedSetExpiry (t : Nat)
  /-- Starts verification and swap of the staged set. (R618) -/
  | commit (r : Req) (p : List Byte)
  /-- A lane finishes verifying its staged bank and writes VERIFIED or FAILED. (R619) -/
  | verificationComplete (t : Nat) (lane : LaneId) (fault : Bool)
  /-- Every lane has written the new bank to NOR and the commit completes. (R621) -/
  | commitPersisted (t : Nat) (ok : Bool)
  /-- Sends a table image as a Bulk transfer. (R594) -/
  | tableRead (r : Req) (p : List Byte)
  /-- Checks and writes a firmware package into the inactive slots. (R625) -/
  | firmwareStage (r : Req) (p : List Byte)
  /-- Makes the staged images preferred and orders a reset. (R626) -/
  | firmwareActivate (r : Req) (p : List Byte)
  /-- A trial image that does not reach STANDBY within 10 s is replaced by the previous slot. (R627) -/
  | firmwareTrialExpiry (t part : Nat)
  /-- Pulls data of a field-to-host transfer from an offset. (R594) -/
  | bulkRead (r : Req) (handle : Nat) (p : List Byte)
  /-- Adds data to a host-to-field transfer at the end offset. (R595) -/
  | bulkWrite (r : Req) (handle : Nat) (p : List Byte)
  /-- Gives control to the session, forcibly with FORCE. (R576) -/
  | controlTake (r : Req) (p : List Byte)
  /-- Changes the operator mode in the frame whose snapshot carries it. (R293) -/
  | modeSet (r : Req) (p : List Byte)
  /-- Sets an absolute target or adds a vessel-frame offset to the targets. (R298) -/
  | setpointSet (r : Req) (p : List Byte)
  /-- Releases a set-point held at a STOP waypoint. (R301) -/
  | trackContinue (r : Req) (p : List Byte)
  /-- Releases the session's control. (R576) -/
  | controlRelease (r : Req) (p : List Byte)
  /-- Selects a DESELECTED reference. (R227) -/
  | refSelect (r : Req) (p : List Byte)
  /-- Deselects a reference. (R227) -/
  | refDeselect (r : Req) (p : List Byte)
  /-- Re-accepts a REJECTED reference as SUSPECT. (R227) -/
  | refReaccept (r : Req) (p : List Byte)
  /-- Stages and commits the shadow lever arms of named Leggett entries. (R251) -/
  | refineAdopt (r : Req) (p : List Byte)
  /-- Returns the status of the references. (R224) -/
  | refStatus (r : Req) (p : List Byte)
  /-- Adds, removes or clears satellite exclusions at once. (R118) -/
  | gnssExclude (r : Req) (p : List Byte)
  /-- Starts the GNSS RF self-test. (R157) -/
  | gnssRfTest (r : Req) (p : List Byte)
  /-- Writes the GNSS assistance store on command. (R122) -/
  | assistSave (r : Req) (p : List Byte)
  /-- Returns the GNSS status. (R134) -/
  | gnssStatus (r : Req) (p : List Byte)
  /-- Confirms a pending step in CONFIRM mode for the next pulse boundary. (R180) -/
  | stepConfirm (r : Req) (p : List Byte)
  /-- Sets module time as an operator source while no qualified source is selected. (R183) -/
  | timeSet (r : Req) (p : List Byte)
  /-- Reads the transmit timestamp queue of a port and clears TXTS_OVF. (R191) -/
  | txtsRead (r : Req) (p : List Byte)
  /-- Returns the time status and uncertainty. (R163) -/
  | timeStatus (r : Req) (p : List Byte)
  /-- Disables an actuator, making it UNAVAILABLE. (R350) -/
  | actDisable (r : Req) (p : List Byte)
  /-- Ends the disable of an actuator. (R350) -/
  | actEnable (r : Req) (p : List Byte)
  /-- Returns the allocation part of the record. (R346) -/
  | allocStatus (r : Req) (p : List Byte)
  /-- Returns the latest result records of the consequence cases. (R362) -/
  | caseStatus (r : Req) (p : List Byte)
  /-- Writes host values of HOST digital outputs. (R469) -/
  | dioHostOutput (r : Req) (p : List Byte)
  /-- Forces or unforces one digital output in MAINTENANCE. (R473) -/
  | dioForce (r : Req) (p : List Byte)
  /-- Runs a test that switches the named outputs in MAINTENANCE. (R473) -/
  | dioOutputTest (r : Req) (p : List Byte)
  /-- Writes the host value of an analogue output. (R514) -/
  | aoHostOutput (r : Req) (p : List Byte)
  /-- Forces or unforces an analogue output in MAINTENANCE. (R515) -/
  | aoForce (r : Req) (p : List Byte)
  /-- Starts a running calibration of one input channel. (R517) -/
  | aiCalibrate (r : Req) (p : List Byte)
  /-- Calibrates all inputs or outputs in STANDBY or MAINTENANCE. (R517) -/
  | calibrateAll (r : Req) (p : List Byte)
  /-- Starts rate detection on a bus. (R529) -/
  | busRateDetect (r : Req) (p : List Byte)
  /-- Starts bus-off recovery with MANUAL_RECOVERY. (R543) -/
  | busRecover (r : Req) (p : List Byte)
  /-- Requests a safety reset for the named permits. (R432) -/
  | safetyReset (r : Req) (p : List Byte)
  /-- Restarts the safety unit and its self-test. (R416) -/
  | safetyRestart (r : Req) (p : List Byte)
  /-- Returns the safety status. (R453) -/
  | safetyStatus (r : Req) (p : List Byte)
  /-- Exports a range of yealms as a Bulk transfer. (R649) -/
  | recExport (r : Req) (p : List Byte)
  /-- An export ends and its completion reports yealms, skips and chain breaks. (R649) -/
  | recExportComplete (t h skipped : Nat)
  /-- Closes both open yealms and replies once they are written. (R640) -/
  | recFlush (r : Req) (p : List Byte)
  /-- Triggers an incident freeze. (R642) -/
  | freezeTrigger (r : Req) (p : List Byte)
  /-- Unlocks the incident freeze region. (R642) -/
  | freezeRelease (r : Req) (p : List Byte)
  /-- Tests and returns a retired NAND device to service. (R645) -/
  | nandReturn (r : Req) (p : List Byte)
  /-- A returning device passes or fails and its handle completes. (R645) -/
  | nandReturnComplete (t : Nat) (ok : Bool)
  /-- Starts the known-answer set to leave HOLD. (R393) -/
  | healthReset (r : Req) (p : List Byte)
  /-- Starts the ramp of frozen commands in FREEZE mode. (R392) -/
  | holdRamp (r : Req) (p : List Byte)
  /-- Starts the rejoin of an excluded lane. (R394) -/
  | laneRejoin (r : Req) (p : List Byte)
  /-- Runs the online tests that disturb control in STANDBY or MAINTENANCE. (R103) -/
  | fullTest (r : Req) (p : List Byte)
  /-- Releases duty to a peer that meets the conditions. (R402) -/
  | dutyTransfer (r : Req) (p : List Byte)
  /-- Opens a pending session and returns the server nonce. (R569) -/
  | sessionOpen (r : Req) (user authority : Nat) (nonce : List Byte)
  /-- Checks the client proof and opens the session. (R569) -/
  | sessionProve (r : Req) (proof : List Byte)
  /-- Closes the session and releases its control and event queue. (R572) -/
  | sessionClose (r : Req) (p : List Byte)
  /-- Restarts the session timeout. (R572) -/
  | keepalive (r : Req) (p : List Byte)
  /-- Sets the unit mask and lowest severity of the session's events. (R590) -/
  | eventSubscribe (r : Req) (mask : BitVec 256) (minSeverity : Nat)
  /-- Acknowledges events up to a sequence number. (R592) -/
  | eventAck (r : Req) (seq : Nat)
  /-- Returns the state of the Eaves links and classes. (R601) -/
  | eavesStatus (r : Req) (p : List Byte)
  /-- Requests a software reset of a level and target. (R657) -/
  | resetRequest (r : Req) (p : List Byte)
  /-- SWR is asserted 20 ms after the reply has left the field endpoint. (R657) -/
  | softwareResetAssert (t : Nat)
  /-- Returns the latest reset episodes. (R670) -/
  | resetHistory (r : Req) (p : List Byte)
  /-- Runs the destructive March C− test. (R689) -/
  | memoryMarch (r : Req) (p : List Byte)
  /-- The march ends, its result is stored and a Warm reset is ordered. (R689) -/
  | memoryMarchComplete (t : Nat) (fail : Option (Nat × Nat))
  /-- Returns the memory error counters and march result. (R688) -/
  | memoryStatus (r : Req) (p : List Byte)
  /-- Starts the debug open sequence that erases the secret store. (R697) -/
  | debugOpen (r : Req) (p : List Byte)
  /-- The secret store is erased and read back, and UNPROVISIONED is set. (R698) -/
  | debugEraseComplete (t : Nat) (ok : Bool)
  /-- DBG is asserted at 420 ms and the debug ports open after bring-up. (R698) -/
  | debugResetAssert (t : Nat)
  /-- Adds, changes or deletes a user in the user table. (R695) -/
  | userSet (r : Req) (p : List Byte)
  /-- Generates new keys and clears UNPROVISIONED and TAMPER. (R701) -/
  | reprovision (r : Req) (p : List Byte)
  /-- A write of 1 to a W1C bit without a row of its own clears it. (R17) -/
  | w1cClear (r : Req) (id mask setNow : Nat)
  /-- A read of an RC field returns it and clears it in the same cycle. (R17) -/
  | statusReadClear (r : Req) (id : Nat)
  /-- The recorder accepts a raised event as a new record or as a repeat. (R636) -/
  | eventRecord (t : Nat)
  /-- An open yealm closes when the flush age has passed. (R640) -/
  | yealmAgeExpiry (t region : Nat)
  /-- A yealm's programming and read-back on the devices in service ends. (R643) -/
  | yealmWriteComplete (t : Nat) (failA failB : Option Nat)
  /-- A NAND device without a response within 100 ms fails. (R643) -/
  | nandTimeout (t d asked : Nat)
  /-- At the first strobe after each trend period the recorder makes a trend record. (R637) -/
  | trendRecord (t : Nat)
  /-- The freeze copy ends and the region is locked. (R642) -/
  | freezeCopyComplete (t : Nat)
  /-- The operating-seconds counter rises by 1 and is written to FRAM. (R631) -/
  | operatingSecond (t : Nat) (temp : Int)
  /-- A hardware or engine patrol reads and corrects a memory unit. (R684) -/
  | memoryPatrol (t m : Nat) (r : MemRead) (v : MemVictim) (passDone : Bool)
  /-- A reset source is asserted and its units are held in reset at the effective level. (R660) -/
  | resetSourceAssert (t : Nat) (c : ResetCause)
  /-- A source is released and units with no other source begin bring-up from their phase. (R660) -/
  | resetSourceRelease (t : Nat) (c : ResetCause) (aon : Option Nat) (parts : List Nat)
  /-- PIN held for 30 s is treated as released and PIN_STUCK is set. (R656) -/
  | pinStuck (t : Nat)
  /-- The host watchdog expires after 2 s without service. (R656) -/
  | hostWatchdogExpiry (t served : Nat)
  /-- A lane watchdog expires after 3P without service. (R656) -/
  | laneWatchdogExpiry (t : Nat) (lane : LaneId) (served : Nat)
  /-- A core retiring no instruction, or a router output without a grant, for 10 ms asserts LCK. (R656) -/
  | lockupDetect (t : Nat) (p : LockPlace) (stuck : Nat)
  /-- A clock monitor window ends, and two consecutive bad windows raise CKF. (R62) -/
  | clockMonitorWindow (t island count : Nat)
  /-- An option copy read ends and its checks pass or fail. (R664) -/
  | optionLoadComplete (t : Nat) (image : List Byte)
  /-- Bring-up reaches STANDBY, and the bring-up event is raised. (R667) -/
  | bringupComplete (t unit distanceKm : Nat) (unreadable fram : List Nat) (wrong : List (LaneId × Nat))
  /-- A power input crosses a threshold for its time and changes state. (R671) -/
  | powerInputState (t input volts lasted : Nat)
  /-- Neither input at 16.0 V for 5 ms declares power-fail and starts the shutdown sequence. (R672) -/
  | powerFailDeclared (t : Nat)
  /-- At 200 ms the lanes stop, duty is released and OUTPUT_INHIBIT is set. (R676) -/
  | powerFailOutputStop (t : Nat)
  /-- At 230 ms records raised since the declaration are written in a final yealm. (R647) -/
  | powerFailFinalYealm (t : Nat)
  /-- At 250 ms every output and converter is switched off. (R676) -/
  | orderlyShutdown (t : Nat)
  /-- The hold-up bank reaches VBR and becomes READY. (R675) -/
  | bankReady (t volts : Nat)
  /-- Every capacity test interval the bank is discharged by 1.0 V and BANK_CAP is set. (R675) -/
  | bankCapacityTest (t charge : Nat) (chargerOk : Bool)
  /-- Opening the lid erases the field part of the secret store and latches TAMPER. (R696) -/
  | tamperOpen (t : Nat) (supplied : Bool)
  /-- A random source fails its health test and stops, and event 0xA106 is raised. (R694) -/
  | randomSourceFailure (t part : Nat)
  /-- A tracking channel reaches bit or secondary-code synchronisation, and its predetection integration rises from 1 ms to 20 ms. (R124) -/
  | bitSynchronisation (t ant ch : Nat)
  /-- The own watchdog of a safety channel expires and resets the safety unit, which restarts its self-test with every run permit off. (R416) -/
  | safetyWatchdogExpiry (t : Nat) (c : Chan)
  /-- A brown-out of the safety unit's own rail resets the safety unit, and its run permits drop. (R416) -/
  | safetyRailBrownOut (t : Nat)
  /-- A change of a NAMUR input of an energy-limited port is accepted by the field I/O unit after the port's filter time, for the snapshot and the logic terms. (R487) -/
  | namurInputAccept (t i ua : Nat)
  /-- A bus controller detects a bus error outside its own successful reception, updates REC or TEC and its error state, and during rate detection moves to the next candidate. (R540) -/
  | canBusError (t b lec step : Nat) (onTx : Bool)
  /-- An Eaves sender receives a link acknowledgement with credit returns, frees the acknowledged packets from its retry buffer and regains credit for waiting packets. (R598) -/
  | linkAcknowledgementReceive (t : Nat) (k : EavesKind) (seq : Option Nat) (returned : Nat)
  /-- An Eaves sender resends a packet from its retry buffer that the receiver has not acknowledged. (R36) -/
  | eavesRetryResend (t : Nat) (k : EavesKind) (seq : Nat)
  /-- A MAC of FNET-A, FNET-B or PEER receives a frame that is neither PTP, Xiros nor peer traffic, timestamps it and forwards it to the snapshot builder. (R189) -/
  | fieldNetworkFrameReceive (t port source : Nat) (rtcm : Bool) (data : List Byte)
  /-- A received Jalnomel packet that fails the checks of R567 before any catalogue opcode is served is discarded or answered with its refusal status. (R567) -/
  | packetCheckFailure (t transport addr : Nat) (prp : Option PrpTrailer) (bytes : List Byte)
  /-- A fault of the hold-up bank charger sets BANK_STATE FAULT, and event 0x900A is raised. (R675) -/
  | chargerFault (t : Nat)
  /-- During a power-fail sequence the hold-up bank reaches its lowest converter input, and shutdown is made at that instant. (R676) -/
  | bankReachesVbm (t : Nat)
deriving DecidableEq, Repr

end Sys2Proof
end

