-- ==== Sys2Proof/Decode.lean ====
section
/-!
DEFINITION. The command a word of the opcode table spells. Every row of the table lists its command by name and gives it no bits: a
command comes from outside as an occurrence with its operands, and none is read from an instruction word.
-/

namespace Sys2Proof

/-- No row of the table has bits, so no word of any length spells a command. -/
def decodeTableWord (_nbits _w : Nat) : Option Instr := none

end Sys2Proof
end

