-- ==== Sys2Proof/Config.lean ====
section
/-!
DEFINITION. What the spec leaves open: free values with no body, which no proof can see.
Each one is named in the assumption log.
-/

namespace Sys2Proof

open Sys2Proof.Machine

/-- The OCXO control word after the servo has taken an error: word before, error in 0.1 ns, time constant in s, monotonic time.
R170 names a second-order loop and does not state its arithmetic. -/
opaque Config.ocxoSteer : Word → Int → Nat → Nat → Word

/-- The frequency in which the servo steers the offset while the OCXO warms up (R171), with the same operands. -/
opaque Config.offsetSteer : Int → Int → Nat → Nat → Int

/-- The OCXO control word of the nominal trims (R665), which no rule states. -/
opaque Config.nominalOcxoWord : Word

/-- A fresh unconstrained truth value, for an outcome the spec leaves open. -/
opaque Config.freeBool : Nat → Bool

/-- The uncertainty reported in UNSYNCHRONISED, which R165 and R174 do not state, by monotonic time. -/
opaque Config.unsyncUncertainty : Nat → Nat

/-- The weighted least-squares or RTK solution of an epoch, in binary64 in an order the firmware fixes and no rule states (R201, R234). -/
opaque Config.gnssSolve : SolveInput → SolveResult

/-- The heading of the antenna baseline from single differences (R147, R201). -/
opaque Config.gnssHeading : HeadingInput → HeadingResult

/-- Elevation of a satellite in degrees, from the bits of its ephemeris, a geodetic position and TAI in ns (R235); the interface
specification of its system states how (R138). -/
opaque Config.satElevation : List Byte → Geodetic → Int → Int

/-- The chi-square threshold for some degrees of freedom at a false-alarm probability of 10^-k, as binary64 (R236). -/
opaque Config.chiSquare : Nat → Nat → F64

/-- The detection threshold of acquisition, in the unit of the sums: a parameter without a number (R121). -/
opaque Config.detectionThreshold : Nat

/-- The clock variance and identity the module announces over PTP, which no rule states. -/
opaque Config.ptpVariance : Half

/-- The module-time offset after a step that no signed 96-bit value of 2^-32 ns can hold (R161 states no result), by the exact one. -/
opaque Config.offsetBeyond : Int → BitVec 96

/-- The PTP clock identity of the module. -/
opaque Config.ptpIdentity : DWord

/-- The ECDSA signature of the recorder under the key of a KEY_ID over some bytes, r then s (R639). -/
opaque Config.ecdsa : Nat → List Byte → BitVec 512

/-- Whether an image's signature verifies under the key of a slot (R690, R691): slot, signed bytes, signature. -/
opaque Config.signatureOk : Nat → List Byte → List Byte → Bool

/-- Table formats a firmware package needs, (table key, FORMAT) (R626): no rule places them in the package. -/
opaque Config.neededFormats : List Byte → List (Nat × Nat)

/-- Key slots a boot-loader image revokes, as bits (R691): no rule places them in the image. -/
opaque Config.revocations : List Byte → Nat

/-- The recorder public key of a KEY_ID, 65 bytes uncompressed (R701). -/
opaque Config.publicKey : Nat → BitVec 520

/-- The key of the recovery user, fused at manufacture (R700). -/
opaque Config.recoveryKey : BitVec 256

/-- NAME of IDENTIFY, "from configuration" (R580): no parameter and no table of the catalogue holds it. -/
opaque Config.moduleName : List Byte

/-- The 16 bytes a random source delivers, by the free-value counter (R569). -/
opaque Config.random : Nat → BitVec 128

/-- What a router makes of a flit with errors in three or more 4-bit symbols (R55 states one and two): none when it finds it
uncorrectable, else whether it corrects anything and the data it goes on with; by the data sent and the error. -/
opaque Config.flitManyErrors : BitVec 128 → BitVec 144 → Option (Bool × BitVec 128)

/-- Whether an address of node 5 lies in the comparator slot of a lane, 1 or 2 (R46): no rule places the slots. -/
opaque Config.laneSlot : Nat → Nat → Bool

/-- The bytes that carry the commands of a snapshot (session, tag, opcode, payload): R79 puts them into it, and no rule gives their
section a source number or a layout. -/
opaque Config.commandSection : List (Nat × Nat × Nat × List Byte) → List Byte

/-- The sections a lane takes from a changed copy of a snapshot whose digest still holds, by its bytes (R86: such a copy passes the
check). -/
opaque Config.damagedSections : List Byte → List Section

/-- Operating seconds, power-cycle count, next SEQ and next YSEQ after both counter blocks of FRAM have failed their CRC (R646 states no
result), by the free-value counter. -/
opaque Config.lostCounters : Nat → Word × Word × Nat × Nat

/-- The receive space of a node for replies, in flits (R67): no rule states it. -/
opaque Config.replySpace : Nat → Nat

end Sys2Proof
end

