-- ==== Sys2Proof/Machine/Types/Engine.lean ====
section
/-!
DEFINITION. State of a Batten engine and of the mode and set-point unit of one lane (R254 to R301).
-/

namespace Sys2Proof.Machine

/-- A program image as placed in program memory (R269, R272). -/
structure Program where
  cls : Nat
  slot : Nat
  designP : Nat
  lo : Nat
  hi : Nat
  code : List DWord
deriving DecidableEq, Repr

/-- A coefficient: value and shift (R7, R256). -/
structure Coef where
  value : Int
  shift : Int
deriving DecidableEq, Repr

/-- A context of the engine: the slot it runs, its next instruction, its shape and its accumulators (R254, R264). -/
structure Context where
  slot : Option Nat
  pc : Nat
  m : Nat
  n : Nat
  k : Nat
  acc : List Int
deriving DecidableEq, Repr

/-- A Batten engine. -/
structure Engine where
  /-- Programs and coefficients of the active and the staged bank (R255). -/
  programs : List Program
  stagedPrograms : List Program
  coefs : List (Nat × Coef)
  stagedCoefs : List (Nat × Coef)
  /-- Data memory: addresses rising, no entry of value 0, which an unlisted address reads as. -/
  data : List (Nat × Word)
  fg : Context
  inertial : Context
  /-- Foreground starts waiting, at most 4 (R276). -/
  queue : List Nat
  /-- An inertial start waits for the CONVERSION program to end: its sub-frame and what its motion samples say (R277). -/
  inertialWaits : Option (Nat × List Parsed)
  /-- Sub-frame the inertial program runs for. -/
  inertialSub : Nat
  /-- Numeric status word of the frame under way and of the next one (R261, R262). -/
  status : Word
  nextStatus : Word
  /-- Frames since the latest one with a saturation; none outside an episode (R303). -/
  episode : Option Nat
  fault : Bool
  /-- Sea-state bin and gain levels the windows select (R274). -/
  bin : Nat
  level : Nat
  prevLevel : Nat
deriving DecidableEq, Repr

/-- The operator modes (R292). -/
inductive Mode where
  | standby
  | joystick
  | autoHeading
  | autoPosition
  | followTarget
  | track
  | maintenance
deriving DecidableEq, Repr

/-- What the TRACK set-point is held at (R301). -/
inductive Held where
  | none
  | stop
  | last
deriving DecidableEq, Repr

/-- The mode and set-point unit of a lane. -/
structure Control where
  mode : Mode
  /-- Targets of the axes: north, east (0.1 mm) and heading. -/
  tn : Int
  te : Int
  th : Nat
  /-- FOLLOW-TARGET: track number, offset, offset and heading modes, bearing offset, course held (R299). -/
  follow : Nat
  oN : Int
  oE : Int
  offMode : Nat
  hdgMode : Nat
  bearing : Int
  course : Nat
  /-- TRACK: converted waypoints (north, east), leg under way, start of the leg, holding state (R301). -/
  route : List (Int × Int)
  leg : Nat
  fromN : Int
  fromE : Int
  held : Held
  lastSeen : Bool
  /-- Pulse counts at mode entry, and those latest delivered (R297). -/
  pulse1 : Nat
  pulse2 : Nat
  count1 : Nat
  count2 : Nat
  /-- Joystick deflections of surge, sway and yaw in 0.1 %, and whether each has a valid value (R499). -/
  joy : List Int
  joyValid : List Bool
  /-- Gain blend: frame j of the blend, 0 when none runs, and the held request (R290, R291). -/
  blend : Nat
  heldLevel : Option Nat
  /-- Sea state: counted frames, samples newest first, up and down runs, measure (R284, R285). -/
  counted : Nat
  samples : List Nat
  up : Nat
  down : Nat
  nextBin : Nat
  /-- A sample of the waves that is due: h² of the corrected wave states of its frame (R284). -/
  sampleDue : Option Nat
  /-- Frames computed since the latest period change, rejoin or start of a DP mode (R245). -/
  depthFrames : Nat
  /-- Axes automatic in the previous frame, for the preset of R294. -/
  autoAxes : List Bool
  /-- Control status: LIMIT of each axis in bits 2:0, FROZEN in bits 6:4 (R289). -/
  status : Nat
deriving DecidableEq, Repr

/-- A context that runs nothing. -/
def Context.reset : Context := { slot := none, pc := 0, m := 1, n := 1, k := 1, acc := List.replicate 32 0 }

/-- An engine with empty memories; the numeric status word at its reset value (R261). -/
def Engine.reset : Engine :=
  { programs := [], stagedPrograms := [], coefs := [], stagedCoefs := [], data := [], fg := .reset,
    inertial := .reset, queue := [], inertialWaits := none, inertialSub := 0, status := 0xFF000000#32,
    nextStatus := 0xFF000000#32, episode := none, fault := false, bin := 2, level := 1, prevLevel := 1 }

/-- STANDBY, with nothing set. -/
def Control.reset : Control :=
  { mode := .standby, tn := 0, te := 0, th := 0, follow := 0, oN := 0, oE := 0, offMode := 0, hdgMode := 0,
    bearing := 0, course := 0, route := [], leg := 0, fromN := 0, fromE := 0, held := .none, lastSeen := false,
    pulse1 := 0, pulse2 := 0, count1 := 0, count2 := 0,
    joy := [0, 0, 0], joyValid := [false, false, false], blend := 0, heldLevel := none, counted := 0, samples := [], up := 0, down := 0,
    nextBin := 2, sampleDue := none, depthFrames := 0, autoAxes := [false, false, false], status := 0 }

end Sys2Proof.Machine
end

