-- ==== Sys2Proof/Machine/Batten.lean ====
section
/-!
DEFINITION. The Batten engine: arithmetic, addressing, every instruction, program runs (R254 to R279).
The state-level meanings of the instruction rows stand in Lane programs; here everything is a function of one engine.
-/

namespace Sys2Proof.Machine

/-- An instruction taken apart into its fields (R263). -/
structure BInstr where
  op : Nat
  fmt : Nat
  acc : Bool
  osh : Nat
  mod : Bool
  dst : Nat
  srca : Nat
  srcb : Nat
deriving DecidableEq, Repr

/-- The fields of a 64-bit instruction word (R263). -/
def BInstr.ofWord (w : DWord) : BInstr :=
  let v := w.toNat
  { op := bits v 63 58, fmt := bits v 57 56, acc := bit v 55, osh := bits v 54 49, mod := bit v 46,
    dst := bits v 45 31, srca := bits v 30 16, srcb := bits v 15 0 }

/-- Data memory with a word written: canonical form, an unlisted address reads as 0. -/
def dataSet (m : List (Nat × Word)) (a : Nat) (w : Word) : List (Nat × Word) :=
  if w = 0 then assocErase m a else assocSet m a w

/-- The canonical form of data memory: addresses strictly rising within its 32768 words, no entry 0. -/
def dataWf (m : List (Nat × Word)) : Bool :=
  match m with
  | [] => true
  | [e] => decide (e.1 < 32768) && decide (e.2 ≠ 0)
  | e :: f :: t => decide (e.1 < f.1) && decide (e.2 ≠ 0) && dataWf (f :: t)

/-- A data word. -/
def Engine.word (e : Engine) (a : Nat) : Word := (assoc e.data (a % 32768)).getD 0

/-- A data word as a signed integer. -/
def Engine.int (e : Engine) (a : Nat) : Int := (e.word a).toInt

/-- A data word written. -/
def Engine.setWord (e : Engine) (a : Nat) (w : Word) : Engine :=
  { e with data := dataSet e.data (a % 32768) w }

/-- A data word written with an integer, wrapped to 32 bits. -/
def Engine.setInt (e : Engine) (a : Nat) (v : Int) : Engine := e.setWord a (BitVec.ofInt 32 v)

/-- Consecutive words written with integers. -/
def Engine.setInts (e : Engine) (a : Nat) (vs : List Int) : Engine :=
  match vs with
  | [] => e
  | v :: t => (e.setInt a v).setInts (a + 1) t

/-- The coefficient address behind a program address: the bin and level windows of R274. -/
def Engine.mapCoef (e : Engine) (prev : Bool) (a : Nat) : Nat :=
  if 0xC000 ≤ a ∧ a ≤ 0xC3FF then a + e.bin * 0x400
  else if 0xE000 ≤ a ∧ a ≤ 0xE3FF then a + (if prev then e.prevLevel else e.level) * 0x400
  else a

/-- A coefficient entry; an entry never written is 0 with shift 0. -/
def Engine.coef (e : Engine) (prev : Bool) (a : Nat) : Coef :=
  (assoc e.coefs (e.mapCoef prev a)).getD { value := 0, shift := 0 }

/-- The integer term of a coefficient times a data value (R256). -/
def Coef.term (c : Coef) (x : Int) : Int :=
  if 0 < c.shift then shrRound (c.value * x) c.shift.toNat
  else c.value * x * (2 ^ (-c.shift).toNat : Nat)

/-- The effective value of a coefficient used alone (R256). -/
def Coef.value1 (c : Coef) : Int := c.term 1

/-- Class bit of the numeric status word (R261): INERTIAL 0, FUSION 1, SETPOINT 2, OBSERVER 3, CONTROL 4, CONVERSION 5;
the KAT program has none. -/
def classBit (cls : Nat) : Option Nat := if cls ≤ 5 then some cls else none

/-- A saturated result counted in a numeric status word: FIRST_SLOT, SAT_COUNT and the class bit (R261). -/
def noteSat (w : Word) (cls slot : Nat) : Word :=
  match classBit cls with
  | none => w
  | some b =>
    let first := bits w.toNat 31 24
    let count := bits w.toNat 23 16
    let first := if first = 0xFF then slot else first
    let count := if count = 255 then 255 else count + 1
    BitVec.ofNat 32 (first * 0x1000000 + count * 0x10000) ||| (w &&& 0x0000FFFF#32) ||| (1#32 <<< b)

/-- One of the bits 7 to 9 set: 7 ACC_OVF, 8 DIV_ZERO, 9 DOMAIN; the KAT program sets none. -/
def noteBit (w : Word) (cls b : Nat) : Word := if cls ≤ 5 then w ||| (1#32 <<< b) else w

/-- What the engine is running for: context, class and slot. -/
structure RunAs where
  inertial : Bool
  cls : Nat
  slot : Nat
deriving DecidableEq, Repr

/-- The numeric status word a run reports to: inertial sub-frames 1 to 7 belong to the next frame (R262). -/
def Engine.noteWith (e : Engine) (r : RunAs) (f : Word → Word) : Engine :=
  if r.inertial ∧ e.inertialSub ≠ 0 then { e with nextStatus := f e.nextStatus }
  else { e with status := f e.status }

/-- A saturation noted. -/
def Engine.sat (e : Engine) (r : RunAs) : Engine := e.noteWith r fun w => noteSat w r.cls r.slot

/-- A status bit noted. -/
def Engine.flag (e : Engine) (r : RunAs) (b : Nat) : Engine := e.noteWith r fun w => noteBit w r.cls b

/-- A result brought to its format and written: SAT saturates and counts, WRAP keeps the low 32 bits (R258). -/
def Engine.put (e : Engine) (r : RunAs) (fmt a : Nat) (v : Int) : Engine :=
  if fmt = 1 then e.setInt a v
  else
    let e := if sat32 v = v then e else e.sat r
    e.setInt a (sat32 v)

/-- Consecutive results written. -/
def Engine.puts (e : Engine) (r : RunAs) (fmt a : Nat) : List Int → Engine
  | [] => e
  | v :: t => (e.put r fmt a v).puts r fmt (a + 1) t

/-- Bounds of the 72-bit accumulator (R257). -/
def accMax : Int := 2361183241434822606847

/-- The lower bound. -/
def accMin : Int := -2361183241434822606848

/-- A sum in the accumulator, from a start value, in order: once a partial sum leaves the range the bound is kept;
the second result tells whether a bound was taken (R257). -/
def accSum : Int → List Int → Int × Bool
  | a, [] => if a > accMax then (accMax, true) else if a < accMin then (accMin, true) else (a, false)
  | a, t :: ts =>
    if a > accMax then (accMax, true) else if a < accMin then (accMin, true) else accSum (a + t) ts

/-- The context an instruction runs in. -/
def Engine.ctx (e : Engine) (inertial : Bool) : Context := if inertial then e.inertial else e.fg

/-- A context written. -/
def Engine.setCtx (e : Engine) (inertial : Bool) (c : Context) : Engine :=
  if inertial then { e with inertial := c } else { e with fg := c }

/-- The column stride of a matrix of M rows (R265). -/
def stride (m : Nat) : Nat := 32 * ((m + 31) / 32)

/-- The numbers 0 to n − 1. -/
def upTo (n : Nat) : List Nat := List.range n

/-- All output elements of a matrix instruction: sources are read before any destination is written (R259). -/
def Engine.sumAll (e : Engine) (r : RunAs) (i : BInstr) (elems : List (Nat × List Int)) : Engine :=
  let res := elems.map fun p =>
    let start : Int := if i.acc then e.int p.1 * (2 ^ i.osh : Nat) else 0
    (p.1, accSum start p.2)
  let acc := (res.take 32).map fun p => p.2.1
  let c := e.ctx r.inertial
  let e := e.setCtx r.inertial { c with acc := acc ++ c.acc.drop acc.length }
  res.foldl (fun e p =>
    let e := if p.2.2 then e.flag r 7 else e
    e.put r i.fmt p.1 (shrRound p.2.1 i.osh)) e

/-- Elementwise results from exact values, each shifted once (R258). -/
def Engine.elems (e : Engine) (r : RunAs) (i : BInstr) (vs : List Int) : Engine :=
  e.puts r i.fmt i.dst (vs.map fun v => shrRound v i.osh)

/-- Rounded quotient, half up, for a divisor of either sign. -/
def divHalfUp (a b : Int) : Int := (if b < 0 then -(2 * a) - b else 2 * a + b) / (2 * (b.natAbs : Int))

/-- Rounded square root, half up. -/
def sqrtHalfUp (n : Nat) : Nat := (isqrt (4 * n) + 1) / 2

/-- A table at consecutive coefficient entries: count, breakpoints, outputs, at their effective values (R268). -/
def Engine.table (e : Engine) (a : Nat) : List (Int × Int) :=
  let k := ((e.coef false a).value1).toNat
  (upTo k).map fun j => ((e.coef false (a + 1 + j)).value1, (e.coef false (a + 1 + k + j)).value1)

/-- Interpolation in a table; the second result tells that the input lay outside (R268). -/
def interpolate (pts : List (Int × Int)) (x : Int) : Int × Bool :=
  match pts with
  | [] => (0, true)
  | (x0, y0) :: rest =>
    if x < x0 then (y0, true)
    else
      let rec go : Int → Int → List (Int × Int) → Int × Bool
        | _, yk, [] => (yk, true)
        | xk, yk, (x1, y1) :: t =>
          if x < x1 then (yk + divHalfUp ((x - xk) * (y1 - yk)) (x1 - xk), false) else go x1 y1 t
      go x0 y0 rest

/-- NOP: nothing (R266). -/
def Engine.opNop (e : Engine) : Engine := e

/-- SHAPE: the shape register from SRCB and SRCA (R264). -/
def Engine.opShape (e : Engine) (r : RunAs) (i : BInstr) : Engine :=
  let c := e.ctx r.inertial
  e.setCtx r.inertial { c with m := bits i.srcb 5 0 + 1, n := bits i.srcb 11 6 + 1, k := bits i.srca 5 0 + 1 }

/-- Number of elements of an elementwise instruction (R265). -/
def Engine.len (e : Engine) (r : RunAs) : Nat := (e.ctx r.inertial).m * (e.ctx r.inertial).n

/-- The source element vector at an address. -/
def Engine.vec (e : Engine) (a n : Nat) : List Int := (upTo n).map fun j => e.int (a + j)

/-- MOVC. -/
def Engine.opMovc (e : Engine) (r : RunAs) (i : BInstr) : Engine :=
  e.elems r i ((upTo (e.len r)).map fun j => (e.coef false (i.srcb + j)).value1)

/-- MOVD. -/
def Engine.opMovd (e : Engine) (r : RunAs) (i : BInstr) : Engine := e.elems r i (e.vec i.srca (e.len r))

/-- MVC: coefficient matrix times vector. -/
def Engine.opMvc (e : Engine) (r : RunAs) (i : BInstr) : Engine :=
  let c := e.ctx r.inertial
  e.sumAll r i ((upTo c.m).map fun row => (i.dst + row, (upTo c.n).map fun col =>
    (e.coef i.mod (i.srcb + stride c.m * col + row)).term (e.int (i.srca + col))))

/-- MVD: data matrix at SRCB times vector at SRCA. -/
def Engine.opMvd (e : Engine) (r : RunAs) (i : BInstr) : Engine :=
  let c := e.ctx r.inertial
  e.sumAll r i ((upTo c.m).map fun row => (i.dst + row, (upTo c.n).map fun col =>
    e.int (i.srcb + stride c.m * col + row) * e.int (i.srca + col)))

/-- MMC: coefficient matrix times data matrix. -/
def Engine.opMmc (e : Engine) (r : RunAs) (i : BInstr) : Engine :=
  let c := e.ctx r.inertial
  e.sumAll r i ((upTo c.n).flatMap fun col => (upTo c.m).map fun row =>
    (i.dst + stride c.m * col + row, (upTo c.k).map fun q =>
      (e.coef i.mod (i.srcb + stride c.m * q + row)).term (e.int (i.srca + stride c.k * col + q))))

/-- MMD: data matrix at SRCB times data matrix at SRCA. -/
def Engine.opMmd (e : Engine) (r : RunAs) (i : BInstr) : Engine :=
  let c := e.ctx r.inertial
  e.sumAll r i ((upTo c.n).flatMap fun col => (upTo c.m).map fun row =>
    (i.dst + stride c.m * col + row, (upTo c.k).map fun q =>
      e.int (i.srcb + stride c.m * q + row) * e.int (i.srca + stride c.k * col + q)))

/-- VSCL: each element times its own coefficient; ACC has effect. -/
def Engine.opVscl (e : Engine) (r : RunAs) (i : BInstr) : Engine :=
  e.sumAll r i ((upTo (e.len r)).map fun j =>
    (i.dst + j, [(e.coef false (i.srcb + j)).term (e.int (i.srca + j))]))

/-- VADD. -/
def Engine.opVadd (e : Engine) (r : RunAs) (i : BInstr) : Engine :=
  e.elems r i ((upTo (e.len r)).map fun j => e.int (i.srca + j) + e.int (i.srcb + j))

/-- VSUB. -/
def Engine.opVsub (e : Engine) (r : RunAs) (i : BInstr) : Engine :=
  e.elems r i ((upTo (e.len r)).map fun j => e.int (i.srca + j) - e.int (i.srcb + j))

/-- VMUL. -/
def Engine.opVmul (e : Engine) (r : RunAs) (i : BInstr) : Engine :=
  e.elems r i ((upTo (e.len r)).map fun j => e.int (i.srca + j) * e.int (i.srcb + j))

/-- VABS. -/
def Engine.opVabs (e : Engine) (r : RunAs) (i : BInstr) : Engine :=
  e.elems r i ((e.vec i.srca (e.len r)).map fun a => (a.natAbs : Int))

/-- VCLMP: limiting, which is no saturation (R260). -/
def Engine.opVclmp (e : Engine) (r : RunAs) (i : BInstr) : Engine :=
  e.puts r i.fmt i.dst ((upTo (e.len r)).map fun j =>
    let lo := (e.coef false (i.srcb + 2 * j)).value1
    let hi := (e.coef false (i.srcb + 2 * j + 1)).value1
    min (max (e.int (i.srca + j)) lo) hi)

/-- VSEL: elements whose mask word is not 0 are written. -/
def Engine.opVsel (e : Engine) (r : RunAs) (i : BInstr) : Engine :=
  let picks := (upTo (e.len r)).filter fun j => e.word (i.srcb + j) ≠ 0
  let vals := picks.map fun j => (i.dst + j, e.int (i.srca + j))
  vals.foldl (fun e p => e.put r i.fmt p.1 p.2) e

/-- VCGT. -/
def Engine.opVcgt (e : Engine) (r : RunAs) (i : BInstr) : Engine :=
  e.puts r i.fmt i.dst ((upTo (e.len r)).map fun j =>
    if e.int (i.srca + j) > e.int (i.srcb + j) then 1 else 0)

/-- RLIM: the destination moves towards the source by at most the coefficient. -/
def Engine.opRlim (e : Engine) (r : RunAs) (i : BInstr) : Engine :=
  e.elems r i ((upTo (e.len r)).map fun j =>
    let y := e.int (i.dst + j)
    let c := (e.coef false (i.srcb + j)).value1
    y + min (max (e.int (i.srca + j) - y) (-c)) c)

/-- BLND: a blend with k of 0 to 65536. -/
def Engine.opBlnd (e : Engine) (r : RunAs) (i : BInstr) : Engine :=
  let k := clampInt 0 65536 (e.int i.srcb)
  e.elems r i ((upTo (e.len r)).map fun j =>
    let a := e.int (i.srca + j)
    a + ((e.int (i.dst + j) - a) * k + 32768) / 65536)

/-- SINCOS: pairs of sine and cosine in Q1.30 (R267). -/
def Engine.opSincos (e : Engine) (r : RunAs) (i : BInstr) : Engine :=
  e.puts r i.fmt i.dst ((upTo (e.len r)).flatMap fun j =>
    let a := (e.word (i.srca + j)).toNat
    [sinQ30 a, cosQ30 a])

/-- ROT2: pairs rotated by the angle at SRCB (R267). -/
def Engine.opRot2 (e : Engine) (r : RunAs) (i : BInstr) : Engine :=
  let a := (e.word i.srcb).toNat
  e.puts r i.fmt i.dst ((upTo (e.len r)).flatMap fun j =>
    let p := rotate a i.mod (e.int (i.srca + 2 * j)) (e.int (i.srca + 2 * j + 1))
    [p.1, p.2])

/-- DIV: the zero divisor gives the bounds and sets DIV_ZERO (R267). -/
def Engine.opDiv (e : Engine) (r : RunAs) (i : BInstr) : Engine :=
  let vs := (upTo (e.len r)).map fun j => (e.int (i.srca + j), e.int (i.srcb + j))
  let e := if vs.any fun p => p.2 = 0 then e.flag r 8 else e
  e.puts r i.fmt i.dst (vs.map fun p =>
    if p.2 = 0 then (if p.1 > 0 then 2147483647 else if p.1 < 0 then -2147483648 else 0)
    else divHalfUp (p.1 * (2 ^ i.osh : Nat)) p.2)

/-- ISQRT: a negative value gives 0 and sets DOMAIN (R267). -/
def Engine.opIsqrt (e : Engine) (r : RunAs) (i : BInstr) : Engine :=
  let vs := e.vec i.srca (e.len r)
  let e := if vs.any fun a => a < 0 then e.flag r 9 else e
  e.puts r i.fmt i.dst (vs.map fun a => if a < 0 then 0 else (sqrtHalfUp (a.toNat * 2 ^ i.osh) : Nat))

/-- TBL: interpolation; an input outside the table counts as a saturation (R268). -/
def Engine.opTbl (e : Engine) (r : RunAs) (i : BInstr) : Engine :=
  let t := e.table i.srcb
  let vs := (e.vec i.srca (e.len r)).map fun a => interpolate t a
  let e := vs.foldl (fun e p => if p.2 then e.sat r else e) e
  e.puts r i.fmt i.dst (vs.map fun p => shrRound p.1 i.osh)

/-- ATAN2: binary angles, written as 32-bit patterns in either format (R267). -/
def Engine.opAtan2 (e : Engine) (r : RunAs) (i : BInstr) : Engine :=
  let vs := (upTo (e.len r)).map fun j => (e.int (i.srca + 2 * j), e.int (i.srca + 2 * j + 1))
  let e := if vs.any fun p => p.1 = 0 ∧ p.2 = 0 then e.flag r 9 else e
  e.puts r 1 i.dst (vs.map fun p => (direction p.1 p.2 : Nat))

/-- One instruction other than END; an opcode the spec does not list never passes staging and does nothing here. -/
def Engine.operate (e : Engine) (r : RunAs) (i : BInstr) : Engine :=
  match i.op with
  | 0x00 => e.opNop
  | 0x01 => e.opShape r i
  | 0x04 => e.opMovc r i
  | 0x05 => e.opMovd r i
  | 0x08 => e.opMvc r i
  | 0x09 => e.opMvd r i
  | 0x0A => e.opMmc r i
  | 0x0B => e.opMmd r i
  | 0x0C => e.opVscl r i
  | 0x10 => e.opVadd r i
  | 0x11 => e.opVsub r i
  | 0x12 => e.opVmul r i
  | 0x14 => e.opVabs r i
  | 0x15 => e.opVclmp r i
  | 0x16 => e.opVsel r i
  | 0x17 => e.opVcgt r i
  | 0x18 => e.opRlim r i
  | 0x19 => e.opBlnd r i
  | 0x20 => e.opSincos r i
  | 0x21 => e.opRot2 r i
  | 0x22 => e.opDiv r i
  | 0x23 => e.opIsqrt r i
  | 0x24 => e.opTbl r i
  | 0x25 => e.opAtan2 r i
  | _ => e

/-- The context moves past one instruction. -/
def Engine.advance (e : Engine) (inertial : Bool) : Engine :=
  let c := e.ctx inertial
  e.setCtx inertial { c with pc := c.pc + 1 }

/-- Instructions run one after the other up to END (R276). -/
def Engine.runCode (e : Engine) (r : RunAs) : List DWord → Engine
  | [] => e
  | w :: rest =>
    let i := BInstr.ofWord w
    if i.op = 2 then e.advance r.inertial else ((e.operate r i).advance r.inertial).runCode r rest

/-- A context at the start of a program: shape 1 × 1 × 1 (R264). -/
def Context.start (c : Context) (slot : Nat) : Context := { c with slot := some slot, pc := 0, m := 1, n := 1, k := 1 }

/-- A whole program run in its context (R264, R276). -/
def Engine.runProgram (e : Engine) (inertial : Bool) (p : Program) : Engine :=
  let e := e.setCtx inertial ((e.ctx inertial).start p.slot)
  let e := e.runCode { inertial := inertial, cls := p.cls, slot := p.slot } p.code
  e.setCtx inertial { e.ctx inertial with slot := none }

/-- The program of a class. -/
def Engine.programOf (e : Engine) (cls : Nat) : Option Program := e.programs.find? fun p => p.cls = cls

/-- The program in a slot. -/
def Engine.programAt (e : Engine) (slot : Nat) : Option Program := e.programs.find? fun p => p.slot = slot

/-- The start address of a slot in the program bank: images in ascending slot order, one after the other (R272). -/
def Engine.slotStart (e : Engine) (slot : Nat) : Nat :=
  ((e.programs.filter fun p => p.slot < slot).map fun p => p.code.length).sum

/-- Run time of one instruction in cycles of 400 MHz (R266). -/
def BInstr.cycles (i : BInstr) (m n k : Nat) : Nat :=
  let l := (m * n + 31) / 32
  let rows := (m + 31) / 32
  if i.op ≤ 2 then 2
  else if i.op = 0x08 ∨ i.op = 0x09 then 10 + n * rows
  else if i.op = 0x0A ∨ i.op = 0x0B then 10 + k * n * rows
  else if i.op = 0x20 ∨ i.op = 0x25 then 24 + 4 * l
  else if i.op = 0x21 then 30 + l
  else if i.op = 0x22 ∨ i.op = 0x23 then 12 + 72 * l
  else if i.op = 0x24 then 12 + 24 * l
  else 6 + l

end Sys2Proof.Machine
end

