-- ==== Sys2Proof/Machine/Crypto.lean ====
section
/-!
DEFINITION. The standard functions the spec names: SHA-256 (R638), SHA-384 (R690), HMAC-SHA-384 (R569, R570) and AES-256-CTR (R695).
PRESUMED: as the published standards define them (FIPS 180-4, FIPS 198-1, FIPS 197, SP 800-38A).
-/

namespace Sys2Proof.Machine

/-- The first 80 primes. -/
def primes80 : List Nat :=
  (List.range 410).filter fun p => 2 ≤ p && (List.range p).all fun d => d < 2 || p % d ≠ 0

/-- Integer cube root: the largest r with r³ ≤ n, by binary digits from bit k down. -/
def icbrtFrom : Nat → Nat → Nat → Nat
  | 0, n, r => if (r + 1) ^ 3 ≤ n then r + 1 else r
  | k + 1, n, r =>
    let c := r + 2 ^ (k + 1)
    icbrtFrom k n (if c ^ 3 ≤ n then c else r)

/-- The first 64 bits of the fractional parts of the cube roots of the first 80 primes. -/
def shaConstants : List Nat := primes80.map fun p => icbrtFrom 68 (p * 2 ^ 192) 0 % 2 ^ 64

/-- The first 64 bits of the fractional parts of the square roots of 8 primes. -/
def shaStart (ps : List Nat) : List Nat := ps.map fun p => isqrt (p * 2 ^ 128) % 2 ^ 64

/-- A message padded to whole blocks of 16 words of n bytes: 0x80, zeros, the length in bits. -/
def shaPad (n : Nat) (m : List Byte) : List Byte :=
  let block := 16 * n
  let tail := 2 * n
  let zeros := (2 * block - (m.length + 1 + tail) % block) % block
  m ++ [0x80] ++ List.replicate zeros 0 ++ be tail (8 * m.length)

/-- The xor of two rotations and of a rotation or shift. -/
def shaMix {w : Nat} (r : Nat × Nat × Nat) (shift : Bool) (x : BitVec w) : BitVec w :=
  x.rotateRight r.1 ^^^ x.rotateRight r.2.1 ^^^ (if shift then x >>> r.2.2 else x.rotateRight r.2.2)

/-- The rotations of one of the two hashes. -/
structure ShaRotations where
  sum0 : Nat × Nat × Nat
  sum1 : Nat × Nat × Nat
  sched0 : Nat × Nat × Nat
  sched1 : Nat × Nat × Nat
deriving DecidableEq, Repr

/-- Message schedule, newest word first, with k further words. -/
def shaSchedule {w : Nat} (c : ShaRotations) : Nat → List (BitVec w) → List (BitVec w)
  | 0, ws => ws
  | k + 1, ws =>
    let at_ (i : Nat) : BitVec w := ws.getD i 0
    shaSchedule c k ((shaMix c.sched1 true (at_ 1) + at_ 6 + shaMix c.sched0 true (at_ 14) + at_ 15) :: ws)

/-- One round on the words a to h with a schedule word and a constant. -/
def shaRound {w : Nat} (c : ShaRotations) (s : List (BitVec w)) (x : BitVec w × BitVec w) : List (BitVec w) :=
  match s with
  | [a, b, d, e, f, g, h, i] =>
    let t1 := i + shaMix c.sum1 false f + ((f &&& g) ^^^ (~~~f &&& h)) + x.2 + x.1
    let t2 := shaMix c.sum0 false a + ((a &&& b) ^^^ (a &&& d) ^^^ (b &&& d))
    [t1 + t2, a, b, d, e + t1, f, g, h]
  | _ => s

/-- One block of 16 words of n bytes. -/
def shaBlock {w : Nat} (c : ShaRotations) (ks : List (BitVec w)) (n : Nat) (s : List (BitVec w)) (block : List Byte) :
    List (BitVec w) :=
  let ws := (List.range 16).map fun i => BitVec.ofNat w (ofBe (slice block (n * i) n))
  let sched := (shaSchedule c (ks.length - 16) ws.reverse).reverse
  ((sched.zip ks).foldl (shaRound c) s).zipWith (· + ·) s

/-- A hash over the padded message, block by block. -/
def shaHash {w : Nat} (c : ShaRotations) (ks start : List (BitVec w)) (n : Nat) (m : List Byte) : List Byte :=
  let p := shaPad n m
  let blocks := (List.range (p.length / (16 * n))).map fun i => slice p (16 * n * i) (16 * n)
  (blocks.foldl (shaBlock c ks n) start).flatMap fun x => be n x.toNat

/-- SHA-256 of some bytes (R638, R639). -/
def sha256 (m : List Byte) : List Byte :=
  let c : ShaRotations := { sum0 := (2, 13, 22), sum1 := (6, 11, 25), sched0 := (7, 18, 3), sched1 := (17, 19, 10) }
  let word (v : Nat) : BitVec 32 := BitVec.ofNat 32 (v / 2 ^ 32)
  shaHash c ((shaConstants.take 64).map word) ((shaStart (primes80.take 8)).map word) 4 m

/-- SHA-384 of some bytes (R690). -/
def sha384 (m : List Byte) : List Byte :=
  let c : ShaRotations := { sum0 := (28, 34, 39), sum1 := (14, 18, 41), sched0 := (1, 8, 7), sched1 := (19, 61, 6) }
  let word (v : Nat) : BitVec 64 := BitVec.ofNat 64 v
  (shaHash c (shaConstants.map word) ((shaStart ((primes80.drop 8).take 8)).map word) 8 m).take 48

/-- HMAC-SHA-384 of a message under a key (R569, R570). -/
def hmac (key m : List Byte) : List Byte :=
  let k := if 128 < key.length then sha384 key else key
  let pad (x : Byte) : List Byte := (List.range 128).map fun i => k.getD i 0 ^^^ x
  sha384 (pad 0x5C ++ sha384 (pad 0x36 ++ m))

/-- A byte of GF(2^8) doubled. -/
def gfDouble (x : Byte) : Byte := if x.getLsbD 7 then (x <<< 1) ^^^ 0x1B else x <<< 1

/-- The product of two bytes of GF(2^8). -/
def gfMul (x y : Byte) : Byte :=
  ((List.range 8).foldl (fun (p : Byte × Byte) i => (if y.getLsbD i then p.1 ^^^ p.2 else p.1, gfDouble p.2)) (0, x)).1

/-- The AES substitution: the inverse, x to the 254th, then the affine map. -/
def aesSub (x : Byte) : Byte :=
  let sq (n : Nat) : Byte := (List.range n).foldl (fun y _ => gfMul y y) x
  let inv := (List.range 7).foldl (fun y i => gfMul y (sq (i + 1))) 1
  inv ^^^ inv.rotateLeft 1 ^^^ inv.rotateLeft 2 ^^^ inv.rotateLeft 3 ^^^ inv.rotateLeft 4 ^^^ 0x63

/-- The 60 words of the key schedule of a 32-byte key, newest first, from those given on. -/
def aesKeys : Nat → List (List Byte) → List (List Byte)
  | 0, ws => ws
  | k + 1, ws =>
    let i := ws.length
    let prev := ws.getD 0 []
    let rcon : Byte := (List.range (i / 8 - 1)).foldl (fun x _ => gfDouble x) 1
    let t :=
      if i % 8 = 0 then ((prev.drop 1 ++ prev.take 1).map aesSub).zipWith (· ^^^ ·) [rcon, 0, 0, 0]
      else if i % 8 = 4 then prev.map aesSub
      else prev
    aesKeys k ((t.zipWith (· ^^^ ·) (ws.getD 7 [])) :: ws)

/-- The rows of the state shifted; byte r + 4 c is row r of column c. -/
def aesShift (s : List Byte) : List Byte := (List.range 16).map fun i => s.getD ((i + 4 * (i % 4)) % 16) 0

/-- The columns of the state mixed. -/
def aesMix (s : List Byte) : List Byte :=
  (List.range 16).map fun i =>
    let at_ (k : Nat) : Byte := s.getD (i / 4 * 4 + (i + k) % 4) 0
    gfDouble (at_ 0) ^^^ gfMul (at_ 1) 3 ^^^ at_ 2 ^^^ at_ 3

/-- One block of 16 bytes encrypted under a 32-byte key: 14 rounds. -/
def aesBlock (key block : List Byte) : List Byte :=
  let ws := (aesKeys 52 ((List.range 8).map fun i => slice key (4 * i) 4).reverse).reverse
  let add (s : List Byte) (r : Nat) : List Byte := s.zipWith (· ^^^ ·) (((ws.drop (4 * r)).take 4).flatMap id)
  let s := (List.range 13).foldl (fun s r => add (aesMix (aesShift (s.map aesSub))) (r + 1)) (add block 0)
  add (aesShift (s.map aesSub)) 14

/-- AES-256-CTR of some bytes from an initial counter block, which counts as one big-endian number (R695). -/
def aesCtr (key start m : List Byte) : List Byte :=
  m.zipIdx.map fun p => p.1 ^^^ (aesBlock key (be 16 ((ofBe start + p.2 / 16) % 2 ^ 128))).getD (p.2 % 16) 0

end Sys2Proof.Machine
end

