-- ==== Sys2Proof/Machine/Params.lean ====
section
/-!
DEFINITION. The parameter catalogue: every parameter of the chapters with its access code (R17), range and default.
A value is a 32-bit word; signed parameters are read as two's complement (R158, R717).
-/

namespace Sys2Proof.Machine

/-- How the words of a parameter are judged against its range. -/
inductive PRange where
  /-- An unsigned value from lo to hi. -/
  | nat (lo hi : Nat)
  /-- A signed value from lo to hi. -/
  | int (lo hi : Int)
  /-- A value of the first range, or one further code. -/
  | natOr (lo hi other : Nat)
  /-- Three 4-bit SOURCE codes from 1 to 3 in bits 11:0 (R199). -/
  | sourceList
  /-- Three 2-bit levels from 1 to 3 in bits 5:0 (R351). -/
  | levels
  /-- The signal-enable word of R112, with the acquisition-signal rule of R113. -/
  | signals
  /-- An IPv4 address; the unicast check of R602 is made on the whole write. -/
  | ipv4
  /-- A trend item descriptor of R637. -/
  | trend
  /-- A read-only item whose value the module forms. -/
  | readOnly
deriving DecidableEq, Repr

/-- One parameter: ID in the layout of R27, access (RWS when standbyOnly), range and default word. -/
structure ParamDesc where
  id : Nat
  standbyOnly : Bool
  range : PRange
  dflt : Int
deriving DecidableEq, Repr

/-- An RW parameter. -/
def rw (id : Nat) (r : PRange) (d : Int) : ParamDesc := { id := id, standbyOnly := false, range := r, dflt := d }

/-- An RWS parameter. -/
def rws (id : Nat) (r : PRange) (d : Int) : ParamDesc := { id := id, standbyOnly := true, range := r, dflt := d }

/-- The same RW parameter for n consecutive items. -/
def rwRun (id n : Nat) (r : PRange) (d : Int) : List ParamDesc :=
  (List.range n).map fun i => rw (id + i) r d

/-- The same RWS parameter for n consecutive items. -/
def rwsRun (id n : Nat) (r : PRange) (d : Int) : List ParamDesc :=
  (List.range n).map fun i => rws (id + i) r d

/-- System: frame period (R72) and baseplate temperature (R711). -/
def paramsSystem : List ParamDesc :=
  [ rws 0x01010001 (.nat 10 100) 20, rw 0x01010002 .readOnly 0 ]

/-- Mode and set-point unit (R302). -/
def paramsMode : List ParamDesc :=
  [ rw 0x02010001 (.nat 1000 2000000) 300000, rw 0x02010002 (.nat 100 100000) 20000,
    rw 0x02010003 (.nat 1000 175000) 17453, rw 0x02010004 (.nat 100 17453) 1745,
    rw 0x02010005 (.nat 10 1000) 100, rw 0x02010006 (.nat 0 1000000) 200000,
    rw 0x02010007 (.nat 0 87266) 8727, rw 0x02010008 (.nat 0 200) 50,
    rw 0x02010009 (.nat 0 7) 7, rw 0x0201000A (.nat 0 4) 0,
    rw 0x0201000B (.int (-1000000) 1000000) 10, rw 0x0201000C (.nat 0 4) 0,
    rw 0x0201000D (.int (-1000000) 1000000) 10, rw 0x0201000E (.nat 0 1) 0,
    rw 0x0201000F (.nat 0 1) 0, rw 0x02010010 (.nat 0 1) 1,
    rw 0x02010011 (.nat 1000 10000000) 300000, rw 0x02010012 (.nat 1000 10000000) 300000,
    rw 0x02010013 (.nat 10000 100000000) 1000000 ]

/-- Fusion (R252). -/
def paramsFusion : List ParamDesc :=
  [ rw 0x10010001 (.nat 100 10000) 1380, rw 0x10010002 (.nat 100 10000) 1080,
    rw 0x10010003 (.nat 1 20) 3, rw 0x10010004 (.nat 1000 100000) 10000,
    rw 0x10010005 (.nat 0x0000B60B 0x0E38E38E) 0x016C16C1, rw 0x10010006 (.nat 20 100) 40,
    rw 0x10010007 (.nat 100 10000) 1000, rw 0x10010008 (.nat 34 100) 60,
    rw 0x10010010 (.nat 34 100) 60, rw 0x10010009 (.nat 0 100) 50,
    rw 0x1001000A (.nat 1 300) 10, rw 0x1001000B (.nat 10 3600) 60,
    rw 0x1001000C (.nat 30 600) 120, rw 0x1001000D (.nat 500 50000) 5000,
    rw 0x1001000E (.nat 100000 100000000) 10000000, rw 0x1001000F (.nat 100000 50000000) 5000000,
    rw 0x10040001 (.nat 200 10000) 2000, rw 0x10040002 (.nat 1 120) 10,
    rw 0x10050001 (.nat 2000 4500) 3000, rw 0x10050002 (.nat 3 7) 5,
    rw 0x10050003 (.nat 60 3600) 300, rws 0x10060001 (.nat 0 1) 0 ]

/-- The signal codes of R109. -/
def signalCodes : List Nat :=
  [0x00, 0x01, 0x02, 0x03, 0x10, 0x11, 0x20, 0x21, 0x22, 0x30, 0x31, 0x32, 0x40]

/-- The six loop parameters of one signal (R717). -/
def paramsLoop (sig : Nat) : List ParamDesc :=
  let b := 0x11030000 + sig * 256
  [ rw (b + 1) (.nat 10 200) 100, rw (b + 2) (.nat 50 300) 150, rw (b + 3) (.nat 1 200) 25,
    rw (b + 4) (.nat 1 20) 20, rw (b + 5) (.nat 5 100) 10, rw (b + 6) (.nat 1500 4000) 2800 ]

/-- GNSS (R112, R158). -/
def paramsGnss : List ParamDesc :=
  [ rws 0x11010001 .signals 0x1FFF, rw 0x11010002 (.nat 0 30) 5, rws 0x11010003 (.nat 1 10) 1,
    rw 0x11010004 (.nat 0 0x1F) 0, rws 0x11020001 (.int (-30000) 30000) 0,
    rws 0x11020002 (.int (-30000) 30000) 0, rw 0x11020003 (.nat 0 3) 3,
    rws 0x11040001 (.nat 5000 500000) 50000, rw 0x11060001 (.nat 45 60) 55,
    rw 0x11070001 (.nat 1 60) 10 ]

/-- One PTP instance (R188): table base, default enable and default port. -/
def paramsPtp (b : Nat) (en port : Int) : List ParamDesc :=
  [ rws (b + 1) (.nat 0 1) en, rws (b + 2) (.nat 0 2) port, rws (b + 3) (.nat 0 127) 0,
    rws (b + 4) (.nat 0 1) (if en = 1 then 1 else 0), rws (b + 5) (.nat 0 1) 0,
    rw (b + 6) (.nat 0 255) 128, rw (b + 7) (.nat 0 255) 128, rw (b + 8) (.int (-4) 1) 0,
    rw (b + 9) (.nat 0 4) 1, rw (b + 10) (.nat 0 5) 0, rw (b + 11) (.nat 2 10) 3,
    rw (b + 12) (.nat 6 255) 7, rw (b + 13) (.int (-100000) 100000) 0 ]

/-- Time (R188, R199). -/
def paramsTime : List ParamDesc :=
  [ rw 0x12010001 (.nat 50 1000000) 500, rw 0x12010002 (.nat 1 100) 100, rw 0x12010003 (.nat 0 1) 0,
    rw 0x12010004 (.nat 600 259200) 14400, rw 0x12010005 (.nat 0 1) 0, rws 0x12010006 (.nat 10 1000) 100,
    rw 0x12010007 .sourceList 0x321, rw 0x12010008 (.nat 0 3600) 60, rw 0x12010009 (.nat 100 100000) 1000,
    rw 0x1201000A (.nat 0 255) 37, rw 0x1201000B (.nat 10 10000) 500 ]
    ++ paramsPtp 0x12020000 1 0 ++ paramsPtp 0x12030000 0 1
    ++ rwRun 0x12040001 6 (.int (-10000) 10000) 0
    ++ [ rw 0x12050001 (.nat 1 500) 100, rw 0x12050002 (.nat 0 10000) 0,
         rw 0x12050003 (.nat 4800 115200) 9600, rw 0x12050004 (.nat 0 3) 3 ]

/-- Batten and gain scheduling (R302). -/
def paramsBatten : List ParamDesc :=
  [ rw 0x20010001 (.natOr 0 7 0xFF) 0xFF, rw 0x20010002 (.nat 100 200000) 500,
    rw 0x20010003 (.nat 100 200000) 1000, rw 0x20010004 (.nat 100 200000) 2000,
    rw 0x20010005 (.nat 100 200000) 3500, rw 0x20010006 (.nat 100 200000) 5000,
    rw 0x20010007 (.nat 100 200000) 7500, rw 0x20010008 (.nat 100 200000) 10000,
    rw 0x20010009 (.nat 0 7) 2, rw 0x2001000A (.nat 0 2) 1, rw 0x2001000B (.nat 10 500) 50 ]

/-- Allocation (R351). -/
def paramsAlloc : List ParamDesc :=
  [ rw 0x21010001 (.nat 8 128) 64, rw 0x21010002 .levels 0x1B, rw 0x21010003 (.nat 1000 10000000) 100000,
    rw 0x21010004 (.nat 10000 100000000) 1000000, rw 0x21010005 (.nat 1 1000) 10,
    rw 0x21010006 (.nat 0 100000) 0, rw 0x21010007 (.nat 0 0x20000000) 0x071C71C7,
    rw 0x21010008 (.nat 1 500) 25, rw 0x21010009 (.nat 0 0xFF) 0, rw 0x2101000A (.nat 0 500) 50,
    rw 0x2101000B (.nat 1 60) 5 ]

/-- Consequence analysis and load reduction (R376). -/
def paramsConsequence : List ParamDesc :=
  [ rw 0x22010001 (.nat 0 1) 1, rw 0x22010002 (.nat 8 128) 64, rw 0x22010003 (.nat 5000 10000) 9990,
    rw 0x22010004 (.nat 5000 10000) 9500, rw 0x22010005 (.nat 5000 10000) 8000,
    rw 0x22010006 (.nat 1 1000) 100, rw 0x22010007 (.nat 0 600) 60, rw 0x22010008 (.nat 0 600) 10,
    rws 0x22040001 (.nat 0 1) 0, rws 0x22040002 (.nat 0 1) 0, rw 0x22040003 (.nat 1 1000) 100,
    rw 0x22040004 (.nat 100 20000) 4000, rw 0x22040005 (.nat 0 4) 0, rw 0x22040006 (.nat 100 20000) 4000,
    rw 0x22040007 (.nat 0 4) 0, rw 0x22040008 (.nat 0 5000) 0 ]

/-- Digital I/O and energy-limited ports (R491). -/
def paramsDio : List ParamDesc :=
  [ rw 0x30010001 (.nat 2 250) 5, rw 0x30010002 (.nat 100 300) 200, rw 0x30010003 (.nat 0 600) 0 ]
    ++ rwRun 0x33010001 3 (.nat 1 100) 3 ++ [ rws 0x33010004 (.nat 0 0x3F) 0x3F ]

/-- Analogue (R521). -/
def paramsAnalogue : List ParamDesc :=
  rwsRun 0x31010001 16 (.nat 0 3) 1 ++ rwRun 0x31010011 3 (.int (-2000) 2000) 0
    ++ rwRun 0x31010014 3 (.nat 1000 10200) 10000 ++ rwRun 0x31010017 3 (.int (-10200) (-1000)) (-10000)
    ++ rwsRun 0x3101001A 2 (.nat 0 4) 0 ++ [ rws 0x3101001C (.nat 0 3) 3, rw 0x3101001D (.nat 1 1000) 5 ]

/-- Recorder (R263 of the parameters section of the recorder chapter: R651). -/
def paramsRecorder : List ParamDesc :=
  [ rw 0x60010001 (.nat 200 60000) 2000, rw 0x60010002 (.nat 100 60000) 1000,
    rw 0x60020001 .trend 0x00200006, rw 0x60020002 .trend 0x8000000C, rw 0x60020003 .trend 0x80300004,
    rw 0x60020004 .trend 0x80500004, rw 0x60020005 .trend 0x80700004, rw 0x60020006 .trend 0x80900004,
    rw 0x60020007 .trend 0x80B00004, rw 0x60020008 .trend 0x80D00004 ]
    ++ rwRun 0x60020009 8 .trend 0
    ++ [ rw 0x60030001 (.nat 0 0xFFFF) 0x2201, rw 0x60030002 (.nat 0 0xFFFF) 0x7005 ]
    ++ rwRun 0x60030003 6 (.nat 0 0xFFFF) 0 ++ [ rw 0x60050001 .readOnly 0 ]

/-- Lanes, Ridge and peer (R407). -/
def paramsLanes : List ParamDesc :=
  [ rw 0x70010001 (.nat 0 30000) 2000, rw 0x70010002 (.nat 0 1) 0, rw 0x70010003 (.nat 0 60) 10,
    rw 0x70010004 (.nat 0 1) 0, rw 0x70010005 (.nat 0 0x000FFFFF) 0x000EAACE,
    rws 0x71010001 (.nat 0 1) 0, rws 0x71010002 (.nat 0 1) 0, rw 0x71010003 (.nat 20 2000) 100,
    rws 0x71010004 (.nat 1 32) 28, rws 0x71010005 (.nat 29 32) 32, rw 0x71010006 (.nat 0 1) 1 ]

/-- Host and Eaves (R602). -/
def paramsHost : List ParamDesc :=
  [ rws 0x80010001 (.nat 1024 65535) 48410, rws 0x80010002 .ipv4 0xC0A85008, rws 0x80010003 (.nat 8 30) 24,
    rws 0x80010004 .ipv4 0xC0A85108, rws 0x80010005 (.nat 8 30) 24, rws 0x80010006 (.nat 9600 921600) 115200,
    rw 0x80010007 (.nat 5 300) 30, rw 0x80010008 (.nat 5 300) 30 ]

/-- Reset and power (R658, R673, R680). -/
def paramsReset : List ParamDesc :=
  [ rw 0x90010001 .readOnly 0, rw 0x90010002 .readOnly 0, rw 0x90010003 .readOnly 0,
    rw 0x90010004 (.nat 1 168) 24, rw 0x90020001 .readOnly 0, rw 0x90020002 .readOnly 0 ]

/-- The parameters of one unit code, so that a search stays short. -/
def paramsOfUnit (u : Nat) : List ParamDesc :=
  if u = 0x01 then paramsSystem else if u = 0x02 then paramsMode else if u = 0x10 then paramsFusion
  else if u = 0x11 then paramsGnss ++ signalCodes.flatMap paramsLoop else if u = 0x12 then paramsTime
  else if u = 0x20 then paramsBatten else if u = 0x21 then paramsAlloc else if u = 0x22 then paramsConsequence
  else if u = 0x30 then paramsDio else if u = 0x33 then paramsDio else if u = 0x31 then paramsAnalogue
  else if u = 0x60 then paramsRecorder else if u = 0x70 then paramsLanes else if u = 0x71 then paramsLanes
  else if u = 0x80 then paramsHost else if u = 0x90 then paramsReset else []

/-- The description of a parameter ID; none answers BAD_ID (R582). -/
def paramDesc (id : Nat) : Option ParamDesc :=
  (paramsOfUnit (id / 0x1000000)).find? fun d => d.id = id

/-- The word of a default. -/
def ParamDesc.dfltWord (d : ParamDesc) : Word := BitVec.ofInt 32 d.dflt

end Sys2Proof.Machine
end

