-- ==== Sys2Proof/Machine/Types/Config.lean ====
section
/-!
DEFINITION. State of the configuration stores: banks, staged set, commit, firmware slots (R604 to R628).
-/

namespace Sys2Proof.Machine

/-- A bank (R612): generation, committing user, module time of the swap, and the record tables.
A table is keyed by unit × 256 + table and holds its entries by index; an entry not listed is unused. -/
structure Bank where
  generation : Word
  user : Nat
  commitS : Nat
  commitNs : Nat
  tables : List (Nat × List (Nat × List Byte))
deriving DecidableEq, Repr

/-- The factory default bank: generation 0, every record table empty (R624). -/
def Bank.factory : Bank := { generation := 0, user := 0, commitS := 0, commitNs := 0, tables := [] }

/-- A piece announced by STAGE_PIECE and waiting for its data (R615). -/
structure Piece where
  handle : Nat
  unit : Nat
  table : Nat
  kind : Nat
  first : Nat
  count : Nat
  length : Nat
  crc : Word
  data : List Byte
deriving DecidableEq, Repr

/-- The staged set (R614 to R617): parameters staged by pieces, and the pieces in progress. -/
structure Staged where
  baseGen : Word
  newGen : Word
  session : Nat
  user : Nat
  lastActivity : Nat
  params : List (Nat × Word)
  pieces : List Piece
deriving DecidableEq, Repr

/-- What one lane shows in its staging status word (R619). -/
inductive Verify where
  | running
  | verified (digest : Word)
  | failed
deriving DecidableEq, Repr

/-- A commit (R618 to R622): its handle and EXPECT, what each lane shows, whether the swap is set for the next strobe or made,
the frame of the swap, and which lanes have persisted the new bank. -/
structure Commit where
  handle : Nat
  expect : Word
  verA : Verify
  verB : Verify
  swapSet : Bool
  swapped : Bool
  swapFrame : Word
deriving DecidableEq, Repr

/-- The memories of one lane for configuration and images (R44, R613): its two banks; in its firmware NOR the configuration slots with the
one marked current, the parameter slots with the current one, and the versions of the lane images in the two image slots. -/
structure LaneStore where
  active : Bank
  staged : Bank
  slot0 : Option Bank
  slot1 : Option Bank
  current : Nat
  params0 : List (Nat × Word)
  params1 : List (Nat × Word)
  paramCurrent : Nat
  /-- Parameter writes persisted, so that the newer store is known at bring-up (R606). -/
  paramWrites : Nat
  image0 : Nat
  image1 : Nat
deriving DecidableEq, Repr

/-- Firmware slots of the module (R625 to R627): staged parts (bit 0 host, 1 lane, 2 safety X, 3 safety Y, 4 GNSS) with their
versions and security versions, versions running, trial state and the slot in use. -/
structure Firmware where
  /-- The slot both lanes boot, and the one before the latest activation (R627). -/
  slot : Nat
  previousSlot : Nat
  running : List Nat
  previous : List Nat
  staged : List (Nat × Nat)
  stagedSec : List (Nat × Nat)
  stagedFormats : List (Nat × Nat)
  /-- Key revocations a staged boot-loader part carries (R691). -/
  stagedRevoke : Nat
  trial : Bool
  trialDue : Nat
deriving DecidableEq, Repr

/-- The configuration state of the module. `active` and `stagedBank` are the banks of the lanes in service, which hold the same; a lane
that is out of service keeps what its own store holds. -/
structure ConfigStore where
  active : Bank
  stagedBank : Bank
  staged : Option Staged
  commit : Option Commit
  storeA : LaneStore
  storeB : LaneStore
  /-- A generation swapped in and lost before it was persisted, to be told by event 0x0105 (R622). -/
  lost : Option Word
  firmware : Firmware
deriving DecidableEq, Repr

/-- Empty firmware NOR of a fresh module. -/
def LaneStore.reset : LaneStore :=
  { active := .factory, staged := .factory, slot0 := none, slot1 := none, current := 0, params0 := [], params1 := [],
    paramCurrent := 0, paramWrites := 0, image0 := 0, image1 := 0 }

/-- The factory default bank is active and nothing is staged (R624). -/
def ConfigStore.reset : ConfigStore :=
  { active := .factory, stagedBank := .factory, staged := none, commit := none, storeA := .reset, storeB := .reset,
    lost := none,
    firmware := { slot := 0, previousSlot := 0, running := [0, 0, 0, 0, 0], previous := [0, 0, 0, 0, 0], staged := [], stagedSec := [], stagedFormats := [], stagedRevoke := 0,
                  trial := false, trialDue := 0 } }

end Sys2Proof.Machine
end

