-- ==== Sys2Proof/Machine/Types/Frame.lean ====
section
/-!
DEFINITION. State of the control frame and of the snapshot builder (R71 to R103).
-/

namespace Sys2Proof.Machine

/-- What the output stage and the comparator are doing about a mismatch (R94 to R97). -/
inductive ReplayStage where
  | none
  | replay
  | knownAnswer
deriving DecidableEq, Repr

/-- The frame clock and the snapshot builder. -/
structure FrameUnit where
  /-- Frame number (R75). -/
  number : Word
  /-- A strobe has occurred since the latest bring-up of Cold or Warm reach (R75). -/
  begun : Bool
  /-- Frame period in force, ms (R72). -/
  period : Nat
  /-- Monotonic time of the latest strobe and of the next one (R71). -/
  strobe : Nat
  nextStrobe : Nat
  /-- Queues of the next snapshot, and of the one after it: samples that arrive at or after the cut-off time (R78). -/
  building : List Section
  later : List Section
  /-- Queues of motion samples by the cut-off they beat first (R82, R90, R91): 1 to 7 sub-frames of this frame, 8 the frame cut-off,
  9 sub-frame 1 of the next frame. -/
  motion : List (Nat × List Section)
  /-- Commands that arrived for the next snapshot, and for the one after it (R79). -/
  commands : List Command
  laterCommands : List Command
  /-- Commands of snapshots formed whose outcome no frame has decided yet, in arrival order (R79, R382, R578). -/
  undecided : List Command
  /-- The next sub-frame cut-off, 1 to 7; 8 when only the frame cut-off is left (R91). -/
  nextSub : Nat
  /-- Sections closed at the cut-off, waiting for the strobe (R78), and the BANK_SWAP flag. -/
  closed : Option (List Section)
  closedCommands : List Command
  bankSwap : Bool
  /-- The GNSS sections latched at the strobe and not yet delivered (R80). -/
  gnssPending : List Section
  /-- Samples sent by port units and not yet at the builder (R77). -/
  inFlight : List (Nat × Sample)
  /-- Current and previous snapshot, kept for reading (R86). -/
  current : Option Snapshot
  previous : Option Snapshot
  /-- Sub-snapshots of the frame under way and of the previous frame (R93). -/
  subs : List Snapshot
  previousSubs : List Snapshot
  /-- Consecutive frames with SNAPSHOT_LOST from both lanes (R87). -/
  lostRun : Nat
  /-- Consecutive late records in DEGRADED (R89). -/
  lateRun : Nat
  /-- What this frame carries after a mismatch (R94 to R98). -/
  replay : ReplayStage
  /-- This frame carries a replay or a known-answer run: no consequence case (R98). -/
  carries : Bool
  /-- The same of the frame before (R101): its replay uses the depth it was computed with. -/
  carried : Bool
  /-- The builder's copy of the current snapshot fails its digest (R684). -/
  corrupt : Bool
  /-- Background items not finished: those of the window under way, or held over to the next (R100, R103). -/
  background : List Nat
  /-- The background window of this frame: 0 not begun, 1 under way, 2 over (R103). -/
  window : Nat
  /-- The background window of this frame carries the known-answer set of a health reset (R98, R393). -/
  katWindow : Bool
  /-- A consequence case has been started in this frame (R102). -/
  caseRun : Bool
deriving DecidableEq, Repr

/-- Before the first strobe: the period is 20 ms (R72) and nothing has been collected. -/
def FrameUnit.reset : FrameUnit :=
  { number := 0, begun := false, period := 20, strobe := 0, nextStrobe := 20 * msNs,
    building := [], later := [], motion := [], commands := [], laterCommands := [], undecided := [], nextSub := 1, closed := none,
    closedCommands := [],
    bankSwap := false, gnssPending := [], inFlight := [], current := none, previous := none, subs := [],
    previousSubs := [], lostRun := 0, lateRun := 0, replay := .none, carries := false, carried := false, corrupt := false,
    background := [], window := 0, katWindow := false, caseRun := false }

end Sys2Proof.Machine
end

