-- ==== Sys2Proof/Machine/Types/Host.lean ====
section
/-!
DEFINITION. State of the host side: sessions, handles, control, events, bulk transfers (R561 to R603),
and of the Eaves classes and links (R35 to R43, R597 to R601).
-/

namespace Sys2Proof.Machine

/-- A reply kept for 10 s under its tag (R571). -/
structure StoredReply where
  tag : Half
  reply : Reply
  at_ : Nat
deriving DecidableEq, Repr

/-- An event as it travels to the host (R591): the fields of its packet without sequence number. -/
structure HostEvent where
  code : Half
  severity : Nat
  frame : Word
  taiS : Nat
  taiNs : Nat
  tstatus : Half
  opSeconds : Word
  recSeq : Nat
  suppressed : Nat
  gap : Bool
  args : List Byte
deriving DecidableEq, Repr

/-- An event sent and not acknowledged (R592). -/
structure SentEvent where
  seq : Nat
  ev : HostEvent
  sentAt : Nat
  sends : Nat
deriving DecidableEq, Repr

/-- A session, pending or open (R568 to R572). -/
structure Session where
  number : Nat
  isOpen : Bool
  user : Nat
  authority : Nat
  transport : Nat
  /-- The address and UDP port it was opened from; its events go there (R564). -/
  addr : Nat := 0
  clientNonce : List Byte
  serverNonce : List Byte
  startedAt : Nat
  /-- Newest accepted tag; none before the first request (R571). -/
  newestTag : Option Half
  stored : List StoredReply
  lastPacket : Nat
  nextEventSeq : Nat
  queue : List HostEvent
  window : List SentEvent
  /-- Unit mask, bit u for unit code u, and lowest severity (R590). -/
  mask : BitVec 256
  minSeverity : Nat
  gapNext : Bool
  suppressed : Nat
  lastDropEvent : Option Nat
  lastBadTag : Option Nat
deriving DecidableEq, Repr

/-- Stage of a long operation (R584, R585). -/
inductive HandleStage where
  | pending
  | running
  | complete
deriving DecidableEq, Repr

/-- A handle (R584). -/
structure HandleRec where
  number : Nat
  user : Nat
  session : Nat
  /-- Where its request came from (R564). -/
  addr : Nat := 0
  opcode : Nat
  tag : Half
  authority : Nat
  /-- Reply credits held for the completion (R599). -/
  credits : Nat
  stage : HandleStage
  progress : Nat
  final : Nat
  result : List Byte
  completedAt : Nat
deriving DecidableEq, Repr

/-- A Bulk transfer (R594 to R596). `base` bytes have been freed, `data` is what is still held;
`finished`: read to its end. -/
structure Bulk where
  handle : Nat
  toHost : Bool
  running : Bool
  base : Nat
  data : List Byte
  finished : Bool
  lastAccess : Nat
  /-- Bytes that have crossed the barrier, counted from the start of the transfer (R594, R595). -/
  sent : Nat
deriving DecidableEq, Repr

/-- A user of the user table (R570, R695): key, highest authority, transports (bit 0 operator network, 1 service network, 2 HSER). -/
structure User where
  number : Nat
  key : List Byte
  authority : Nat
  transports : Nat
deriving DecidableEq, Repr

/-- A command forwarded across the barrier and not answered yet (R68, R588, R599). -/
structure Forwarded where
  transport : Nat
  addr : Nat := 0
  session : Nat
  tag : Half
  opcode : Nat
  payload : List Byte
  replyCredits : Nat
  at_ : Nat
deriving DecidableEq, Repr

/-- A reply that waits for the release of the record of its frame (R578); `stamp`: its payload is the frame number (R583). -/
structure FrameReply where
  frame : Word
  stamp : Bool
  /-- For REC_FLUSH: the yealms below this YSEQ are to be written first (R640). -/
  written : Nat
  reply : Reply
deriving DecidableEq, Repr

/-- The host processor unit's Jalnomel state. -/
structure HostUnit where
  sessions : List Session
  nextSession : Nat
  nextHandle : Nat
  /-- Failed proofs of the last 60 s, (user, time), and lockouts, (user, end). -/
  failures : List (Nat × Nat)
  lockouts : List (Nat × Nat)
  /-- Session that holds control; 0 none (R576). -/
  holder : Nat
  handles : List HandleRec
  bulks : List Bulk
  users : List User
  /-- Replies and completions sent. -/
  replies : List Reply
  /-- Replies that wait for the release of their frame (R578). -/
  frameReplies : List FrameReply
  /-- Event packets sent to sessions: session, sequence number, event. -/
  eventsSent : List (Nat × SentEvent)
  fieldUnreachable : Bool
  /-- HSER receiver: bytes of the packet in progress (R563). -/
  hserRx : List Byte
  /-- Frames received with a trailer, and when (R562). -/
  prpSeen : List (PrpTrailer × Nat)
  lastSupervision : Nat
deriving DecidableEq, Repr

/-- A packet sent and not acknowledged (R36, R597): sequence number, link, credits, EFLAGS, XFER, CONTENT. -/
structure EavesPacket where
  seq : Nat
  link : Nat
  credits : Nat
  eflags : Nat
  xfer : Nat
  content : List Byte
deriving DecidableEq, Repr

/-- A control symbol put on a link (R35). -/
inductive EavesSymbol where
  | timeMark
  | resetRequest
  | resetOrder
deriving DecidableEq, Repr

/-- One Eaves class, its sender and its receiver (R35, R36, R598). -/
structure EavesClass where
  /-- Free credits at the sender and their total. -/
  credits : Nat
  total : Nat
  nextSeq : Nat
  expectSeq : Nat
  /-- Retry buffer: packets sent and not acknowledged. -/
  retry : List EavesPacket
  /-- Packets received out of order (sequence number, EFLAGS, CONTENT), and those the latest reception delivered, in sequence. -/
  held : List (Nat × Nat × List Byte)
  delivered : List (Nat × List Byte)
deriving DecidableEq, Repr

/-- One Eaves link (R38, R40, R43). -/
structure EavesLink where
  up : Bool
  /-- Consecutive packets that failed their CRC. -/
  crcRun : Nat
  /-- Calibrated latency, ns. -/
  latency : Nat
deriving DecidableEq, Repr

/-- The barrier. -/
structure Eaves where
  link0 : EavesLink
  link1 : EavesLink
  command : EavesClass
  reply : EavesClass
  event : EavesClass
  bulkUp : EavesClass
  bulkDown : EavesClass
  bothDownSince : Option Nat
  bothDownTold : Bool
  /-- Credits of the Event class taken by time labels, of the 16 kept for them (R600), and labels that wait for one of them or for a
  link (R194). -/
  labelCredits : Nat
  waitingLabels : List (List Byte)
  /-- Reply credit granted and not returned (R599). -/
  granted : Nat
  /-- Replies released that wait for a link (R36, R41). -/
  waitingReplies : List Reply
  /-- Control symbols put on the links: link, symbol (R35, R38, R39). -/
  symbols : List (Nat × EavesSymbol)
  /-- The latest host status update that the outbox has handed to the field endpoint, as bytes (R47, R100). -/
  status : List Byte
  /-- Completions that wait for a link: handle, final status, result (R587). -/
  heldCompletions : List (Nat × Nat × List Byte)
  waitingCommands : List Forwarded
  inField : List Forwarded
  /-- Field endpoint: tokens (thousandths), time of last refill, suppressed and notice (R593). -/
  tokens : Nat
  tokensAt : Nat
  suppressed : Nat
  noticeAt : Nat
  noticeLeft : Nat
  gapNext : Bool
  /-- Events waiting at the field endpoint for the host side. -/
  events : List HostEvent
deriving DecidableEq, Repr

/-- A class with all credit free. -/
def EavesClass.reset (n : Nat) : EavesClass :=
  { credits := n, total := n, nextSeq := 0, expectSeq := 0, retry := [], held := [], delivered := [] }

/-- A trained link. -/
def EavesLink.reset : EavesLink := { up := true, crcRun := 0, latency := 0 }

/-- The barrier after training (R35). -/
def Eaves.reset : Eaves :=
  { link0 := .reset, link1 := .reset, command := .reset 4096, reply := .reset 4096, event := .reset 8192,
    bulkUp := .reset 49152, bulkDown := .reset 49152, bothDownSince := none, bothDownTold := false,
    labelCredits := 0, waitingLabels := [], granted := 0, waitingReplies := [], symbols := [], status := [], heldCompletions := [], waitingCommands := [], inField := [], tokens := 200000, tokensAt := 0,
    suppressed := 0, noticeAt := 0, noticeLeft := 0, gapNext := false, events := [] }

/-- The host side with no session (R573). -/
def HostUnit.reset : HostUnit :=
  { sessions := [], nextSession := 1, nextHandle := 1, failures := [], lockouts := [], holder := 0,
    handles := [], bulks := [], users := [], replies := [], frameReplies := [], eventsSent := [],
    fieldUnreachable := false, hserRx := [], prpSeen := [], lastSupervision := 0 }

end Sys2Proof.Machine
end

