-- ==== Sys2Proof/Machine/Types/Alloc.lean ====
section
/-!
DEFINITION. State and results of thrust allocation and of consequence analysis in one lane (R304 to R377).
-/

namespace Sys2Proof.Machine

/-- Kinds of rows and bounds; a row keeps its identity through its actuator, kind and index (R311). -/
inductive RowKind where
  | magnitude
  | direction
  | power
  | sectionPower
  | lower
  | upper
deriving DecidableEq, Repr

/-- The identity of an inequality row or bound: kind, actuator (24 for sections and slack) and index within the kind. -/
structure ConId where
  kind : RowKind
  act : Nat
  idx : Nat
deriving DecidableEq, Repr

/-- Actuator states (R318). -/
inductive ActSt where
  | unavailable
  | active
  | rundown
  | transit
deriving DecidableEq, Repr

/-- The state a lane keeps of one actuator (R306, R317 to R322, R345, R350). -/
structure ActState where
  st : ActSt
  theta : Nat
  target : Nat
  /-- When a running transit times out (R320). -/
  transitDue : Nat
  /-- Consecutive frames with the crossing or mode condition met, and not met. -/
  metRun : Nat
  unmetRun : Nat
  astern : Bool
  prevAngle : Nat
  disabled : Bool
  ready : Bool
  readyAt : Option Nat
  fbAngle : Option Nat
  lastAlive : Option Nat
  timedOut : Bool
  /-- θ* of the latest primary solve (R317, R356). -/
  pref : Nat
  /-- Edges of allowed arcs at which a direction row ended in the latest working set: angle, and whether it is the upper edge (R317). -/
  edges : List (Nat × Bool)
  /-- Width of the sector a transit crosses (R320). -/
  width : Nat
  /-- Last available, for event 0x2103 and the angle of R345. -/
  wasAvail : Bool
  /-- The type of the table entry the state belongs to. -/
  typ : Nat
deriving DecidableEq, Repr

/-- Episode of an event: frames since the condition was last met; none outside an episode. -/
abbrev Episode := Option Nat

/-- Allocation state (R306) and the episodes of its events. -/
structure AllocState where
  acts : List ActState
  working : List ConId
  lambda : List F64
  /-- The first frame of a DP mode from STANDBY, or state lost (R334): nothing carried over. -/
  fresh : Bool
  /-- Bias group enable as the latest strobe took it over (R327). -/
  biasMask : Nat
  capEp : Episode
  slackEp : List Episode
  relaxed : Episode
  below : Episode
  numeric : Episode
deriving DecidableEq, Repr

/-- The 32 bytes of one actuator in the record (R346). -/
structure ActRec where
  num : Nat
  fx : Int
  fy : Int
  cmd1 : Int
  cmd2 : Int
  pKw : Int
  st : Nat
  arc : Nat
  aflags : Nat
deriving DecidableEq, Repr

/-- The allocation part of the record (R346). -/
structure AllocRec where
  astatus : Nat
  iter : Nat
  sx : Int
  sy : Int
  sn : Int
  secP : List Int
  cycles : Nat
  acts : List ActRec
deriving DecidableEq, Repr

/-- A result record (R362); result 0 NOT_EVALUATED, 1 OK, 2 MARGINAL, 3 FAIL. -/
structure CaseResult where
  case_ : Nat
  result : Nat
  cflags : Nat
  achX : Nat
  achY : Nat
  achN : Nat
  util : Nat
  utilSrc : Nat
  iter : Nat
  frame : Word
deriving DecidableEq, Repr

/-- What a case keeps for its alarms (R364): frame numbers at which the unbroken series began, and whether a capped episode runs. -/
structure CaseHistory where
  result : CaseResult
  failSince : Option Nat
  clearSince : Option Nat
  badSince : Option Nat
  okSince : Option Nat
  capped : Bool
deriving DecidableEq, Repr

/-- The limits a section has besides P_LIMIT (R365, R372, R373). -/
structure SectionLimit where
  shed : Option Nat
  /-- Release limit in 0.001 kW (R373). -/
  release : Option Nat
  inForce : Nat
deriving DecidableEq, Repr

/-- A headroom input as the lane uses it (R374, R375). -/
structure Headroom where
  valid : Bool
  seen : Bool
  limit : Option Nat
deriving DecidableEq, Repr

/-- Consequence analysis and section limits of a lane. -/
structure CaseState where
  pointer : Nat
  cases : List CaseHistory
  failAlm : Word
  margAlm : Word
  last : CaseResult
  sections : List SectionLimit
  shown1 : Bool
  shown2 : Bool
  head1 : Headroom
  head2 : Headroom
deriving DecidableEq, Repr

/-- The consequence part of the record (R362). -/
structure ConseqRec where
  failAlm : Word
  margAlm : Word
  secLim : List Nat
  lsState : Nat
  next : Nat
  last : CaseResult
deriving DecidableEq, Repr

/-- An actuator before anything is known of it: not ready (R350). -/
def ActState.reset : ActState :=
  { st := .unavailable, theta := 0, target := 0, transitDue := 0, metRun := 0, unmetRun := 0, astern := false,
    prevAngle := 0, disabled := false, ready := false, readyAt := none, fbAngle := none, lastAlive := none,
    timedOut := false, pref := 0, edges := [], width := 0, wasAvail := false, typ := 0xFF }

/-- Allocation state with an empty working set (R334). -/
def AllocState.reset : AllocState :=
  { acts := List.replicate 24 .reset, working := [], lambda := [.zero, .zero, .zero], fresh := true, biasMask := 0, capEp := none,
    slackEp := [none, none, none], relaxed := none, below := none, numeric := none }

/-- The allocation part with zeros (R339). -/
def AllocRec.zero : AllocRec :=
  { astatus := 0, iter := 0, sx := 0, sy := 0, sn := 0, secP := [0, 0, 0, 0], cycles := 0, acts := [] }

/-- The record of no case (R362). -/
def CaseResult.none : CaseResult :=
  { case_ := 0xFF, result := 0, cflags := 0, achX := 0, achY := 0, achN := 0, util := 0, utilSrc := 0, iter := 0,
    frame := 0 }

/-- A case not evaluated (R359). -/
def CaseHistory.reset (c : Nat) : CaseHistory :=
  { result := { CaseResult.none with case_ := c }, failSince := .none, clearSince := .none, badSince := .none,
    okSince := .none, capped := false }

/-- A section with no limit but its own. -/
def SectionLimit.reset : SectionLimit := { shed := none, release := none, inForce := 0 }

/-- A headroom input never sampled. -/
def Headroom.reset : Headroom := { valid := false, seen := false, limit := none }

/-- Consequence analysis after a bring-up (R359). -/
def CaseState.reset : CaseState :=
  { pointer := 0, cases := (List.range 32).map .reset, failAlm := 0, margAlm := 0, last := .none,
    sections := List.replicate 4 .reset, shown1 := false, shown2 := false, head1 := .reset, head2 := .reset }

end Sys2Proof.Machine
end

