-- ==== Sys2Proof/Machine/Types/Safety.lean ====
section
/-!
DEFINITION. State of the safety unit (R409 to R458).
-/

namespace Sys2Proof.Machine

/-- State of the safety unit (R414). -/
inductive SuState where
  | starting
  | run
  | safeFault
deriving DecidableEq, Repr

/-- An emergency-stop circuit as one channel sees it (R421 to R428). -/
structure Circuit where
  /-- Latched fault: 0 none, 2 discrepancy, 3 wiring (codes of R421). -/
  latched : Nat
  /-- Kind of the wiring fault: 1 SHORT_A, 2 SHORT_B, 3 CROSS_SHORT, 4 SOURCE_FAULT, 5 line fault; 0 none. -/
  kind : Nat
  /-- The state both inputs last showed together: closed. -/
  together : Bool
  moving : Bool
  count : Nat
  /-- Sequence of R425 after a fault: 0 not begun, 1 both were open, 2 both closed again. -/
  sequence : Nat
  /-- Observations of R428 at the latest pulse of their source: short A, short B, A drops in a TP2 pulse, B in a TP1 pulse. -/
  obsShortA : Bool
  obsShortB : Bool
  obsCrossA : Bool
  obsCrossB : Bool
deriving DecidableEq, Repr

/-- A run permit as one channel drives it (R430 to R435). -/
structure Permit where
  on : Bool
  contactorFault : Bool
  /-- Since the latest switching the feedback has followed; and the time of that switching while it is awaited. -/
  followed : Bool
  switchedAt : Option Nat
deriving DecidableEq, Repr

/-- State of a receive connection (R444). -/
inductive ConnState where
  | init
  | run
  | fault
deriving DecidableEq, Repr

/-- A Xiros receive connection (R444 to R447). -/
structure Conn where
  st : ConnState
  lastSeq : Option Nat
  /-- PDUs accepted after the synchronising one. -/
  accepted : Nat
  data : List Byte
  lastAt : Nat
  /-- RESET bit of the latest accepted PDU (R447). -/
  resetBit : Bool
deriving DecidableEq, Repr

/-- The safety tables a channel stores (R451): entries of the circuit, permit and connection tables by index. -/
structure SafetyTables where
  circuits : List (Nat × List Byte)
  permits : List (Nat × List Byte)
  conns : List (Nat × List Byte)
deriving DecidableEq, Repr

/-- A reset that a channel holds (R432): the permits it names (0 all), its source (0 the command, 1 + c connection c), and the sequence
number of the command or PDU that brought it. -/
structure HeldReset where
  mask : Nat
  source : Nat
  id : Nat
deriving DecidableEq, Repr

/-- A Xiros PDU sent over UDP (R443, R449): transport, UDP port, address and payload. -/
structure Datagram where
  transport : Nat
  port : Nat
  addr : Nat
  bytes : List Byte
deriving DecidableEq, Repr

/-- One channel of the safety unit. Inputs are numbered 0 to 7 (ES1 A, ES1 B to ES4 B), 8 to 11 (FB1 to FB4),
12 to 17 (NAMUR inputs 1 and 2 of energy-limited ports 1 to 3); true is closed. -/
structure SafetyChannel where
  inputs : List Bool
  circuits : List Circuit
  permits : List Permit
  conns : List Conn
  /-- FLD-2 below 16.0 V, and the latched supply loss (R437). -/
  supplyLow : Bool
  supplyLoss : Bool
  /-- SOURCE_FAULT observations at the latest pulse of TP1 and TP2 (R428). -/
  obsSource1 : Bool
  obsSource2 : Bool
  tables : SafetyTables
  /-- Tables checked and stored during verification, and whether the swap has reached the unit (R452). -/
  staged : Option SafetyTables
  swapDue : Bool
  /-- Differences at consecutive exchanges: item and count (R441); missing messages in a row. -/
  differ : List (Nat × Nat)
  readDiffer : List (Nat × Nat)
  missing : Nat
  /-- Command sequence number of the latest command accepted from the gateway; none since the start of the unit (R413). -/
  cmdSeq : Option Nat
  /-- Command messages the gateway has sent and the channel has not checked yet (R413). -/
  inbox : List (List Byte)
  /-- A reset the channel holds, and whether the other channel has reported the same one (R432, R441). -/
  heldReset : Option HeldReset
  reported : Bool
  /-- A safety restart command that the channel has accepted (R416). -/
  heldRestart : Bool
  /-- The latest tick, as the other channel measures it (R415). -/
  tickAt : Option Nat
  /-- The latest pulses of TP1 and TP2 that the channel saw (R427), and its latest switch test of each permit (R435). -/
  pulse1At : Option Nat
  pulse2At : Option Nat
  testedAt : List (Option Nat)
deriving DecidableEq, Repr

/-- A Xiros transmit connection (R448). -/
structure TxConn where
  seq : Nat
  last : List Byte
  sentAt : Option Nat
deriving DecidableEq, Repr

/-- The safety unit and its gateway. -/
structure SafetyUnit where
  su : SuState
  x : SafetyChannel
  y : SafetyChannel
  tx : List TxConn
  /-- Sequence number of the gateway's commands (R413). -/
  gatewaySeq : Nat
  /-- Handle of a safety restart in progress (R416). -/
  restart : Option Nat
  /-- The status sample latched at the cut-off (R453). -/
  latched : List Byte
  /-- Whether the serial number delivered at option load is valid and agrees with the one stored in X and Y (R415). -/
  serialX : Bool
  serialY : Bool
  /-- Serial number stored with the safety configuration in each channel (R415). -/
  storedX : Nat
  storedY : Nat
  /-- Xiros PDUs sent over UDP (R443). -/
  sent : List Datagram
deriving DecidableEq, Repr

/-- A circuit at the start of the unit: open. -/
def Circuit.reset : Circuit :=
  { latched := 0, kind := 0, together := false, moving := false, count := 0, sequence := 0, obsShortA := false,
    obsShortB := false, obsCrossA := false, obsCrossB := false }

/-- A permit at the start of the unit: off. -/
def Permit.reset : Permit := { on := false, contactorFault := false, followed := false, switchedAt := none }

/-- A connection at the start of the unit (R444). -/
def Conn.reset : Conn := { st := .init, lastSeq := none, accepted := 0, data := [], lastAt := 0, resetBit := false }

/-- Empty safety tables. -/
def SafetyTables.reset : SafetyTables := { circuits := [], permits := [], conns := [] }

/-- A channel at the start of the unit, with the tables it keeps through every reset (R452). -/
def SafetyChannel.start (tb : SafetyTables) : SafetyChannel :=
  { inputs := List.replicate 18 false, circuits := List.replicate 4 .reset, permits := List.replicate 4 .reset,
    conns := List.replicate 16 .reset, supplyLow := false, supplyLoss := false, obsSource1 := false,
    obsSource2 := false, tables := tb, staged := none, swapDue := false, differ := [], readDiffer := [],
    missing := 0, cmdSeq := none, inbox := [], heldReset := none, reported := false, heldRestart := false, tickAt := none,
    pulse1At := none, pulse2At := none, testedAt := List.replicate 4 none }

/-- A transmit connection at the start of the unit. -/
def TxConn.reset : TxConn := { seq := 0, last := [], sentAt := none }

/-- The safety unit after a power-on, before its self-test (R414). -/
def SafetyUnit.reset : SafetyUnit :=
  { su := .starting, x := .start .reset, y := .start .reset, tx := List.replicate 16 .reset, gatewaySeq := 0,
    restart := none, latched := List.replicate 32 0, serialX := true, serialY := true, storedX := 0, storedY := 0, sent := [] }

end Sys2Proof.Machine
end

