-- ==== Sys2Proof/Machine/Types/Lane.lean ====
section
/-!
DEFINITION. A lane, its output record, the Ridge comparator, the output stage and the peer (R45 to R49, R304 to R408).
-/

namespace Sys2Proof.Machine

/-- A reference entry of the fusion part (R203). -/
structure RefRec where
  st : Nat
  mode : Nat
  conds : Nat
  weight : Nat
  diffA : Int
  diffB : Int
deriving DecidableEq, Repr

/-- A moving-target entry of the fusion part (R203). -/
structure TargetRec where
  st : Nat
  tn : Int
  te : Int
  tvn : Int
  tve : Int
  age : Nat
deriving DecidableEq, Repr

/-- The fusion part of the record (R203). -/
structure FusionRec where
  fflags : Nat
  nPos : Nat
  nHdg : Nat
  nMru : Nat
  nWind : Nat
  posN : Int
  posE : Int
  varPos : Nat
  heading : Nat
  varHdg : Nat
  roll : Int
  pitch : Int
  heave : Int
  windN : Int
  windE : Int
  originLat : Int
  originLon : Nat
  originH : Int
  refs : List RefRec
  tracks : List TargetRec
  barred : List (Nat × Nat)
deriving DecidableEq, Repr

/-- An output record (R378). -/
structure LaneRecord where
  snapshotLost : Bool
  engineFault : Bool
  solverFault : Bool
  auxFault : Bool
  replayed : Bool
  frame : Word
  configGen : Word
  snapDigest : Word
  nsw : Word
  mode : Nat
  cstatus : Nat
  alarms : Word
  tau : Int × Int × Int
  setpoint : Int × Int × Nat
  fusion : FusionRec
  alloc : AllocRec
  conseq : ConseqRec
deriving DecidableEq, Repr

/-- Everything a lane computes from: what a replay restores and a rejoin copies (R242, R306, R395). -/
structure Core where
  fusion : Fusion
  gnss : LaneGnss
  /-- Strobes of the latest snapshots, newest first: monotonic time, module time less it in ns, STEP_GEN (R209). -/
  offsets : List (Nat × Int × Bool)
  origin : Origin
  engine : Engine
  ctl : Control
  alloc : AllocState
  cases : CaseState
  rewind : List RewindEntry
  shadows : List Shadow
  attitudes : List Attitude
  /-- Parts of the record formed so far in this frame. -/
  tau : Int × Int × Int
  allocRec : AllocRec
  conseq : ConseqRec
  /-- Late samples held for the background window (R241). -/
  late : List RefSample
  /-- Snapshots of frames that computed no record, oldest first: inputs of the next computed frame (R245, R382). -/
  stored : List Snapshot
  /-- Strobe of the latest change of the period, and the period before it, ms (R73). -/
  periodAt : Nat
  oldPeriod : Nat
  /-- The site origin is fixed at the estimate of the frame under way (R3, R4). -/
  originDue : Bool
deriving DecidableEq, Repr

/-- A command that acts on what the lanes compute from; kept so that a restored state takes it again (R382). -/
inductive LaneCmd where
  | mode (m : Mode) (track offMode hdgMode : Nat)
  | setpoint (offset : Bool) (axes : Nat) (a b hdg : Int)
  | trackContinue
  | refSelect (i : Nat)
  | refDeselect (i : Nat)
  | refReaccept (i : Nat)
  | actDisable (i : Nat)
  | actEnable (i : Nat)
  | gain (level : Nat)
  | restartCases
deriving DecidableEq, Repr

/-- An entry of a lane's outbox (R47); each carries the frame number of the work that produced it: an event; the frame record for the
recorder; the trend samples; a host status update, as the STATUS reply lays it out (R581); the outcome of a command (session, tag,
status). -/
inductive OutEntry where
  | event (e : Event)
  | record (frame : Word) (r : LaneRecord)
  | trend (frame : Word) (data : List Byte)
  | status (frame : Word) (data : List Byte)
  | outcome (frame : Word) (session : Nat) (tag : Half) (code : Nat)
deriving DecidableEq, Repr

/-- A lane. -/
structure Lane where
  core : Core
  /-- The core at the start of the frame computed last: a replay restores it (R94, R382). -/
  saved : Core
  /-- The snapshot held for the frame under way (R86), and its sub-snapshots so far (R93). -/
  held : Option Snapshot
  subs : List Snapshot
  /-- The lane's deadline for its snapshot has passed in this frame (R86, R87). -/
  deadline : Bool
  /-- Commands taken since `saved`, oldest first, whether the core must take them again after a restore, and those accepted in a
  frame for which the lane held no snapshot. -/
  journal : List LaneCmd
  reapply : Bool
  missed : List LaneCmd
  /-- Attitudes of the sub-frames up to now, newest first; the core holds those its frame started with. -/
  attitudes : List Attitude
  /-- Slot of the Ridge comparator: the record delivered in this frame (R46, R89). -/
  slot : Option LaneRecord
  latest : Option LaneRecord
  /-- The fusion phase of the frame is over and the next phase has not begun: states of references and tracks change now (R226). -/
  fused : Bool
  /-- The record computed from is a replay. -/
  replaying : Bool
  /-- Fault flags for the next record (R279, R336, R363). -/
  engineFault : Bool
  solverFault : Bool
  auxFault : Bool
  excluded : Bool
  inReset : Bool
  /-- Frames of the transient counts still in the window (R384). -/
  transients : List Nat
  /-- Result of the latest known-answer set; a slice failed or an uncorrectable error was found before the record was
  delivered, so that the lane delivers none (R386, R685). -/
  katPassed : Option Bool
  sliceFailed : Bool
  /-- Entries waiting in the outbox, oldest first (R47). -/
  outbox : List OutEntry
deriving DecidableEq, Repr

/-- Health state (R388). -/
inductive Health where
  | healthy
  | degraded
  | hold
  | failed
deriving DecidableEq, Repr

/-- What the output stage does in HOLD and FAILED (R392): frozen since a time, or in a ramp frame j. -/
inductive HoldStage where
  | none
  | frozen
  | indefinite
  | ramp (j : Nat)
deriving DecidableEq, Repr

/-- A rejoin (R394, R395): lane, step 1 to 5 (6: the trial is complete), strobe frame k, bytes of the image passed, whether the
lane has caught up, equal records of the trial, handle, start. -/
structure Rejoin where
  lane : LaneId
  step : Nat
  frameK : Option Word
  caught : Bool
  passed : Nat
  equalRun : Nat
  handle : Option Nat
  startedAt : Nat
deriving DecidableEq, Repr

/-- The Ridge comparator. -/
structure Ridge where
  health : Health
  /-- A frame is withheld (R381), and the exclusion or HOLD decided for the next strobe: bit 0 lane A, bit 1 lane B, bit 2 HOLD, bit 3 FAILED. -/
  withheld : Option Word
  decision : Nat
  causeA : Nat
  causeB : Nat
  /-- The mismatch waits for the known-answer set of the following frame, and the period at the mismatch (R381). -/
  katDue : Bool
  /-- The withheld frame is never released: the lanes restore their saved state at the decision strobe (R382). -/
  restore : Bool
  /-- Original records of the withheld frame, and whether an error of the lane changed them (R381). -/
  origA : Option LaneRecord
  origB : Option LaneRecord
  /-- Consecutive frames with differing verdicts of the halves (R380). -/
  halvesRun : Nat
  faultyRun : Nat
  equalRun : Nat
  releasedFrame : Option Word
  /-- Health reset in progress: handle and whether its set has run (R393). -/
  healthReset : Option Nat
  healthResetKat : Bool
  resumeAs : Option Health
  rejoin : Option Rejoin
  /-- Failed rejoins of each lane since the last reset of Warm reach or higher (R394). -/
  failedA : Nat
  failedB : Nat
  excludedAt : Nat
  holdStage : HoldStage
  holdSince : Nat
  fullTest : Option Nat
  /-- An uncorrectable error in the comparator or the output stage: the frame is not released (R684). -/
  spoilt : Bool
  /-- Injected known-answer records go out in the background window (R100). -/
  injected : Nat
  /-- Digest of the snapshot broadcast for this frame (R85). -/
  snapDigest : Word
deriving DecidableEq, Repr

/-- The commands of one actuator as released: FX, FY, CMD1, CMD2 (R346). -/
structure ActCmd where
  num : Nat
  fx : Int
  fy : Int
  cmd1 : Int
  cmd2 : Int
deriving DecidableEq, Repr

/-- A load-shed contact (R366, R368, R370). -/
structure Contact where
  closed : Bool
  applied : Bool
  changes : Nat
  ts : Nat
deriving DecidableEq, Repr

/-- The output stage: last released commands, what was sent after scaling, DISPATCHED forces (R305), load-shed contacts. -/
structure OutStage where
  released : List ActCmd
  /-- The record released last. -/
  record : Option LaneRecord
  /-- Load-shed contacts the snapshot of the released record already showed (R368). -/
  shown1 : Bool
  shown2 : Bool
  sent : List ActCmd
  dispatched : List (Int × Int)
  ls1 : Contact
  ls2 : Contact
  /-- The twin writes its peer's forces (R400). -/
  fromPeer : Option (List (Int × Int))
deriving DecidableEq, Repr

/-- Duty (R396, R402). -/
inductive Duty where
  | twin
  | duty
  | release
deriving DecidableEq, Repr

/-- The fields of a peer state message (R396). -/
structure PeerState where
  frame : Word
  serial : Word
  health : Nat
  mode : Nat
  duty : Nat
  pflags : Nat
  configGen : Word
  spN : Int
  spE : Int
  spH : Nat
  vdN : Int
  vdE : Int
  vdH : Int
  gain : Nat
  bin : Nat
  waypoint : Nat
  trackNo : Nat
deriving DecidableEq, Repr

/-- The fields of a peer data message (R397). -/
structure PeerData where
  frame : Word
  configGen : Word
  originLat : Int
  originLon : Nat
  tn : Int
  te : Int
  th : Nat
  dispatched : List (Int × Int)
deriving DecidableEq, Repr

/-- The peer unit. -/
structure PeerUnit where
  duty : Duty
  /-- The Xiros watchdog and the physical link. -/
  up : Bool
  physical : Bool
  validRun : Nat
  conn : Conn
  state : Option PeerState
  data : Option PeerData
  dataFresh : Bool
  /-- The peer's duty discrete as accepted (R401). -/
  discrete : Bool
  dualRun : Nat
  disagree : Bool
  /-- Since when the start-up conditions of R406 hold, and whether the module may take duty. -/
  readySince : Option Nat
  settled : Bool
  /-- Safety sequence number of the messages sent. -/
  txSeq : Nat
  sent : Option PeerState
  /-- The bytes of the state PDU sent, under the Xiros rules (R398). -/
  pdu : List Byte
  transferAsked : Bool
  /-- The peer data message sent in this frame (R397). -/
  sentData : Option PeerData
  /-- The peer's messages as received before the latest cut-off (R400). -/
  atCutoff : Option PeerState
  dataAtCutoff : Option PeerData
deriving DecidableEq, Repr

/-- Nothing in the fusion part. -/
def FusionRec.zero : FusionRec :=
  { fflags := 0, nPos := 0, nHdg := 0, nMru := 0, nWind := 0, posN := 0, posE := 0, varPos := 0, heading := 0,
    varHdg := 0, roll := 0, pitch := 0, heave := 0, windN := 0, windE := 0, originLat := -2147483648,
    originLon := 0, originH := 0, refs := [], tracks := [], barred := [] }

/-- A consequence part with no case. -/
def ConseqRec.zero : ConseqRec :=
  { failAlm := 0, margAlm := 0, secLim := [0, 0, 0, 0], lsState := 0, next := 0, last := .none }

/-- What a lane computes from after a bring-up. -/
def Core.reset : Core :=
  { fusion := .reset, gnss := .reset, offsets := [], origin := { geo := none, fixed := false, site := false }, engine := .reset, ctl := .reset,
    alloc := .reset, cases := .reset, rewind := [], shadows := [], attitudes := [], tau := (0, 0, 0),
    allocRec := .zero, conseq := .zero, late := [], stored := [], periodAt := 0, oldPeriod := 0, originDue := false }

/-- A lane after a bring-up. -/
def Lane.reset : Lane :=
  { core := .reset, saved := .reset, held := none, subs := [], deadline := false, journal := [], reapply := false, missed := [], attitudes := [], slot := none, latest := none,
    fused := false, replaying := false, engineFault := false, solverFault := false, auxFault := false, excluded := false,
    inReset := false, transients := [], katPassed := none, sliceFailed := false, outbox := [] }

/-- HEALTHY, nothing withheld (R390). -/
def Ridge.reset : Ridge :=
  { health := .healthy, withheld := none, decision := 0, causeA := 0, causeB := 0, katDue := false, restore := false, origA := none,
    origB := none, halvesRun := 0,
    faultyRun := 0, equalRun := 0, releasedFrame := none, healthReset := none, healthResetKat := false,
    resumeAs := none, rejoin := none, failedA := 0, failedB := 0, excludedAt := 0, holdStage := .none, holdSince := 0,
    fullTest := none, spoilt := false, injected := 0, snapDigest := 0 }

/-- A contact that has not changed since bring-up. -/
def Contact.reset : Contact := { closed := false, applied := false, changes := 0, ts := 0 }

/-- Nothing released and nothing sent. -/
def OutStage.reset : OutStage :=
  { released := [], record := none, shown1 := false, shown2 := false, sent := [], dispatched := List.replicate 24 (0, 0),
    ls1 := .reset, ls2 := .reset, fromPeer := none }

/-- STANDBY-TWIN at start-up (R406), the link not yet up. -/
def PeerUnit.reset : PeerUnit :=
  { duty := .twin, up := false, physical := true, validRun := 0, conn := .reset, state := none,
    data := none, dataFresh := false, discrete := false, dualRun := 0, disagree := false,
    readySince := none, settled := false, txSeq := 0, sent := none, pdu := [], transferAsked := false, sentData := none,
    atCutoff := none, dataAtCutoff := none }

end Sys2Proof.Machine
end

