-- ==== Sys2Proof/Machine/Types/Purlin.lean ====
section
/-!
DEFINITION. State of the Purlin interconnect (R52 to R60).
-/

namespace Sys2Proof.Machine

/-- What a router input port is receiving: nothing, the rest of a packet whose flits so far it holds, the rest of a
discarded one, or anything up to the next head flit (R57). -/
inductive RxPhase where
  | head
  | payload (left out : Nat) (flits : List (BitVec 128))
  | drop (left : Nat)
  | dropToHead
deriving DecidableEq, Repr

/-- A flit waiting at a router output for a grant: its packet's head, and whether it is the packet's last. -/
structure WaitFlit where
  out : Nat
  vc : Nat
  requester : Nat
  data : BitVec 128
  head : BitVec 128
  last : Bool
deriving DecidableEq, Repr

/-- What the (144,128) code of a flit shows at a router (R55). -/
inductive FlitCheck where
  | clean
  | corrected
  | uncorrectable
deriving DecidableEq, Repr

/-- One arbiter: router output, virtual channel, the requester granted last and the ages (R59). -/
structure Arbiter where
  out : Nat
  vc : Nat
  last : Nat
  ages : List (Nat × Nat)
deriving DecidableEq, Repr

/-- How often a virtual channel with a ready flit was passed over at an output (R60). -/
structure PassOver where
  out : Nat
  vc : Nat
  count : Nat
deriving DecidableEq, Repr

/-- A request without its reply yet (R58): attempts made, time of the latest one, the output its router sends it to, the flits to
repeat, how many more of them the source still sends, and the receive space it holds for the complete reply (R67). -/
structure Outstanding where
  src : Nat
  dst : Nat
  tag : Nat
  attempts : Nat
  sentAt : Nat
  out : Nat
  flits : List (BitVec 128)
  left : Nat
  reserved : Nat
deriving DecidableEq, Repr

/-- The interconnect. -/
structure Purlin where
  /-- Reception phase of each input port; an unlisted port waits for a head flit. -/
  ports : List (Nat × RxPhase)
  waiting : List WaitFlit
  /-- Packets of a ninth requester of an arbiter, at their input port until a place is free (R59). -/
  stalled : List (List WaitFlit)
  arbiters : List Arbiter
  passed : List PassOver
  outstanding : List Outstanding
  /-- Flits delivered in the latest step. -/
  delivered : List WaitFlit
  deviceFaults : List (Nat × Nat)
deriving DecidableEq, Repr

/-- Nothing in flight. -/
def Purlin.reset : Purlin :=
  { ports := [], waiting := [], stalled := [], arbiters := [], passed := [], outstanding := [],
    delivered := [], deviceFaults := [] }

end Sys2Proof.Machine
end

