-- ==== Sys2Proof/Machine/Types/System.lean ====
section
/-!
DEFINITION. State of the event recorder, of the reset controller, of the power inputs and the hold-up bank, of memory protection
and of the secret store (R629 to R702).
-/

namespace Sys2Proof.Machine

/-- A record (R629). `mono`: monotonic time of the first occurrence. -/
structure Record where
  seq : Nat
  code : Nat
  opSeconds : Word
  powerCycles : Word
  taiS : Nat
  taiNs : Nat
  tstatus : Half
  repeats : Nat
  kind : Nat
  payload : List Byte
  mono : Nat
deriving DecidableEq, Repr

/-- A closed yealm (R638): what its image is formed from, with DIGEST and SIGNATURE. Region 0 events, 1 trends. -/
structure Yealm where
  region : Nat
  cause : Nat
  yseq : Nat
  records : List Record
  powerCycles : Word
  prevDigest : List Byte
  serial : Nat
  keyId : Nat
  digest : List Byte
  signature : List Byte
deriving DecidableEq, Repr

/-- An open yealm: its records in order of SEQ. -/
structure OpenYealm where
  records : List Record
deriving DecidableEq, Repr

/-- State of a NAND device (R643, R645, R650). -/
inductive NandState where
  | inService
  | retired
  | returning
deriving DecidableEq, Repr

/-- A NAND device: state, cause of its retirement (R644), yealms of its regions in YSEQ order. -/
structure Nand where
  st : NandState
  cause : Nat
  events : List Yealm
  trends : List Yealm
  freeze : List Yealm
deriving DecidableEq, Repr

/-- A counter block of FRAM (R646): operating seconds, power-cycle count, next SEQ, next YSEQ, the states of the devices. -/
structure CounterBlock where
  opSeconds : Word
  powerCycles : Word
  nextSeq : Nat
  nextYseq : Nat
  stA : NandState
  stB : NandState
deriving DecidableEq, Repr

/-- The event recorder with its part of FRAM (R630 to R650). -/
structure Recorder where
  nextSeq : Nat
  nextYseq : Nat
  opSeconds : Word
  /-- Monotonic time of the latest increment of the operating seconds (R631). -/
  opAt : Nat
  powerCycles : Word
  /-- The two copies of the counter block in FRAM, written alternately, and the one written next (R646). -/
  fram0 : CounterBlock
  fram1 : CounterBlock
  framNext : Nat
  openEvents : OpenYealm
  openTrends : OpenYealm
  /-- Closed yealms not yet in NAND, oldest first (R644, R650). -/
  ram : List Yealm
  /-- DIGEST of the newest yealm of each region, as FRAM holds it (R639). -/
  digestE : List Byte
  digestT : List Byte
  /-- Last-gasp area: the latest 256 records of severity MAJOR or higher (R646). -/
  lastGasp : List Record
  devA : Nand
  devB : Nand
  /-- Event 0x6006 has been raised since bring-up (R644). -/
  overwriteTold : Bool
  freezeLocked : Bool
  /-- A freeze copy runs: OP_SECONDS of the trigger and SEQ of its event 0x6004 (R642). -/
  copying : Option (Nat × Nat)
  /-- Power-fail has been declared: no trend record is made (R647). -/
  powerFail : Bool
  /-- Trend periods passed at the latest trend record (R637). -/
  trendAt : Nat
  /-- The latest frame record and the latest trend sample the outbox has handed over, as bytes (R47, R100, R637). -/
  frameRecord : List Byte
  trendSample : Option (List Byte)
  /-- Handle of a running NAND_RETURN and its device, 0 A, 1 B (R645). -/
  returning : Option (Nat × Nat)
  /-- Exports running: handle, REGION, yealms of the range, yealms skipped (R649). -/
  exports : List (Nat × Nat × List Yealm × Nat)
deriving DecidableEq, Repr

/-- An assertion of a reset source (R655): source bit, level, target (lane 0 or 1, unit code), island of a CKF. -/
structure ResetSource where
  bit : Nat
  level : Nat
  target : Nat
  island : Nat
deriving DecidableEq, Repr

/-- A reset episode of the history (R670). -/
structure ResetEpisode where
  opSeconds : Word
  powerCycles : Word
  sources : Nat
  level : Nat
  target : Nat
  island : Nat
  phase : Nat
  copyUsed : Nat
  failedReads : Nat
  storm : Bool
  pinStuck : Bool
  dropped : Bool
deriving DecidableEq, Repr

/-- The option values delivered at the latest option load (R663, R664); nominal trims are empty lists (R665). -/
structure Options where
  serial : Nat
  hwRev : Nat
  ocxoWord : Word
  pllTrim : List Word
  analogue : List Byte
  phyLat : List Int
  gnssGain : List Int
  /-- Copy used at the latest option load: 0 A, 1 B, 2 none; attempts failed in it. -/
  copyUsed : Nat
  failedReads : Nat
deriving DecidableEq, Repr

/-- What the whole module is doing. -/
inductive UpState where
  /-- Bring-up is complete. -/
  | up
  /-- Held in reset at Cold (0) or Warm (1) reach. -/
  | held (level : Nat)
  /-- Bring-up runs from the phase of a level; at Cold the options are still to be loaded while `load`. -/
  | bringup (level : Nat) (load : Bool)
  /-- Switched off after a power-fail, until power good. -/
  | off
deriving DecidableEq, Repr

/-- The reset controller (R653 to R670). -/
structure ResetUnit where
  up : UpState
  asserted : List ResetSource
  /-- The Warm or Cold episode that runs, the Lane and Unit episodes that run, and those before, newest first (R666, R670). -/
  episode : Option ResetEpisode
  unitEpisodes : List ResetEpisode
  history : List ResetEpisode
  /-- Operating seconds at the starts of stored Warm and Cold episodes, newest first (R666). -/
  starts : List Nat
  /-- BRINGUP: 0 normal, 1 OPTIONS_INVALID, 2 RESET_STORM (R665, R666). -/
  bringup : Nat
  fuses : Nat
  options : Options
  pinStuck : Bool
  /-- Since when the Port 5 input holds PIN asserted (R656). -/
  pinAt : Nat
  /-- A software reset accepted: LEVEL, TARGET, and when its reply left (R657). -/
  swr : Option (Nat × Nat)
  swrAt : Nat
  /-- Units that no source holds any more and whose bring-up runs, and since when (R657). -/
  released : List (Nat × Nat)
  /-- Sources held during a power-fail sequence, and whether they have been released meanwhile (R662). -/
  held : List (ResetSource × Bool)
  /-- Units of R657 held in reset or in bring-up. -/
  unitsDown : List Nat
  /-- Shutdown time in FRAM, TAI ns (R198, R676), and the AON time counter as read at the latest power-on, ns since then; none when
  it had stopped. -/
  shutdownTime : Nat
  aonCounter : Option Nat
  /-- Consecutive bad windows of each clock monitor, in the order of R61 (R62). -/
  badWindows : List Nat
  /-- Host-side sources that reset the host alone while both links were down: bits, to be recorded (R656). -/
  lateHost : List Nat
  /-- Parts neither slot of which verified at the latest secure boot (R692). -/
  bootFailed : List Nat
  /-- Health code and mode code before the reset under way (R33, R390). -/
  priorHealth : Nat
  priorMode : Nat
deriving DecidableEq, Repr

/-- State of a power input (R671). -/
inductive InputState where
  | ok
  | low
  | failed
  | overvoltage
deriving DecidableEq, Repr

/-- State of the hold-up bank (R673). -/
inductive BankState where
  | charging
  | ready
  | discharging
  | fault
deriving DecidableEq, Repr

/-- Power inputs, hold-up bank and the power-fail sequence (R671 to R678). Voltages in 10 mV, energies in J. -/
structure PowerUnit where
  inA : InputState
  inB : InputState
  voltsA : Nat
  voltsB : Nat
  /-- Since when each input counts as below 16.0 V (R672). -/
  downA : Option Nat
  downB : Option Nat
  bank : BankState
  bankVolts : Nat
  bankCap : Nat
  charger : Bool
  /-- Capacitance in µF from the latest capacity test; a new bank's before any (R674, R675). -/
  bankUf : Nat
  chargerFault : Bool
  /-- BANK_CAP has been measured below 15.5 J (R675). -/
  capFault : Bool
  holdupLow : Bool
  /-- Since when a power-fail sequence runs, and how many of its timed steps are done. -/
  pfSince : Option Nat
  pfStopped : Bool
  /-- Operating seconds at the latest capacity test. -/
  testAt : Nat
deriving DecidableEq, Repr

/-- A memory of R684. -/
structure Memory where
  corrected : Bool
  uncorrectable : Bool
  lastAddr : Nat
  /-- Operating seconds of recent corrections, newest first, and of the latest event 0xA003 (R687). -/
  recent : List Nat
  toldAt : Option Nat
  /-- Next address of the scrub (R684). -/
  scrub : Nat
deriving DecidableEq, Repr

/-- The memories and the march test (R684 to R689). -/
structure MemoryUnit where
  mems : List Memory
  marchResult : Nat
  marchMem : Nat
  marchAddr : Nat
  /-- A march runs: its handle. -/
  march : Option Nat
  /-- Event 0xA004 is due after bring-up (R689). -/
  marchTold : Bool
deriving DecidableEq, Repr

/-- Steps of a DEBUG_OPEN (R698): 0 none, 1 accepted, 2 the store is erased, 3 DBG asserted, 4 the ports are open. -/
structure SecurityUnit where
  /-- The recorder signing key is held; its KEY_ID (R693). -/
  keyHeld : Bool
  keyId : Nat
  deviceKey : Bool
  unprovisioned : Bool
  tamper : Bool
  /-- An opening not yet told by event 0xA103, and the host part still to erase (R696). -/
  tamperTold : Bool
  hostErase : Bool
  debugStep : Nat
  debugAt : Nat
  debugHandle : Option Nat
  /-- The random sources run (R694). -/
  fieldRandom : Bool
  hostRandom : Bool
  /-- Revoked key slots and bits of the security counter (R691). -/
  revoked : Nat
  secCounter : Nat
  reprovision : Option Nat
deriving DecidableEq, Repr

/-- A device in service with nothing written. -/
def Nand.reset : Nand := { st := .inService, cause := 0, events := [], trends := [], freeze := [] }

/-- The counter block of a fresh module. -/
def CounterBlock.reset : CounterBlock :=
  { opSeconds := 0, powerCycles := 0, nextSeq := 0, nextYseq := 0, stA := .inService, stB := .inService }

/-- A recorder that has recorded nothing. -/
def Recorder.reset : Recorder :=
  { nextSeq := 0, nextYseq := 0, opSeconds := 0, opAt := 0, powerCycles := 0, fram0 := .reset, fram1 := .reset, framNext := 0, openEvents := { records := [] },
    openTrends := { records := [] }, ram := [], digestE := List.replicate 32 0, digestT := List.replicate 32 0,
    lastGasp := [], devA := .reset, devB := .reset, overwriteTold := false, freezeLocked := false, copying := none,
    powerFail := false, trendAt := 0, frameRecord := [], trendSample := none, returning := none, exports := [] }

/-- Options loaded from copy A. -/
def Options.reset : Options :=
  { serial := 0, hwRev := 0, ocxoWord := 0, pllTrim := [], analogue := [], phyLat := [], gnssGain := [], copyUsed := 0,
    failedReads := 0 }

/-- The reset controller after a complete bring-up; the fuse map at its defaults. -/
def ResetUnit.reset : ResetUnit :=
  { up := .up, asserted := [], episode := none, unitEpisodes := [], history := [], starts := [], bringup := 0, fuses := 0,
    options := .reset, pinStuck := false, pinAt := 0, swr := none, swrAt := 0, released := [], held := [], unitsDown := [], shutdownTime := 0, aonCounter := none,
    badWindows := List.replicate 19 0, lateHost := [], bootFailed := [], priorHealth := 0, priorMode := 0 }

/-- Both inputs OK, the bank charging from empty (R667). -/
def PowerUnit.reset : PowerUnit :=
  { inA := .ok, inB := .ok, voltsA := 2400, voltsB := 2400, downA := none, downB := none, bank := .charging, bankVolts := 0,
    bankCap := 0, charger := true, bankUf := 150000, chargerFault := false, capFault := false, holdupLow := false, pfSince := none, pfStopped := false, testAt := 0 }

/-- No error seen. -/
def Memory.reset : Memory :=
  { corrected := false, uncorrectable := false, lastAddr := 0, recent := [], toldAt := none, scrub := 0 }

/-- No march run (R688). -/
def MemoryUnit.reset : MemoryUnit :=
  { mems := List.replicate 18 .reset, marchResult := 0, marchMem := 0xFF, marchAddr := 0, march := none, marchTold := true }

/-- A provisioned module with its ports closed. -/
def SecurityUnit.reset : SecurityUnit :=
  { keyHeld := true, keyId := 1, deviceKey := true, unprovisioned := false, tamper := false, tamperTold := true,
    hostErase := false, debugStep := 0, debugAt := 0, debugHandle := none, fieldRandom := true, hostRandom := true, revoked := 0,
    secCounter := 0, reprovision := none }

end Sys2Proof.Machine
end

