-- ==== Sys2Proof/Machine/State.lean ====
section
/-!
DEFINITION. The state of the module, the reasons a step can stop, and the state after reset.
-/

namespace Sys2Proof.Machine

/-- Why a command stops with a fault. -/
inductive Fault where
  /-- No command of this model raises it: every abnormal condition of the spec is an effect on the state (safe). -/
  | none
deriving DecidableEq, Repr

/-- Why a command has no meaning. -/
inductive Refusal where
  /-- Raised by the dispatch of a command not modelled yet (safe). -/
  | notModelled (mnemonic : String)
deriving DecidableEq, Repr

/-- The module. -/
structure State where
  now : Nat
  freeCtr : Nat
  counters : List (Nat × Counter)
  params : List (Nat × Word)
  toRecorder : List Event
  toHost : List HostEvent
  frame : FrameUnit
  purlin : Purlin
  gnss : Gnss
  time : TimeUnit
  host : HostUnit
  eaves : Eaves
  config : ConfigStore
  laneA : Lane
  laneB : Lane
  ridge : Ridge
  out : OutStage
  peer : PeerUnit
  safety : SafetyUnit
  fio : FieldIo
  buses : Buses
  recorder : Recorder
  rst : ResetUnit
  power : PowerUnit
  memory : MemoryUnit
  security : SecurityUnit
  baseTemp : Int
  pending : List Instr
deriving DecidableEq, Repr

/-- The module at the end of a Cold bring-up with nothing in its non-volatile stores: STANDBY, health HEALTHY, frame number 0, the
factory configuration, no strobe yet (R604, R624, R654, R667); the safety unit before the end of its self-test (R414); no command
waiting. -/
def State.reset : State :=
  { now := 0
    freeCtr := 0
    counters := []
    params := []
    toRecorder := []
    toHost := []
    frame := .reset
    purlin := .reset
    gnss := .reset
    time := { TimeUnit.reset with ocxoLoaded := true }
    host := .reset
    eaves := .reset
    config := .reset
    laneA := .reset
    laneB := .reset
    ridge := .reset
    out := .reset
    peer := { PeerUnit.reset with duty := .duty }
    safety := .reset
    fio := .reset
    buses := .reset
    recorder := .reset
    rst := .reset
    power := .reset
    memory := .reset
    security := .reset
    baseTemp := 0
    pending := [] }

end Sys2Proof.Machine
end

