-- ==== Sys2Proof/Machine/Ops.lean ====
section
/-!
DEFINITION. The named operations every unit shares: time, parameters, counters, events, free values.
-/

namespace Sys2Proof.Machine

/-- The outcome every meaning answers with. -/
abbrev Result := Host.Outcome State Fault Refusal

/-- The slew made in dt ns at the slew limit in ns/s: in 2^-32 ns, towards the remaining error (R176). -/
def slewStep (limit dt : Nat) (left : Int) : Int :=
  let m : Int := (limit * dt * 4294967296 / secNs : Nat)
  clampInt (-m) m left

/-- The word of a parameter: as written, or its default (R604). -/
def State.param (s : State) (id : Nat) : Word :=
  match assoc s.params id with
  | some v => v
  | none =>
    match paramDesc id with
    | some d => d.dfltWord
    | none => 0

/-- A parameter as an unsigned number. -/
def State.paramN (s : State) (id : Nat) : Nat := (s.param id).toNat

/-- A parameter as a signed number. -/
def State.paramI (s : State) (id : Nat) : Int := (s.param id).toInt

/-- The change of the offset in dt ns at a steered frequency (R171). -/
def rateStep (rate : Int) (dt : Nat) : Int := rate * dt / secNs

/-- 20 ns in 2^-32 ns: the error below which SLEWING clears (R176). -/
def slewEnd : Nat := 20 * 4294967296

/-- Monotonic time moves on to t and never back (R13); the slew in progress and a steered frequency move the offset, and SLEWING clears
when the slew brings the error below 20 ns (R171, R176). -/
def State.tick (s : State) (t : Nat) : State :=
  let d := slewStep (s.paramN 0x12010002) (t - s.now) s.time.slewLeft
  { s with now := max s.now t
           time.offset := s.time.offset + d + rateStep s.time.offsetRate (t - s.now)
           time.slewLeft := s.time.slewLeft - d
           time.slewing := s.time.slewing && (decide (d = 0) || decide (slewEnd ≤ (s.time.slewLeft - d).natAbs)) }

/-- Module time in TAI ns (R161). -/
def State.taiNsTotal (s : State) : Int := ((s.now : Int) * 4294967296 + s.time.offset) / 4294967296

/-- TAI seconds of module time (R11). -/
def State.taiS (s : State) : Nat := (s.taiNsTotal / secNs).toNat

/-- Nanoseconds of module time, below 1 000 000 000 (R11). -/
def State.taiNs (s : State) : Nat := (s.taiNsTotal % secNs).toNat

/-- The code of a time state (R163). -/
def TimeState.code : TimeState → Nat
  | .freeRun => 0
  | .locked => 1
  | .holdover => 2
  | .unsynchronised => 3

/-- STEPPED: less than 60 s after the latest step (R163, R179). -/
def State.stepped (s : State) : Bool :=
  match s.time.lastStep with
  | none => false
  | some t0 => s.now < t0 + 60 * secNs

/-- STEP_PENDING: a step announced and not yet made (R163). -/
def State.stepPending (s : State) : Bool :=
  match s.time.pending with
  | none => false
  | some p => p.announced

/-- The 16-bit time status (R163). -/
def State.timeStatus (s : State) : Half :=
  BitVec.ofNat 16 <|
    s.time.st.code + 16 * s.time.source + 128 * b2n s.time.slewing + 256 * b2n s.stepPending
      + 512 * b2n s.stepped + 1024 * b2n s.time.stepGen + 2048 * b2n s.time.utcValid
      + 4096 * b2n (s.time.leap ≠ 0) + 8192 * b2n s.time.warming + 16384 * b2n s.time.ocxoFail

/-- A record made with the present time and frame (R591, R629). -/
def State.makeEvent (s : State) (code kind : Nat) (payload : List Byte) : Event :=
  { code := BitVec.ofNat 16 code, kind := kind, payload := payload, frame := s.frame.number, taiS := s.taiS,
    taiNs := s.taiNs, tstatus := s.timeStatus, mono := s.now }

/-- A record handed to the event recorder. -/
def State.record (s : State) (code kind : Nat) (payload : List Byte) : State :=
  { s with toRecorder := s.toRecorder ++ [s.makeEvent code kind payload] }

/-- An event raised: its arguments are 32-bit words of the record's payload. -/
def State.raise (s : State) (code : Nat) (args : List Nat) : State :=
  s.record code 0 (args.flatMap (le 4))

/-- The same, when a condition holds. -/
def State.raiseIf (s : State) (c : Bool) (code : Nat) (args : List Nat) : State :=
  if c then s.raise code args else s

/-- A counter's value and overflow bit; a counter never incremented is clear (R19). -/
def State.counter (s : State) (id : Nat) : Counter :=
  (assoc s.counters id).getD { value := 0, overflow := false }

/-- One occurrence counted: saturation, sticky overflow and the one event 0x0107 of R19. -/
def State.count (s : State) (id : Nat) : State :=
  let c := s.counter id
  if c.value = 0xFFFFFFFF#32 then s
  else
    let v := c.value + 1
    if v = 0xFFFFFFFF#32 then
      { s with counters := assocSet s.counters id { value := v, overflow := true } }.raise 0x0107 [id]
    else { s with counters := assocSet s.counters id { value := v, overflow := c.overflow } }

/-- n occurrences counted. -/
def State.countN (s : State) (id : Nat) : Nat → State
  | 0 => s
  | n + 1 => (s.count id).countN id n

/-- A fresh unconstrained truth value. -/
def State.freeBool (s : State) : Bool × State :=
  (Config.freeBool s.freeCtr, { s with freeCtr := s.freeCtr + 1 })

/-- A sample handed to the snapshot builder by a port unit (R77); its arrival is stamped on receipt (R78). -/
def State.send (s : State) (source portTs : Nat) (sflags : Nat) (data : List Byte) : State :=
  { s with frame.inFlight := s.frame.inFlight ++
      [(source, { arrival := 0, portTs := portTs, sflags := BitVec.ofNat 16 sflags, data := data })] }

/-- A unit of R657 is held in reset, with the module or alone; code 0 asks for the module (R653). -/
def State.unitHeld (s : State) (u : Nat) : Bool := decide (s.rst.up ≠ .up) || s.rst.unitsDown.contains u

/-- Whether a duration in ns has passed since a time that may not have been noted. -/
def State.since (s : State) (t0 : Option Nat) (d : Nat) : Bool :=
  match t0 with
  | none => false
  | some t => t + d ≤ s.now

end Sys2Proof.Machine
end

