-- ==== Sys2Proof/Machine/Events.lean ====
section
/-!
DEFINITION. Severities of events (R635) and their delivery to host sessions (R590 to R592).
-/

namespace Sys2Proof.Machine

/-- The severity of each event: unit, then the low bytes of its CRITICAL, MAJOR, MINOR and NOTICE events (R635 and the
tables of units 0x90, 0xA0 and 0xA1); every other code of the unit is INFO. -/
def severityTable : List (Nat × List Nat × List Nat × List Nat × List Nat) :=
  [ (0x01, [], [4, 5, 6], [2, 7], [1, 3]),
    (0x02, [], [3], [], [1, 2, 4]),
    (0x10, [3], [2, 4, 5], [1, 6, 7, 8, 9], [0xA, 0xB]),
    (0x11, [], [3, 6], [1, 2, 5, 8, 9], [4, 7]),
    (0x12, [], [3, 7], [2, 6, 9, 0xA], [1, 4, 5, 0xB, 0xC]),
    (0x20, [], [5], [1, 4], [3]),
    (0x21, [], [3, 5, 7, 8, 9], [1, 2, 6], []),
    (0x22, [], [1, 5, 7], [3, 6, 9], [2, 4, 8]),
    (0x30, [], [7], [1, 2, 3, 4, 5, 6], []),
    (0x31, [], [], [1, 2, 4, 5], [3]),
    (0x32, [], [], [2], []),
    (0x33, [], [], [1, 2], []),
    (0x40, [], [2], [1, 4, 6, 7, 8, 9], [3, 5]),
    (0x41, [], [], [1, 2], []),
    (0x50, [1], [2, 3, 4, 6, 8, 9], [5, 7], [0xA, 0xB]),
    (0x60, [1], [2, 4, 7, 0xF2], [6], [3, 5, 8, 0xF0, 0xF1]),
    (0x70, [8], [3, 4, 5, 6], [1, 2], [7]),
    (0x71, [5], [1, 2, 4], [], [3]),
    (0x80, [2], [1], [4, 6, 8, 9], [3, 5, 7]),
    (0x90, [4, 5, 7, 0xA], [2, 3, 9], [6, 0xB, 0xC], [1, 8]),
    (0xA0, [], [1, 2], [3], [4]),
    (0xA1, [1, 2, 3], [4, 6], [], [5]) ]

/-- Severity of an event code: 0 INFO, 1 NOTICE, 2 MINOR, 3 MAJOR, 4 CRITICAL (R590, R635). -/
def severity (code : Nat) : Nat :=
  match assoc severityTable (code / 256) with
  | none => 0
  | some (c, ma, mi, no) =>
    let n := code % 256
    if c.contains n then 4 else if ma.contains n then 3 else if mi.contains n then 2
    else if no.contains n then 1 else 0

/-- Credits a packet of n bytes takes (R598). -/
def packetCredits (n : Nat) : Nat := (n + 12 + 255) / 256

/-- A link is up: the two Eaves links are all that joins the two sides (R31). -/
def State.linkUp (s : State) : Bool := s.eaves.link0.up || s.eaves.link1.up

/-- A packet put on a link in its class: it stays in the retry buffer (R36, R37). The links take turns while both are up. -/
def EavesClass.put (c : EavesClass) (up0 up1 : Bool) (eflags xfer : Nat) (content : List Byte) : EavesClass :=
  let link := if up0 && up1 then c.nextSeq % 2 else if up0 then 0 else 1
  { c with
    nextSeq := (c.nextSeq + 1) % 65536
    retry := c.retry ++ [{ seq := c.nextSeq, link := link, credits := packetCredits content.length, eflags := eflags, xfer := xfer,
                           content := content }] }

/-- A packet that takes credit of its class leaves (R598). -/
def EavesClass.send (c : EavesClass) (up0 up1 : Bool) (eflags xfer : Nat) (content : List Byte) : EavesClass :=
  { c.put up0 up1 eflags xfer content with credits := c.credits - packetCredits content.length }

/-- The host side shows a state of its own: its copy gets no marks, or no label has come since (R196, R197). -/
def HostTime.alone (h : HostTime) : Bool := h.isolated || h.awaitingLabel

/-- The time state Port 4 shows (R196, R197). -/
def State.port4State (s : State) : TimeState :=
  if s.time.host.alone then
    if s.now < s.time.host.isolatedAt + 10 * secNs then .holdover else .unsynchronised
  else s.time.st

/-- The host copy's time status (R163, R196, R197): the field side's, or that of the latest label with STATE as Port 4 shows it;
HOST_ISOLATED is set only here, STEP_PENDING and SLEWING also for the copy's own return. -/
def State.hostTimeStatus (s : State) : Half :=
  let h := s.time.host
  let base : Half :=
    if h.alone then
      (((h.label.map (·.tstatus)).getD 0) &&& 0xFFF8#16) ||| BitVec.ofNat 16 s.port4State.code
    else s.timeStatus
  base ||| BitVec.ofNat 16 (32768 * b2n h.isolated + 256 * b2n h.stepWaiting.isSome + 128 * b2n (decide (slewEnd ≤ h.slewLeft.natAbs)))

/-- Events of a session's queue go out while the window of 256 has room (R592). -/
def Session.pump : Nat → Nat → Session → Session × List SentEvent
  | 0, _, x => (x, [])
  | n + 1, now, x =>
    match x.queue with
    | [] => (x, [])
    | e :: rest =>
      if 256 ≤ x.window.length then (x, [])
      else
        let told : HostEvent := { e with gap := x.gapNext || e.gap, suppressed := min 65535 x.suppressed }
        let v : SentEvent := { seq := x.nextEventSeq, ev := told, sentAt := now, sends := 1 }
        let nxt := if x.nextEventSeq = 65535 then 1 else x.nextEventSeq + 1
        let y : Session :=
          { x with queue := rest, window := x.window ++ [v], nextEventSeq := nxt, gapNext := false, suppressed := 0 }
        let (z, out) := Session.pump n now y
        (z, v :: out)

/-- Whether a session takes an event (R590). -/
def Session.wants (x : Session) (e : HostEvent) : Bool :=
  x.isOpen && x.mask.getLsbD (e.code.toNat / 256) && decide (x.minSeverity ≤ severity e.code.toNat)

/-- A session's queue takes an event; when the queue of 1024 overflows its oldest event is dropped (R592). -/
def Session.enqueue (x : Session) (e : HostEvent) : Session :=
  if x.wants e then
    if 1024 ≤ x.queue.length then { x with queue := x.queue.drop 1 ++ [e], gapNext := true }
    else { x with queue := x.queue ++ [e] }
  else x

/-- The host form of a recorded event (R591). -/
def Event.forHost (e : Event) (ops : Word) (seq : Nat) : HostEvent :=
  { code := e.code, severity := severity e.code.toNat, frame := e.frame, taiS := e.taiS, taiNs := e.taiNs,
    tstatus := e.tstatus, opSeconds := ops, recSeq := seq, suppressed := 0, gap := false, args := e.payload }

/-- The host copy of module time, TAI ns (R195). -/
def State.hostTaiNs (s : State) : Int := s.now + s.time.host.offset

/-- An event of the host side with the time and the time status of the host copy (R163, R196). The recorder has no record of it and
REC_SEQ is 0 (DESIGN CHOICE, log 19). -/
def State.ownEvent (s : State) (code : Nat) (args : List Nat) : HostEvent :=
  let e : Event :=
    { s.makeEvent code 0 (args.flatMap (le 4)) with
      taiS := (s.hostTaiNs / secNs).toNat
      taiNs := (s.hostTaiNs % secNs).toNat
      tstatus := s.hostTimeStatus }
  e.forHost s.recorder.opSeconds 0

/-- Such an event put into the queues of the sessions that take it. -/
def State.enqueueOwn (s : State) (code : Nat) (args : List Nat) : State :=
  { s with host.sessions := s.host.sessions.map fun (x : Session) => x.enqueue (s.ownEvent code args) }

/-- Counter of events that sessions dropped (R603). -/
def ctrSessionDrops : Nat := 0x80F20002

/-- A dropped event of a session: counted, and event 0x8006 at most once per 60 s per session (R592, R603). -/
def State.dropNotice (s : State) (number : Nat) : State :=
  let s := s.count ctrSessionDrops
  match s.host.sessions.find? fun x => x.number = number with
  | none => s
  | some x =>
    let quiet :=
      match x.lastDropEvent with
      | none => true
      | some t0 => t0 + 60 * secNs ≤ s.now
    if quiet then
      let s1 := { s with host.sessions := s.host.sessions.map fun (y : Session) =>
                    if y.number = number then { y with lastDropEvent := some s.now } else y }
      if s1.linkUp then s1.raise 0x8006 [number] else s1.enqueueOwn 0x8006 [number]
    else s

/-- Every session's queue is sent on as far as its window allows. -/
def State.pumpSessions (s : State) : State :=
  let r := s.host.sessions.map fun x => (x.number, Session.pump 256 s.now x)
  { s with
    host.sessions := r.map fun p => p.2.1
    host.eventsSent := s.host.eventsSent ++ r.flatMap fun p => p.2.2.map fun v => (p.1, v) }

/-- An event delivered to the sessions on the host side. -/
def State.toSessions (s : State) (e : HostEvent) : State :=
  let full := s.host.sessions.filter fun x => x.wants e && decide (1024 ≤ x.queue.length)
  let s := { s with host.sessions := s.host.sessions.map fun (x : Session) => x.enqueue e }
  full.foldl (fun s x => s.dropNotice x.number) s.pumpSessions

/-- An event the host side gives to its own sessions. -/
def State.tellSessions (s : State) (code : Nat) (args : List Nat) : State := s.toSessions (s.ownEvent code args)

/-- An event of the host processor unit: recorded like every event while a link is up (R592), else told to its sessions alone. -/
def State.hostRaise (s : State) (code : Nat) (args : List Nat) : State :=
  if s.linkUp then s.raise code args else s.tellSessions code args

end Sys2Proof.Machine
end

