-- ==== Sys2Proof/Machine/Gnss.lean ====
section
/-!
DEFINITION. The GNSS baseband: antenna bias, channels, acquisition, epochs, navigation data, indicators (R104 to R159, R717).
-/

namespace Sys2Proof.Machine

/-- Counters of the GNSS unit (R159): late epochs, detections not confirmed, slips per signal. -/
def ctrLateEpochs : Nat := 0x11F00001
/-- Detections not confirmed (R121, R159). -/
def ctrUnconfirmed : Nat := 0x11F00002
/-- Slips of one signal (R159). -/
def ctrSlips (signal : Nat) : Nat := 0x11F10000 + signal

/-- The antenna state of antenna 0 or 1. -/
def Gnss.antenna (g : Gnss) (ant : Nat) : Antenna := if ant = 0 then g.antA else g.antB

/-- An antenna state written. -/
def Gnss.setAntenna (g : Gnss) (ant : Nat) (a : Antenna) : Gnss :=
  if ant = 0 then { g with antA := a } else { g with antB := a }

/-- BIAS_STATE of R135. -/
def BiasState.code : BiasState → Nat
  | .ok => 0
  | .opened => 1
  | .overload => 2
  | .disabled => 3

/-- A channel in lock: in frequency or phase lock (R125, R126). -/
def Channel.locked (c : Channel) : Bool := c.stage = .fll ∨ c.stage = .pll

/-- Whether any channel of an antenna is in lock. -/
def Gnss.anyLock (g : Gnss) (ant : Nat) : Bool := g.channels.any fun c => c.ant = ant ∧ c.locked

/-- The antenna-fault flag of the epoch header: OVERLOAD, or OPEN with no signal of that antenna in lock (R105). -/
def Gnss.antFault (g : Gnss) (ant : Nat) : Bool :=
  let b := (g.antenna ant).bias
  b = .overload ∨ (b = .opened ∧ g.anyLock ant = false)

/-- A bias state entered: event 0x1101 or 0x1102 when it changes (R105, R159). -/
def State.enterBias (s : State) (ant : Nat) (a : Antenna) (b : BiasState) : State :=
  let s := { s with gnss := s.gnss.setAntenna ant { a with bias := b } }
  s.raiseIf (a.bias ≠ b ∧ b ≠ .disabled ∧ a.bias ≠ .disabled) (0x1101 + ant) [b.code, a.current]

/-- The bias measurement made every 10 ms (R105). -/
def execAntennaBiasCheck (t ant current : Nat) (s : State) : Result :=
  let s := s.tick t
  if s.unitHeld 0x30 then .next s else
  let a := s.gnss.antenna ant
  if bit (s.paramN 0x11020003) ant = false then
    .next (s.enterBias ant { Antenna.reset with biasOn := false, bias := a.bias } .disabled)
  else if a.bias = .overload then .next s
  else
    let low := current < 30
    let high := 1000 < current
    let a := { a with current := current, biasOn := true
                      lowSince := if low then some (a.lowSince.getD s.now) else none
                      highSince := if high then some (a.highSince.getD s.now) else none }
    if s.since a.highSince (10 * msNs) then
      .next (s.enterBias ant { a with biasOn := false, retestDue := some (s.now + 5 * secNs) } .overload)
    else if s.since a.lowSince (100 * msNs) then .next (s.enterBias ant a .opened)
    else if low ∨ high then
      .next (s.enterBias ant a (if a.bias = .disabled then .ok else a.bias))
    else .next (s.enterBias ant a .ok)

/-- The 10 ms test 5 s after an overload (R105): the bias stays on if the current is in range; else the antenna stays in OVERLOAD and is
tested again after 5 s (DESIGN CHOICE, log 103). -/
def execAntennaBiasRetest (t ant current : Nat) (s : State) : Result :=
  let s := s.tick t
  if s.unitHeld 0x30 then .next s else
  let a := s.gnss.antenna ant
  if a.bias = .overload ∧ s.since a.retestDue 0 then
    if 30 ≤ current ∧ current ≤ 1000 then
      .next (s.enterBias ant { Antenna.reset with current := current, bias := a.bias } .ok)
    else .next { s with gnss := s.gnss.setAntenna ant
                          { a with current := current, retestDue := some (s.now + 5 * secNs) } }
  else .next s

/-- The bit of the signal-enable word of R112 that stands for a signal code of R109. -/
def signalBit (code : Nat) : Nat := (signalCodes.findIdx? (· = code)).getD 31

/-- The acquisition signal of a system code of R136 (R113). -/
def acqSignal (sys : Nat) : Nat :=
  if sys = 0 then 0x00 else if sys = 1 then 0x10 else if sys = 2 then 0x20 else if sys = 3 then 0x30 else 0x40

/-- A signal code of R109 belongs to a system: its high digit is the system code of R136. -/
def signalOf (sys code : Nat) : Bool := signalCodes.contains code && decide (code / 16 = sys)

/-- A signal of a system is enabled when its own bit and that of its system's acquisition signal are set (R110, R112, R113). -/
def signalEnabled (en sys code : Nat) : Bool :=
  signalOf sys code && bit en (signalBit code) && bit en (signalBit (acqSignal sys))

/-- The satellite numbers of a system (R111). -/
def svidValid (sys svid : Nat) : Bool :=
  if sys = 0 then 1 ≤ svid ∧ svid ≤ 32 else if sys = 1 then 1 ≤ svid ∧ svid ≤ 24
  else if sys = 2 then 1 ≤ svid ∧ svid ≤ 36 else if sys = 3 then 1 ≤ svid ∧ svid ≤ 63
  else sys = 4 ∧ 120 ≤ svid ∧ svid ≤ 158

/-- A signal without a pilot has a half-cycle ambiguity (R109, R125). -/
def dataOnly (signal : Nat) : Bool := [0x00, 0x10, 0x11, 0x30, 0x40].contains signal

/-- One channel changed, when it is of the antenna and number named. -/
def State.onChannel (s : State) (ant ch : Nat) (f : Channel → Channel) : State :=
  { s with gnss.channels := s.gnss.channels.map fun c => if c.ant = ant ∧ c.ch = ch then f c else c }

/-- The channel of an antenna and number. -/
def State.channel? (s : State) (ant ch : Nat) : Option Channel :=
  s.gnss.channels.find? fun c => c.ant = ant ∧ c.ch = ch

/-- TAI − UTC in use (R184). -/
def State.taiMinusUtc (s : State) : Int := s.time.taiUtc.getD (s.paramN 0x1201000A)

/-- The bytes of a GNSS-EPH sample (R138). -/
def NavSet.bytes (n : NavSet) (kind : Nat) : List Byte :=
  le 1 n.sys ++ le 1 n.svid ++ le 1 kind ++ le 1 n.signal ++ le 2 n.iod ++ le 2 n.nbits ++ le 8 n.rxMono ++ n.bits

/-- One navigation data set handed to the snapshot builder. -/
def State.sendNav (s : State) (n : NavSet) (kind : Nat) : State := s.send 0x0103 s.now 0 (n.bytes kind)

/-- An ephemeris stored under its satellite, at most 128 sets (R139); one of a further satellite is not kept (DESIGN CHOICE, log 113). -/
def storeNav (store : List StoredEph) (n : StoredEph) : List StoredEph :=
  if store.any fun m => m.set.sys = n.set.sys ∧ m.set.svid = n.set.svid then
    store.map fun m => if m.set.sys = n.set.sys ∧ m.set.svid = n.set.svid then n else m
  else if store.length < 128 then store ++ [n] else store

/-- The latest SBAS message of each type (R139). -/
def storeSbas (l : List NavSet) (n : NavSet) : List NavSet :=
  if l.any fun m => m.iod = n.iod then l.map fun m => if m.iod = n.iod then n else m else l ++ [n]

/-- Two almanac pages or parameter sets of one kind, satellite, signal and issue (R138). -/
def NavSet.samePage (m n : NavSet) : Bool :=
  m.sys = n.sys ∧ m.svid = n.svid ∧ m.kind = n.kind ∧ m.signal = n.signal ∧ m.iod = n.iod

/-- An almanac page or parameter set held (R138). -/
def storePage (l : List NavSet) (n : NavSet) : List NavSet :=
  if l.any fun m => m.samePage n then l.map fun m => if m.samePage n then n else m else l ++ [n]

/-- The ephemeris held of a satellite. -/
def Gnss.eph? (g : Gnss) (sys svid : Nat) : Option StoredEph :=
  g.store.find? fun m => m.set.sys = sys ∧ m.set.svid = svid

/-- Module time as whole TAI nanoseconds at a monotonic time (R161). -/
def State.taiAt (s : State) (mono : Nat) : Int := ((mono : Int) * 4294967296 + s.time.offset) / 4294967296

/-- A satellite with a valid ephemeris (R134, R136). -/
def State.ephValid (s : State) (e : StoredEph) : Bool := decide (s.taiNsTotal ≤ e.validTo)

/-- NAV_OK: a valid ephemeris is held for a satellite (R136). -/
def State.navOk (s : State) (sys svid : Nat) : Bool := (s.gnss.eph? sys svid).any s.ephValid

/-- Whether a data set is new or changed; every SBAS message is delivered (R138). -/
def Gnss.navFresh (g : Gnss) (n : NavSet) : Bool :=
  if n.kind = 0 then
    match g.eph? n.sys n.svid with
    | none => true
    | some m => m.set.iod ≠ n.iod ∨ m.set.bits ≠ n.bits
  else if n.kind = 3 then true
  else
    match g.pages.find? fun m => m.samePage n with
    | none => true
    | some m => m.bits ≠ n.bits

/-- The NAVDATA condition (R152): the time of week jumps, an ephemeris changes without a new issue of data, or an ephemeris and the
almanac place the satellite more than 10 km apart. -/
def Gnss.navSuspect (g : Gnss) (n : NavSet) (f : NavFacts) : Bool :=
  f.towJump || f.apart || (decide (n.kind = 0) && (g.eph? n.sys n.svid).any fun m => m.set.iod = n.iod ∧ m.set.bits ≠ n.bits)

/-- The stores of the baseband with one more decoded data set (R122, R131, R138, R139, R184). -/
def State.keepNav (s : State) (n : NavSet) (f : NavFacts) : State :=
  let g := s.gnss
  let suspect := g.navSuspect n f
  { s with
    gnss.store := if n.kind = 0 then storeNav g.store { set := n, validTo := f.validTo, healthy := f.healthy } else g.store
    gnss.sbas := if n.kind = 3 then storeSbas g.sbas n else g.sbas
    gnss.pages := if n.kind = 1 ∨ n.kind = 2 then storePage g.pages n else g.pages
    gnss.almanacTai := if n.kind = 1 then some s.taiNsTotal.toNat else g.almanacTai
    gnss.navdata := if suspect then (n.sys, n.svid) :: g.navdata else g.navdata
    gnss.utc := if f.utc.isSome then f.utc else g.utc
    gnss.offsets :=
      match f.offset with
      | some x => assocSet g.offsets x.1 x.2
      | none => g.offsets
    gnss.gloK :=
      match f.gloK with
      | some x => assocSet g.gloK x.1 x.2
      | none => g.gloK }

/-- One data set handed to the snapshot builder, one of the 15 of this frame or held for a later one (R139). -/
def State.deliverNav (s : State) (n : NavSet) : State :=
  if s.gnss.ephCount < 15 then { s with gnss.ephCount := s.gnss.ephCount + 1 }.sendNav n n.kind
  else { s with gnss.ephQueue := s.gnss.ephQueue ++ [n] }

/-- A satellite that is tracked on a signal (R138). -/
def Gnss.tracks (g : Gnss) (sys svid signal : Nat) : Bool :=
  g.channels.any fun c => c.locked ∧ c.sys = sys ∧ c.svid = svid ∧ c.signal = signal

/-- NAV_MESSAGE_DECODE: a data set or SBAS message decoded from a signal that is tracked, its parity or CRC right: the half-cycle
ambiguity is resolved, the stores are kept, and the set is delivered when new or changed (R111, R125, R138, R139, R184). -/
def execNavMessageDecode (t : Nat) (n : NavSet) (f : NavFacts) (s : State) : Result :=
  let s := s.tick t
  if s.unitHeld 0x30 ∨ s.gnss.rfTest.isSome then .next s
  else if svidValid n.sys n.svid = false ∨ signalOf n.sys n.signal = false ∨ s.gnss.tracks n.sys n.svid n.signal = false
      ∨ f.ok = false ∨ 3 < n.kind then .next s
  else
    let n := { n with rxMono := s.now }
    let fresh := s.gnss.navFresh n
    let s1 := s.keepNav n f
    let s2 : State :=
      { s1 with
        gnss.channels := s1.gnss.channels.map fun c =>
          if c.locked ∧ c.sys = n.sys ∧ c.svid = n.svid ∧ c.signal = n.signal then { c with halfCycle := false } else c }
    .next (if fresh then s2.deliverNav n else s2)

/-- The first moments of a new frame at the baseband: the repeat of a stored ephemeris, then the sets held for this frame (R139). -/
def State.ephNextFrame (s : State) : State :=
  let held := s.gnss.ephQueue.take 15
  let s1 : State := { s with gnss.ephQueue := s.gnss.ephQueue.drop 15, gnss.ephCount := held.length }
  let s2 := held.foldl (fun s n => s.sendNav n n.kind) s1
  match s2.gnss.store[s2.gnss.repeatAt % max 1 s2.gnss.store.length]? with
  | none => s2
  | some n => { s2 with gnss.repeatAt := (s2.gnss.repeatAt + 1) % s2.gnss.store.length }.sendNav n.set 4

/-- The latest SBAS message of the next type, where 15 sets leave room in the frame (R139). -/
def State.sbasRepeat (s : State) : Option NavSet :=
  if s.gnss.ephCount < 15 then s.gnss.sbas[s.gnss.sbasAt % max 1 s.gnss.sbas.length]? else none

/-- One chain changed. -/
def State.onChain (s : State) (ant chain : Nat) (f : RfChain → RfChain) : State :=
  { s with gnss.chains := s.gnss.chains.map fun c => if c.ant = ant ∧ c.chain = chain then f c else c }

/-- The chain of an antenna. -/
def State.chain? (s : State) (ant chain : Nat) : Option RfChain :=
  s.gnss.chains.find? fun c => c.ant = ant ∧ c.chain = chain

/-- New interference flags of a chain; a flag that sets raises event 0x1105, at most once per 60 s per chain (R151). -/
def State.setChainFlags (s : State) (ant chain : Nat) (flags : BitVec 4) : State :=
  match s.chain? ant chain with
  | none => s
  | some c =>
    let rose := flags &&& ~~~ c.flags ≠ 0
    let quiet :=
      match c.lastEvent with
      | none => true
      | some t0 => t0 + 60 * secNs ≤ s.now
    let told : Bool := decide rose && quiet
    let s := s.onChain ant chain fun c =>
      { c with flags := flags, lastEvent := if told then some s.now else c.lastEvent }
    s.raiseIf told 0x1105 [ant, chain, flags.toNat]

/-- A notch after a scan that found its line at a level in 0.01 dB above the floor, or did not find it. -/
def Notch.scan (n : Notch) (now : Nat) (lines : List (Nat × Int)) : Notch :=
  if n.engaged then
    match assoc lines n.line with
    | some lv => if lv < 1000 then { n with lowSince := some (n.lowSince.getD now) } else { n with lowSince := none }
    | none => { n with lowSince := some (n.lowSince.getD now) }
  else n

/-- The strongest line of 15 dB or more that no notch stands on; the first of equal ones (R150; DESIGN CHOICE, log 26). -/
def newLine (c : RfChain) (lines : List (Nat × Int)) : Option Nat :=
  let free := lines.filter fun l => decide (1500 ≤ l.2) && !(c.notch1.engaged && c.notch1.line = l.1)
    && !(c.notch2.engaged && c.notch2.line = l.1)
  (free.foldl (init := none) fun (best : Option (Nat × Int)) l =>
    match best with
    | none => some l
    | some b => if b.2 < l.2 then some l else some b).map Prod.fst

/-- One free notch engaged on a new line. -/
def RfChain.engage (c : RfChain) (lines : List (Nat × Int)) : RfChain :=
  match newLine c lines with
  | none => c
  | some l =>
    if c.notch1.engaged = false then { c with notch1 := { engaged := true, line := l, lowSince := none } }
    else if c.notch2.engaged = false then { c with notch2 := { engaged := true, line := l, lowSince := none } }
    else c

/-- The flags with the notch bits of a chain (R151). -/
def RfChain.notchFlags (c : RfChain) : BitVec 4 :=
  (c.flags &&& 0x9#4) ||| BitVec.ofNat 4 (2 * b2n c.notch1.engaged + 4 * b2n c.notch2.engaged)

/-- A scan of a chain is due: once per second (R150). -/
def RfChain.scanDue (c : RfChain) (now : Nat) : Bool :=
  match c.scanAt with
  | none => true
  | some t0 => t0 + secNs ≤ now

/-- The spectrum scan of a chain, made once per second while acquisition is idle (R150). -/
def execSpectrumScan (t ant chain : Nat) (lines : List (Nat × Int)) (s : State) : Result :=
  let s := s.tick t
  if s.unitHeld 0x30 then .next s else
  if s.gnss.engines ≠ [] ∨ s.gnss.rfTest.isSome ∨ ((s.chain? ant chain).any fun c => c.scanDue s.now) = false then .next s
  else
    let s := s.onChain ant chain fun c =>
      ({ c with scanAt := some s.now, notch1 := c.notch1.scan s.now lines, notch2 := c.notch2.scan s.now lines }.engage lines).engage lines
    match s.chain? ant chain with
    | none => .next s
    | some c => .next (s.setChainFlags ant chain c.notchFlags)

/-- A notch releases when its line has been below 10 dB for 10 s (R150). -/
def execNotchRelease (t ant chain notch : Nat) (s : State) : Result :=
  let s := s.tick t
  if s.unitHeld 0x30 then .next s else
  let rel (n : Notch) : Notch :=
    if n.engaged ∧ s.since n.lowSince (10 * secNs) then .reset else n
  let s := s.onChain ant chain fun c =>
    if notch = 1 then { c with notch1 := rel c.notch1 } else { c with notch2 := rel c.notch2 }
  match s.chain? ant chain with
  | none => .next s
  | some c => .next (s.setChainFlags ant chain c.notchFlags)

/-- Whether any SPOOF bit is set (R153). -/
def Gnss.anySpoof (g : Gnss) : Bool := g.spoof.any fun b => b.set

/-- The SPOOF word (R152). -/
def Gnss.spoofWord (g : Gnss) : Nat :=
  (g.spoof.zipIdx.map fun e => if e.1.set then 2 ^ e.2 else 0).sum

/-- Whether a set indicator implicates a satellite (R152). -/
def Gnss.implicates (g : Gnss) (v : Nat × Nat) : Bool := g.spoof.any fun b => b.set && b.sats.contains v

/-- An indicator clears 60 s after its condition was last met; the last one raises event 0x1107 (R152, R153). -/
def execSpoofIndicatorClear (t i : Nat) (s : State) : Result :=
  let s := s.tick t
  if s.unitHeld 0x30 then .next s else
  match s.gnss.spoof[i]? with
  | none => .next s
  | some b =>
    if b.set ∧ b.lastMet + 60 * secNs ≤ s.now then
      let s := { s with gnss.spoof := setAt s.gnss.spoof i fun b => { b with set := false, sats := [] } }
      .next (s.raiseIf (!s.gnss.anySpoof) 0x1107 [])
    else .next s

/-- Chain number of a signal code: 0 L1, 1 L2, 2 L5 (R109). -/
def signalChain (code : Nat) : Nat :=
  if [0x02, 0x11].contains code then 1 else if [0x03, 0x21, 0x22, 0x32].contains code then 2 else 0

/-- Signals with a pilot (R109, R125). -/
def hasPilot (code : Nat) : Bool := dataOnly code = false

/-- Carrier frequency of a signal in Hz; k is the GLONASS frequency channel (R109). -/
def carrierHz (code : Nat) (k : Int) : Int :=
  if code = 0x10 then 1602000000 + k * 562500
  else if code = 0x11 then 1246000000 + k * 437500
  else if code = 0x02 then 1227600000
  else if code = 0x22 then 1207140000
  else if code = 0x30 then 1561098000
  else if [0x03, 0x21, 0x32].contains code then 1176450000
  else 1575420000

/-- Nominal system time less TAI, s (R130). -/
def State.systemLess (s : State) (sys : Nat) : Int :=
  if sys = 3 then -33 else if sys = 1 then 10800 - s.taiMinusUtc else -19

/-- Module time at the strobe in the system time of a satellite, fs (R130). -/
def State.rxFs (s : State) (sys : Nat) : Int :=
  divRound (((s.frame.strobe : Int) * 4294967296 + s.time.offset) * 1000000) 4294967296 + s.systemLess sys * 10 ^ 15

/-- Cable delay of an antenna, 0.1 ns (R108). -/
def State.cableDelay (s : State) (ant : Nat) : Int := s.paramI (if ant = 0 then 0x11020001 else 0x11020002)

/-- The transmit time at the strobe: the one at the sample edge, taken back over the interval with the NCO rate (R128). -/
def ChanMeas.txAtStrobe (m : ChanMeas) (edge : Nat) : Int := m.txFs - divRound ((edge : Int) * (10 ^ 12 + m.txRate)) (10 ^ 12)

/-- The carrier NCO at the strobe, 2^-32 cycle: it grows with range and falls at the Doppler frequency (R128, R130). -/
def ChanMeas.carrierAtStrobe (m : ChanMeas) (edge : Nat) : Int :=
  m.carrier + divRound (m.doppler * edge * 4294967296) (10 ^ 18)

/-- The pseudorange c × (tRX − dANT − tTX), 0.1 mm (R130). -/
def State.pseudorange (s : State) (edge : Nat) (c : Channel) (m : ChanMeas) : Int :=
  divRound ((s.rxFs c.sys - s.cableDelay c.ant * 100000 - m.txAtStrobe edge) * 2997924580000) (10 ^ 15)

/-- Pseudorange over wavelength at the start of lock, in whole cycles, for a record whose carrier NCO has run since (R130; DEDUCED,
log 23: the first record after the start of lock fixes it). -/
def State.startCycles (s : State) (edge : Nat) (c : Channel) (m : ChanMeas) : Int :=
  divRound (s.pseudorange edge c m * carrierHz c.signal c.gloK * 4294967296 - m.carrierAtStrobe edge * 2997924580000)
    (2997924580000 * 4294967296)

/-- Carrier phase of a record, 2^-16 cycle (R130, R136). -/
def State.carrierPhase (s : State) (edge : Nat) (c : Channel) (m : ChanMeas) : Int :=
  c.cycles.getD (s.startCycles edge c m) * 65536 + divRound (m.carrierAtStrobe edge) 65536

/-- The measurement record of one channel (R130, R136). -/
def State.measRecord (s : State) (edge : Nat) (c : Channel) (m : ChanMeas) : List Byte :=
  let interf := (s.chain? c.ant (signalChain c.signal)).any fun ch => ch.flags ≠ 0
  let flags := 1 + 2 * b2n c.cpValid + 4 * b2n c.halfCycle + 8 * b2n c.slip + 16 * b2n m.dopplerValid
    + 32 * b2n (hasPilot c.signal) + 64 * b2n (s.navOk c.sys c.svid) + 128 * b2n (s.gnss.implicates (c.sys, c.svid))
    + 256 * b2n interf
  let lock := if c.stage = .pll then min 0xFFFFFFFF ((s.now - c.lockStart) / msNs) else 0
  le 1 c.sys ++ le 1 c.svid ++ le 1 c.signal ++ leInt 1 c.gloK ++ le 2 c.ch ++ le 2 flags ++ leInt 8 (s.pseudorange edge c m)
    ++ leInt 8 (s.carrierPhase edge c m) ++ leInt 4 m.doppler ++ le 2 m.cn0 ++ le 2 m.prSigma ++ le 4 lock ++ le 2 m.cpSigma
    ++ le 2 0

/-- Records are ordered by system, SVID, signal (R136). -/
def recordBefore (a b : Channel) : Bool :=
  a.sys < b.sys ∨ (a.sys = b.sys ∧ (a.svid < b.svid ∨ (a.svid = b.svid ∧ a.signal ≤ b.signal)))

/-- Insertion into an ordered list of records. -/
def insertRecord (x : Channel × ChanMeas) : List (Channel × ChanMeas) → List (Channel × ChanMeas)
  | [] => [x]
  | y :: ys => if recordBefore x.1 y.1 then x :: y :: ys else y :: insertRecord x ys

/-- The channels of an antenna that deliver a record at an epoch, in the order of their records (R118, R126, R129, R136). -/
def State.measured (s : State) (e : Epoch) (ant : Nat) : List (Channel × ChanMeas) :=
  e.meas.foldl (init := []) fun acc m =>
    if m.ant = ant ∧ m.kept then
      match s.channel? ant m.ch with
      | none => acc
      | some c =>
        if c.locked ∧ s.gnss.excluded.contains (c.sys, c.svid) = false then insertRecord (c, m) acc else acc
    else acc

/-- Records packed 24 to a sample, at most 8 samples (R136). -/
def packRecords : Nat → List (List Byte) → List (List Byte)
  | 0, _ => []
  | n + 1, rs => if rs = [] then [] else (rs.take 24).flatten :: packRecords n (rs.drop 24)

/-- CN0_HIGH of an antenna: its satellites above the plausibility limit, when there are 4 or more (R152). -/
def State.cn0High (s : State) (xs : List (Channel × ChanMeas)) : List (Nat × Nat) :=
  let sats := ((xs.filter fun x => s.paramN 0x11060001 * 100 < x.2.cn0).map fun x => (x.1.sys, x.1.svid)).eraseDups
  if 4 ≤ sats.length then sats else []

/-- The records of a chain at an epoch. -/
def chainRecords (xs : List (Channel × ChanMeas)) (chain : Nat) : List (Channel × ChanMeas) :=
  xs.filter fun x => signalChain x.1.signal = chain

/-- Mean C/N0 of some records, 0.01 dB-Hz (R151). -/
def meanCn0 (xs : List (Channel × ChanMeas)) : Option Int :=
  if xs.isEmpty then none else some (divRound ((xs.map fun x => (x.2.cn0 : Int)).foldl (· + ·) 0) xs.length)

/-- AGC_CN0 of a chain: within 10 s its gain has fallen by more than 3 dB while its mean C/N0 has risen by more than 3 dB (R152). -/
def RfChain.agcCn0 (c : RfChain) (now : Nat) : Bool :=
  match c.history with
  | [] => false
  | h :: old => old.any fun p => decide (now ≤ p.1 + 10 * secNs) && decide (300 < p.2.1 - h.2.1) && decide (300 < h.2.2 - p.2.2)

/-- Single differences of the carrier phases of the signals both antennas deliver, as fractions of a cycle in 2^-16, chain by chain
(R147, R152). -/
def State.singleDifferences (s : State) (edge : Nat) (xa xb : List (Channel × ChanMeas)) (chain : Nat) : List ((Nat × Nat) × Nat) :=
  (chainRecords xa chain).filterMap fun a =>
    if !a.1.cpValid then none
    else
      (xb.find? fun b => b.1.cpValid && decide (b.1.sys = a.1.sys ∧ b.1.svid = a.1.svid ∧ b.1.signal = a.1.signal)).map fun b =>
        ((a.1.sys, a.1.svid), ((s.carrierPhase edge b.1 b.2 - s.carrierPhase edge a.1 a.2) % 65536).toNat)

/-- All single differences of a chain, two or more, agree within 0.05 cycle (R152). -/
def allAgree (ds : List ((Nat × Nat) × Nat)) : Bool :=
  let near (a b : Nat) : Bool := let d := (a + 65536 - b) % 65536; decide (20 * min d (65536 - d) ≤ 65536)
  decide (2 ≤ (ds.map (·.1)).eraseDups.length) && ds.all fun x => ds.all fun y => near x.2 y.2

/-- DOA: satellites whose single differences show a residual above 0.25 cycle, when they are more than half of those that have one, or
those of a chain whose single differences all agree (R152). -/
def State.doaSats (s : State) (e : Epoch) (xa xb : List (Channel × ChanMeas)) : List (Nat × Nat) :=
  let all := (e.residuals.map fun r => (r.1, r.2.1)).eraseDups
  let off := ((e.residuals.filter fun r => 16384 < r.2.2).map fun r => (r.1, r.2.1)).eraseDups
  let byRes := if all.length < 2 * off.length then off else []
  let byDir := [0, 1, 2].flatMap fun ch =>
    let ds := s.singleDifferences e.edge xa xb ch
    if allAgree ds then ds.map (·.1) else []
  (byRes ++ byDir).eraseDups

/-- CLK_BIAS of a solution: its cable delay taken off (R108, R134). -/
def State.clkBiasOf (s : State) (e : Epoch) (antB : Bool) : Int := e.sol.clkBias - s.cableDelay (if antB then 1 else 0)

/-- The monotonic clock against GNSS-derived TAI, 0.1 ns: CLK_BIAS less the module-time offset (R152, R161). -/
def State.clkRefOf (s : State) (bias : Int) : Int := bias - s.time.offset * 10 / 4294967296

/-- CLOCK_JUMP: CLK_BIAS departs from its prediction over the OCXO by more than 300 ns, or CLK_DRIFT by more than 0.2 × 10^-6 (R152). -/
def State.clockJump (s : State) (bias drift : Int) : Bool :=
  match s.gnss.clkRef with
  | none => false
  | some r =>
    let dt : Int := (s.frame.strobe : Int) - s.gnss.clkAt
    let pred := r + divRound (s.gnss.clkDrift * dt) (10 ^ 11)
    decide (3000 < (s.clkRefOf bias - pred).natAbs) || decide (200000 < (drift - s.gnss.clkDrift).natAbs)

/-- The condition of an indicator at an epoch: whether it is met, and the satellites it implicates (R152). -/
structure SpoofFinding where
  met : Bool
  sats : List (Nat × Nat)

/-- An indicator after an epoch (R152). -/
def SpoofBit.take (b : SpoofBit) (f : SpoofFinding) (now : Nat) : SpoofBit :=
  if f.met then { set := true, lastMet := now, sats := (b.sats ++ f.sats).eraseDups } else b

/-- The findings of bits 0 to 5 at an epoch (R152). -/
def State.spoofFindings (s : State) (e : Epoch) (valid antB : Bool) (xa xb : List (Channel × ChanMeas)) : List SpoofFinding :=
  let of (sats : List (Nat × Nat)) : SpoofFinding := { met := !sats.isEmpty, sats := sats }
  let turned := s.gnss.chains.filter fun c => c.agcCn0 s.now
  let heard := turned.flatMap fun c => (chainRecords (if c.ant = 0 then xa else xb) c.chain).map fun x => (x.1.sys, x.1.svid)
  [of (s.cn0High xa ++ s.cn0High xb).eraseDups, { met := !turned.isEmpty, sats := heard.eraseDups }, of (s.doaSats e xa xb),
   { met := valid && s.clockJump (s.clkBiasOf e antB) e.sol.clkDrift, sats := [] }, of s.gnss.navdata,
   { met := valid && decide (500000 < e.sol.departure), sats := [] }]

/-- The spoofing indicators evaluated at an epoch: conditions met set their bit; a bit that sets raises event 0x1106 (R152, R153). -/
def State.evalSpoof (s : State) (fs : List SpoofFinding) : State :=
  let zs := s.gnss.spoof.zip fs
  let rose := zs.any fun p => p.2.met && !p.1.set
  let s1 : State := { s with gnss.spoof := zs.map fun p => p.1.take p.2 s.now, gnss.navdata := [] }
  s1.raiseIf rose 0x1106 [s1.gnss.spoofWord]

/-- A chain at an epoch: its gain, the mean C/N0 of its records, and both over the last 60 s (R151). -/
def RfChain.measure (c : RfChain) (now : Nat) (agc : Int) (mean : Option Int) : RfChain :=
  let old := c.history.filter fun p => now < p.1 + 60 * secNs
  let avg := divRound ((old.map fun p => p.2.2).foldl (· + ·) 0) old.length
  let drops : Bool :=
    match mean with
    | none => false
    | some m => !old.isEmpty && decide (600 ≤ avg - m)
  { c with
    agc := agc
    agcLowSince := if agc < -600 then some (c.agcLowSince.getD now) else none
    dropSince := if drops then some (c.dropSince.getD now) else none
    history :=
      match mean with
      | none => old
      | some m => (now, agc, m) :: old }

/-- AGC and C/N0 flags of a chain at an epoch (R151). -/
def State.evalChain (xa xb : List (Channel × ChanMeas)) (s : State) (m : ChainMeas) : State :=
  let mean := meanCn0 (chainRecords (if m.ant = 0 then xa else xb) m.chain)
  let s := s.onChain m.ant m.chain fun c => c.measure s.now m.agc mean
  match s.chain? m.ant m.chain with
  | none => s
  | some c =>
    let low : BitVec 4 := if s.since c.agcLowSince secNs then 1 else 0
    let drop : BitVec 4 := if s.since c.dropSince (5 * secNs) then 8 else 0
    s.setChainFlags m.ant m.chain ((c.notchFlags &&& 0x6#4) ||| low ||| drop)

/-- The antenna status sample (R135). -/
def State.antStatus (s : State) (ant n : Nat) : List Byte :=
  let a := s.gnss.antenna ant
  let agc (ch : Nat) : Int := ((s.chain? ant ch).map (·.agc)).getD 0
  let fl (ch : Nat) : Nat := ((s.chain? ant ch).map (·.flags.toNat)).getD 0
  le 1 ant ++ le 1 a.bias.code ++ le 2 a.current ++ leInt 2 (agc 0) ++ leInt 2 (agc 1) ++ leInt 2 (agc 2)
    ++ le 2 (fl 0 + 16 * fl 1 + 256 * fl 2) ++ le 2 n ++ le 2 0

/-- One section of an epoch whose samples all carry the latch instant (R133). -/
def epochSection (source t0 : Nat) (datas : List (List Byte)) : Section :=
  { source := source, samples := datas.map fun d => { arrival := t0, portTs := t0, sflags := 0, data := d } }

/-- Fewer than 4 satellites with a valid ephemeris (R134). -/
def State.noEph (s : State) : Bool := decide ((s.gnss.store.filter s.ephValid).length < 4)

/-- The epoch flags (R134). -/
def State.epochFlags (s : State) (sol : NavSolution) (stepped : Bool) : Nat :=
  b2n sol.valid + 2 * b2n s.gnss.restarting + 4 * b2n stepped + 8 * b2n (s.time.st = .holdover)
    + 16 * b2n s.noEph + 32 * b2n (s.gnss.antFault 0) + 64 * b2n (s.gnss.antFault 1)
    + 128 * b2n s.gnss.capacity + 256 * b2n (sol.kind = 2)

/-- The number of satellites with a record. -/
def satCount (xs : List (Channel × ChanMeas)) : Nat := ((xs.map fun x => (x.1.sys, x.1.svid)).eraseDups).length

/-- The time offset of a system and its source code: estimated with two satellites or more, else as broadcast, else none (R131, R134). -/
def Gnss.systemOffset (g : Gnss) (sys : Nat) (est : Nat × Int) : Int × Nat :=
  if 2 ≤ est.1 then (est.2, 1)
  else
    match assoc g.offsets sys with
    | some x => (x, 2)
    | none => (0, 0)

/-- The GNSS-NAV sample (R134). -/
def State.navSample (s : State) (sol : NavSolution) (bias : Int) (flags satA satB : Nat) : List Byte :=
  let gal := s.gnss.systemOffset 2 sol.gal
  let bds := s.gnss.systemOffset 3 sol.bds
  let glo := s.gnss.systemOffset 1 sol.glo
  le 2 1 ++ le 2 flags ++ le 1 sol.kind ++ le 1 sol.used ++ le 1 satA ++ le 1 satB ++ le 4 sol.lat
    ++ le 4 sol.lon ++ leInt 4 sol.height ++ leInt 4 bias ++ leInt 4 sol.clkDrift
    ++ leInt 4 gal.1 ++ leInt 4 bds.1 ++ leInt 4 glo.1 ++ le 2 sol.pdop
    ++ le 2 s.gnss.spoofWord ++ le 1 (gal.2 + 4 * bds.2 + 16 * glo.2) ++ le 3 0

/-- Slips the detector has found since the epoch before: the lock time restarts and the next record carries SLIP (R126, R155). -/
def State.slipLatch (s : State) (e : Epoch) : State :=
  e.meas.foldl (init := s) fun s m =>
    if m.slipSeen then
      match s.channel? m.ant m.ch with
      | none => s
      | some c => (s.onChannel m.ant m.ch fun c => { c with slip := true, lockStart := s.now }).count (ctrSlips c.signal)
    else s

/-- A channel that has delivered its record: it carries SLIP no longer, and its carrier phase keeps the cycles it started from. -/
def State.recordDone (s : State) (edge : Nat) (x : Channel × ChanMeas) : State :=
  s.onChannel x.1.ant x.1.ch fun c => { c with slip := false, cycles := some (x.1.cycles.getD (s.startCycles edge x.1 x.2)) }

/-- The loop parameters in force from a latch on (R124). -/
def State.loopNow (s : State) : List (Nat × Nat) :=
  signalCodes.flatMap fun c => [4, 6].map fun k => (0x11030000 + 256 * c + k, s.paramN (0x11030000 + 256 * c + k))

/-- A solution as the epoch carries it: none without a signal in lock, while the baseband restarts or in its self-test (R134, R154,
R157). -/
def NavSolution.carried (x : NavSolution) (can : Bool) : NavSolution :=
  let valid := x.valid && can
  if valid then { x with valid := true } else { x with valid := false, kind := 0, used := 0, gal := (0, 0), bds := (0, 0), glo := (0, 0) }

/-- The epoch latched at a strobe that the divider selects (R127 to R136, R151 to R156). With records of antenna B alone the solution
comes from antenna B (R154). -/
def State.latchEpoch (s : State) (e : Epoch) : State :=
  let s := s.slipLatch e
  let lock : Bool := s.gnss.anyLock 0 || s.gnss.anyLock 1
  let restarting : Bool := s.rst.bootFailed.contains 4 || (s.gnss.restarting && !lock)
  let quiet : Bool := restarting || s.gnss.rfTest.isSome
  let s : State := { s with gnss.restarting := restarting }
  let xa := if quiet then [] else s.measured e 0
  let xb := if quiet then [] else s.measured e 1
  let s := e.chains.foldl (State.evalChain xa xb) s
  let antB : Bool := xa.isEmpty && !xb.isEmpty
  let sol := e.sol.carried (lock && !quiet && (!xa.isEmpty || !xb.isEmpty))
  let bias := s.clkBiasOf e antB
  let s := s.evalSpoof (s.spoofFindings e sol.valid antB xa xb)
  let stepped : Bool := s.time.stepGen ≠ s.gnss.stepGenSeen
  let nav := s.navSample sol bias (s.epochFlags sol stepped) (satCount xa) (satCount xb)
  let recs (xs : List (Channel × ChanMeas)) : List (List Byte) := packRecords 8 (xs.map fun x => s.measRecord e.edge x.1 x.2)
  let sa := s.antStatus 0 xa.length
  let sb := s.antStatus 1 xb.length
  let ra := recs xa
  let rb := recs xb
  let back : Bool := s.gnss.lostAll && sol.valid
  let s := (xa ++ xb).foldl (fun s x => s.recordDone e.edge x) s
  let g := s.gnss
  let s : State :=
    { s with
      gnss.loop := s.loopNow
      gnss.latchAt := some s.frame.strobe
      gnss.stepGenSeen := s.time.stepGen
      gnss.clkBias := if sol.valid then bias else g.clkBias
      gnss.clkDrift := if sol.valid then sol.clkDrift else g.clkDrift
      gnss.clkRef := if sol.valid then some (s.clkRefOf bias) else g.clkRef
      gnss.clkAt := if sol.valid then s.frame.strobe else g.clkAt
      gnss.position := if sol.valid then some { lat := BitVec.toInt (BitVec.ofNat 32 sol.lat), lon := sol.lon, height := sol.height } else g.position
      gnss.positionKm := if sol.valid then 0 else g.positionKm
      gnss.solValid := sol.valid
      gnss.lostAll := s.gnss.lostAll && !back
      gnss.lastNav := nav
      gnss.lastAnt := [sa, sb]
      frame.gnssPending :=
        [epochSection 0x0100 s.frame.strobe [nav], epochSection 0x0101 s.frame.strobe (sa :: ra),
         epochSection 0x0102 s.frame.strobe (sb :: rb)] }
  s.raiseIf back 0x1104 []

/-- EPOCH_LATCH within a strobe: every d-th strobe latches an epoch (R127, R128). -/
def State.epochAtStrobe (s : State) (e : Option Epoch) : State :=
  let d := s.paramN 0x11010003
  let n := if d = s.gnss.divider then s.gnss.divCount + 1 else 1
  let due := n ≥ d
  let s := { s with gnss.divider := d, gnss.divCount := if due then 0 else n, frame.gnssPending := [] }
  match e with
  | some e => if due && !s.unitHeld 0x30 then s.latchEpoch e else s
  | none => s

/-- The late-epoch source number of an epoch source (R133). -/
def lateSource (n : Nat) : Nat := n + 8

/-- The section is not complete at t0 + 0.15 ms: the snapshot closes without it and the epoch enters the next one late (R80, R133). -/
def execGnssSectionLate (t : Nat) (s : State) : Result :=
  let s := s.tick t
  if s.frame.gnssPending = [] ∨ s.now < s.frame.strobe + 150 * usNs then .next s
  else
    let late := s.frame.gnssPending.map fun (x : Section) =>
      { x with source := lateSource x.source, samples := x.samples.map fun (p : Sample) => { p with arrival := s.now } }
    let s := { s with
      frame.gnssPending := []
      frame.building := s.frame.building ++ late
      frame.current := s.frame.current.map fun (c : Snapshot) => { c with flags := c.flags ||| 1#16 } }
    .next ((s.count ctrLateEpochs).raise 0x110A [s.frame.number.toNat])

end Sys2Proof.Machine
end

