-- ==== Sys2Proof/Machine/Sentences.lean ====
section
/-!
DEFINITION. The calendar of UTC and the sentences of Port 4 as characters (R12, R184, R193).
-/

namespace Sys2Proof.Machine

/-- Year, month and day of a day counted from 1 January 1970 in the Gregorian calendar. -/
def civilDate (day : Nat) : Nat × Nat × Nat :=
  let z := day + 719468
  let era := z / 146097
  let doe := z % 146097
  let yoe := (doe - doe / 1460 + doe / 36524 - doe / 146096) / 365
  let doy := doe - (365 * yoe + yoe / 4 - yoe / 100)
  let mp := (5 * doy + 2) / 153
  let m := if mp < 10 then mp + 3 else mp - 9
  (yoe + era * 400 + (if m ≤ 2 then 1 else 0), m, doy - (153 * mp + 2) / 5 + 1)

/-- The day, counted the same way, of the first of a month. -/
def firstOfMonth (year month : Nat) : Nat :=
  let y := if month ≤ 2 then year - 1 else year
  let mp := if 2 < month then month - 3 else month + 9
  let yoe := y % 400
  y / 400 * 146097 + yoe * 365 + yoe / 4 - yoe / 100 + (153 * mp + 2) / 5 - 719468

/-- The first day of the month after that of a day. -/
def nextMonth (day : Nat) : Nat :=
  let (y, m, _) := civilDate day
  if m = 12 then firstOfMonth (y + 1) 1 else firstOfMonth y (m + 1)

/-- n decimal digits of a number as characters. -/
def decDigits : Nat → Nat → List Byte
  | 0, _ => []
  | n + 1, v => decDigits n (v / 10) ++ [BitVec.ofNat 8 (0x30 + v % 10)]

/-- A natural number in decimal without leading zeros. -/
def decimal (v : Nat) : List Byte :=
  match (decDigits 20 v).dropWhile fun b => b = 0x30#8 with
  | [] => [0x30#8]
  | ds => ds

/-- An integer in decimal. -/
def decimalInt (v : Int) : List Byte := (if v < 0 then [0x2D#8] else []) ++ decimal v.natAbs

/-- n hexadecimal digits of a number as characters, capital letters. -/
def hexDigits : Nat → Nat → List Byte
  | 0, _ => []
  | n + 1, v =>
    let d := v % 16
    hexDigits n (v / 16) ++ [BitVec.ofNat 8 (if d < 10 then 0x30 + d else 0x37 + d)]

/-- Fields with commas between them. -/
def commas : List (List Byte) → List Byte
  | [] => []
  | [x] => x
  | x :: xs => x ++ [0x2C#8] ++ commas xs

/-- A sentence of IEC 61162-1: "$", the fields, "*", the XOR of what stands between as two hexadecimal digits, CR, LF. -/
def sentence (fields : List (List Byte)) : List Byte :=
  let body := commas fields
  [0x24#8] ++ body ++ [0x2A#8] ++ hexDigits 2 (body.foldl (· ^^^ ·) 0#8).toNat ++ [0x0D#8, 0x0A#8]

/-- "IIZDA". -/
def zdaName : List Byte := [0x49, 0x49, 0x5A, 0x44, 0x41].map (BitVec.ofNat 8)

/-- "PDOLT". -/
def pdoltName : List Byte := [0x50, 0x44, 0x4F, 0x4C, 0x54].map (BitVec.ofNat 8)

/-- $IIZDA of a UTC second counted from 1 January 1970, `inserted` for 23:59:60 of the day before (R193): hhmmss.00, day, month, year,
local zone 00,00; every field null without UTC (none). The layout of the fields is that of IEC 61162-1 (PRESUMED, log 107). -/
def zda (utc : Option (Nat × Bool)) : List Byte :=
  match utc with
  | none => sentence [zdaName, [], [], [], [], [], []]
  | some (s, inserted) =>
    let u := if inserted then s - 1 else s
    let sod := u % 86400
    let date := civilDate (u / 86400)
    let sec := if inserted then 60 else sod % 60
    sentence
      [ zdaName, decDigits 2 (sod / 3600) ++ decDigits 2 (sod / 60 % 60) ++ decDigits 2 sec ++ [0x2E#8, 0x30#8, 0x30#8],
        decDigits 2 date.2.2, decDigits 2 date.2.1, decDigits 4 date.1, decDigits 2 0, decDigits 2 0 ]

/-- $PDOLT: TAI seconds, TAI − UTC, the time status as 4 hexadecimal digits, the uncertainty in ns (R193). -/
def pdolt (tai : Nat) (taiUtc : Int) (tstatus uncertainty : Nat) : List Byte :=
  sentence [pdoltName, decimal tai, decimalInt taiUtc, hexDigits 4 tstatus, decimal uncertainty]

end Sys2Proof.Machine
end

