-- ==== Sys2Proof/Machine/Tables.lean ====
section
/-!
DEFINITION. The record tables of a bank (R608, R612) and the entries the lanes read from them.
-/

namespace Sys2Proof.Machine

/-- The key of a table. -/
def tableKey (u t : Nat) : Nat := u * 256 + t

/-- The entries of a table, indices rising. -/
def Bank.table (b : Bank) (u t : Nat) : List (Nat × List Byte) := (assoc b.tables (tableKey u t)).getD []

/-- An entry that has been written. -/
def Bank.entry? (b : Bank) (u t i : Nat) : Option (List Byte) := assoc (b.table u t) i

/-- A table replaced. -/
def Bank.setTable (b : Bank) (u t : Nat) (es : List (Nat × List Byte)) : Bank :=
  if es.isEmpty then { b with tables := assocErase b.tables (tableKey u t) }
  else { b with tables := assocSet b.tables (tableKey u t) es }

/-- An entry written. -/
def Bank.setEntry (b : Bank) (u t i : Nat) (bs : List Byte) : Bank :=
  b.setTable u t (assocSet (b.table u t) i bs)

/-- An entry of the active bank. -/
def State.entry? (s : State) (u t i : Nat) : Option (List Byte) := s.config.active.entry? u t i

/-- Every byte of an entry as an unsigned byte. -/
def u8 (bs : List Byte) (o : Nat) : Nat := field bs o 1

/-- A 16-bit field. -/
def u16 (bs : List Byte) (o : Nat) : Nat := field bs o 2

/-- A 32-bit field. -/
def u32 (bs : List Byte) (o : Nat) : Nat := field bs o 4

/-- A signed 32-bit field. -/
def i32 (bs : List Byte) (o : Nat) : Int := fieldInt bs o 4

/-- Whether an entry's own CRC, over the n bytes before it, is right. -/
def crcOk (bs : List Byte) (n : Nat) : Bool := u32 bs n = (crc32c (bs.take n)).toNat

/-- Whether a NAMUR input reads closed, from its loop current in µA (R419). -/
def namurReads (closed : Bool) (ua : Nat) : Bool := if 2100 ≤ ua then true else if ua ≤ 1200 then false else closed

/-- A line break or a line short of a NAMUR loop, from its current in µA (R419). -/
def namurFault (ua : Nat) : Bool := ua < 350 || 6000 < ua

/-- A reference entry (R207). -/
structure RefEntry where
  source : Nat
  cls : Nat
  leggett : Nat
  tests : Nat
  auto : Bool
  atStart : Bool
  track : Nat
  varFloor : Nat
  timeout : Nat
  freeze : Nat
  varLimit : Nat
  q : Nat
  depth : Int
deriving DecidableEq, Repr

/-- The fields of a reference entry. -/
def RefEntry.of (b : List Byte) : RefEntry :=
  { source := u16 b 0, cls := u8 b 2, leggett := u8 b 3, tests := u16 b 4, auto := bit (u16 b 6) 0,
    atStart := bit (u16 b 6) 1, track := u8 b 7, varFloor := u32 b 8, timeout := u32 b 12, freeze := u32 b 16,
    varLimit := u32 b 20, q := u32 b 24, depth := i32 b 28 }

/-- The entry of a reference in use. -/
def Bank.ref? (b : Bank) (i : Nat) : Option RefEntry :=
  match b.entry? 0x10 0x02 i with
  | none => none
  | some e => if u16 e 0 = 0xFFFF then none else some (RefEntry.of e)

/-- A Leggett entry (R214) with its mounting angles (R215). -/
structure Leggett where
  refine : Bool
  timeField : Bool
  armValid : Bool
  x : Int
  y : Int
  z : Int
  latencyUs : Int
  tsFactor : Nat
  rgen : Nat
  yaw : Nat
  pitch : Int
  roll : Int
deriving DecidableEq, Repr

/-- The mounting yaw, pitch and roll of an orientation quaternion (R215). -/
def mounting (w x y z : Int) : Nat × Int × Int :=
  let n := w * w + x * x + y * y + z * z
  let m11 := n - 2 * (y * y + z * z)
  let m12 := 2 * (x * y - w * z)
  let m21 := 2 * (x * y + w * z)
  let m22 := n - 2 * (x * x + z * z)
  let m31 := 2 * (x * z - w * y)
  let m32 := 2 * (y * z + w * x)
  let m33 := n - 2 * (x * x + y * y)
  let th := arcsinAngle (-m31) n.toNat
  if m31 = n ∨ m31 = -n then (direction m22 (-m12), th, 0)
  else (direction m11 m21, th, signed 32 (direction m33 m32))

/-- The fields of a Leggett entry; an invalid orientation is the identity, an invalid arm is zero. -/
def Leggett.of (b : List Byte) : Leggett :=
  let f := u16 b 2
  let m := if bit f 2 then mounting (i32 b 16) (i32 b 20) (i32 b 24) (i32 b 28) else (0, 0, 0)
  let arm (o : Nat) : Int := if bit f 1 then i32 b o else 0
  { refine := bit f 4, timeField := bit f 3, armValid := bit f 1, x := arm 4, y := arm 8, z := arm 12,
    latencyUs := i32 b 32, tsFactor := u16 b 36, rgen := u32 b 40, yaw := m.1, pitch := m.2.1, roll := m.2.2 }

/-- A Leggett entry of a sensor without one: no arm, no orientation, no latency, TS_FACTOR 64. -/
def Leggett.none : Leggett :=
  { refine := false, timeField := false, armValid := false, x := 0, y := 0, z := 0, latencyUs := 0, tsFactor := 64,
    rgen := 0, yaw := 0, pitch := 0, roll := 0 }

/-- The Leggett entry in use at an index. -/
def Bank.leggett (b : Bank) (i : Nat) : Leggett :=
  match b.entry? 0x10 0x03 i with
  | Option.none => .none
  | some e => if u16 e 0 = 0xFFFF ∨ bit (u16 e 2) 0 = false then .none else Leggett.of e

/-- An actuator entry (R347). -/
structure ActEntry where
  typ : Nat
  section_ : Nat
  polyN : Nat
  power : Bool
  derate : Bool
  angleFb : Bool
  x : Int
  y : Int
  dir : Nat
  tFwd : Nat
  tRev : Nat
  rateT : Nat
  rateDir : Nat
  liftMax : Nat
  wRel : Nat
  biasX : Int
  biasY : Int
  biasGroup : Nat
  fbSource : Nat
  forb : List (Nat × Nat)
  derV0 : Nat
  derV1 : Nat
  derF1 : Nat
  cmd1Tbl : Nat
  cmd2Tbl : Nat
  cmd1Unit : Nat
  fbTimeout : Nat
deriving DecidableEq, Repr

/-- The fields of an actuator entry. -/
def ActEntry.of (b : List Byte) : ActEntry :=
  let n := min 4 (u8 b 49)
  { typ := u8 b 0, section_ := u8 b 1, polyN := u8 b 2, power := bit (u8 b 3) 0, derate := bit (u8 b 3) 1,
    angleFb := bit (u8 b 3) 2, x := i32 b 4, y := i32 b 8, dir := u32 b 12, tFwd := u32 b 16, tRev := u32 b 20,
    rateT := u32 b 24, rateDir := u32 b 28, liftMax := u32 b 32, wRel := u32 b 36, biasX := i32 b 40,
    biasY := i32 b 44, biasGroup := u8 b 48, fbSource := u16 b 50,
    forb := (List.range n).map fun k => (u32 b (52 + 8 * k), u32 b (56 + 8 * k)),
    derV0 := u32 b 84, derV1 := u32 b 88, derF1 := u32 b 92, cmd1Tbl := u16 b 96, cmd2Tbl := u16 b 98,
    cmd1Unit := u8 b 100, fbTimeout := u16 b 102 }

/-- The entry of an actuator in use. -/
def Bank.act? (b : Bank) (i : Nat) : Option ActEntry :=
  match b.entry? 0x21 0x02 i with
  | none => none
  | some e => if u8 e 0 = 0xFF then none else some (ActEntry.of e)

/-- The actuators in use, in ascending number. -/
def Bank.acts (b : Bank) : List (Nat × ActEntry) :=
  (List.range 24).filterMap fun i => (b.act? i).map fun e => (i, e)

/-- The power model of an actuator: points (T_k, P_k) in N and W (R348). -/
def Bank.power (b : Bank) (act : Nat) : List (Nat × Nat) :=
  match (b.table 0x21 0x03).find? fun e => u8 e.2 0 = act with
  | none => []
  | some e => (List.range 9).map fun k => (u32 e.2 (4 + 4 * k), u32 e.2 (40 + 4 * k))

/-- P_LIMIT of section 1 to 4, kW (R349). -/
def Bank.pLimit (b : Bank) (sec : Nat) : Nat :=
  match b.entry? 0x21 0x04 (sec - 1) with
  | none => 0
  | some e => u32 e 0

/-- A consequence case entry (R353). -/
structure CaseEntry where
  enabled : Bool
  actMask : Nat
  secMask : Nat
  secLim : List Nat
deriving DecidableEq, Repr

/-- The case of a number. -/
def Bank.case? (b : Bank) (i : Nat) : Option CaseEntry :=
  match b.entry? 0x22 0x02 i with
  | none => none
  | some e => some { enabled := bit (u8 e 0) 0, actMask := u32 e 4, secMask := u8 e 8,
                     secLim := (List.range 4).map fun k => u32 e (12 + 4 * k) }

/-- Sections of a load-shed contact 0 or 1 (R367). -/
def Bank.shedSections (b : Bank) (c : Nat) : Nat :=
  match b.entry? 0x22 0x03 c with
  | none => 0
  | some e => u8 e 0

/-- KF and KC of a contact for an actuator, 65536 standing for exactly 1 under KEEP (R367, R368). -/
def Bank.shedFactors (b : Bank) (c act : Nat) : Nat × Nat :=
  match b.entry? 0x22 0x03 c with
  | none => (65536, 65536)
  | some e =>
    if bit (u32 e 100) act then (65536, 65536) else (u16 e (4 + 4 * act), u16 e (6 + 4 * act))

/-- A waypoint (R300). -/
structure Waypoint where
  lat : Int
  lon : Nat
  heading : Nat
  speed : Nat
  accept : Nat
  stop : Bool
deriving DecidableEq, Repr

/-- The waypoints of the route up to its end mark (R300). -/
def Bank.route (b : Bank) : List Waypoint :=
  let all := (List.range 64).map fun i => b.entry? 0x02 0x03 i
  let live := all.takeWhile fun e =>
    match e with
    | none => false
    | some e => i32 e 0 ≠ -2147483648
  live.filterMap fun e => e.map fun e =>
    { lat := i32 e 0, lon := u32 e 4, heading := u32 e 8, speed := u32 e 12, accept := u32 e 16,
      stop := bit (u16 e 20) 0 }

end Sys2Proof.Machine
end

