-- ==== Sys2Proof/Machine/Tracks.lean ====
section
/-!
DEFINITION. Sensor clocks, lever arms, measurements and tracks of fusion (R205 to R222, R4, R719, R720), as plain functions.
-/

namespace Sys2Proof.Machine

/-- µrad of a binary angle difference, rounded half up. -/
def toUrad (d : Int) : Int := divRound (d * 6283185307180) (4294967296 * 1000000)

/-- Binary angle LSB of an angle in µrad. -/
def ofUrad (u : Int) : Int := divRound (u * 4294967296 * 1000000) 6283185307180

/-- The whole second of a monotonic time. -/
def secOf (t : Nat) : Nat := t / secNs

/-- A bin minimum lowered by a δ, bins older than 120 s dropped (R209). -/
def ClockModel.learn (c : ClockModel) (port : Nat) (d : Int) : ClockModel :=
  let sec := secOf port
  let old := c.bins.filter fun b => b.1 + 120 > sec
  let bins :=
    match old.find? fun b => b.1 = sec with
    | some _ => old.map fun b => if b.1 = sec then (b.1, min b.2 d) else b
    | none => old ++ [(sec, d)]
  { bins := bins }

/-- The sums of the least-squares fit, times taken in ns from the newest bin: n, Σt, Σt², Σδ, Σtδ. -/
def ClockModel.sums (c : ClockModel) : Int × Int × Int × Int × Int :=
  let t0 : Int := ((c.bins.getLast?.map fun b => b.1).getD 0 : Nat)
  c.bins.foldl (fun a b =>
    let t : Int := ((b.1 : Int) - t0) * secNs
    (a.1 + 1, a.2.1 + t, a.2.2.1 + t * t, a.2.2.2.1 + b.2, a.2.2.2.2 + t * b.2)) (0, 0, 0, 0, 0)

/-- δfit at a monotonic time, as numerator and positive denominator (R209). -/
def ClockModel.fitRatio (c : ClockModel) (t : Int) : Int × Nat :=
  let (n, st, stt, sd, std) := c.sums
  let t0 : Int := ((c.bins.getLast?.map fun b => b.1).getD 0 : Nat) * secNs
  let det := n * stt - st * st
  if det ≤ 0 then (sd, if n = 0 then 1 else n.toNat)
  else ((sd * stt - st * std) + (n * std - st * sd) * (t - t0), det.toNat)

/-- δfit at a monotonic time, rounded half up. -/
def ClockModel.fit (c : ClockModel) (t : Int) : Int := let r := c.fitRatio t; divRound r.1 r.2

/-- Whether the rms residual of the fit is at most P/2, P in ns: 4 Σ r² ≤ n P² (R209, R210). -/
def ClockModel.rmsOk (c : ClockModel) (p : Nat) : Bool :=
  let q := c.bins.foldl (fun (a : Int × Nat) b =>
    let r := c.fitRatio ((b.1 : Int) * secNs)
    let e := b.2 * r.2 - r.1
    (a.1 + e * e, r.2)) (0, 1)
  decide (4 * q.1 ≤ (c.bins.length : Int) * (p * p) * ((q.2 : Int) * q.2))

/-- The bins of the last 120 s at a time (R209). -/
def ClockModel.recent (c : ClockModel) (now : Nat) : ClockModel := { bins := c.bins.filter fun b => secOf now < b.1 + 120 }

/-- GOOD: at least 30 bins in the last 120 s, rms residual at most P/2, δfit(now) at most P, P in ns (R210). -/
def ClockModel.good (c : ClockModel) (now p : Nat) : Bool :=
  let c := c.recent now
  decide (30 ≤ c.bins.length) && c.rmsOk p && decide ((c.fit now).natAbs ≤ p)

/-- Median of three. -/
def median3 (a b c : Int) : Int := max (min a b) (min (max a b) c)

/-- The three latest bins up to a second, when there are three. -/
def ClockModel.three (c : ClockModel) (upto : Nat) : Option Int :=
  match ((c.bins.filter fun b => b.1 ≤ upto).reverse).take 3 with
  | [a, b, d] => some (median3 a.2 b.2 d.2)
  | _ => none

/-- The CLOCK test fails: the medians 10 s apart differ by more than 3P, P in ns (R212). -/
def ClockModel.jumped (c : ClockModel) (p : Nat) : Bool :=
  match c.bins.getLast? with
  | none => false
  | some l =>
    if l.1 < 10 then false
    else
      match c.three l.1, c.three (l.1 - 10) with
      | some a, some b => decide (3 * p < (a - b).natAbs)
      | _, _ => false

/-- Every bin minimum moved by a step of module time, in ns (R213). -/
def ClockModel.shift (c : ClockModel) (d : Int) : ClockModel := { bins := c.bins.map fun b => (b.1, b.2 + d) }

/-- Apparent UTC time of day, in ns, turned into the nearest monotonic time about a port timestamp: how far the time field
lies before the timestamp (R209). `utc` is UTC at the port timestamp. -/
def todAge (utc : Int) (tod : Nat) : Int :=
  let day : Int := 86400 * secNs
  let d := (utc - tod) % day
  if d ≥ day / 2 then d - day else d

/-- Products of two and three Q1.30 factors, rounded once and twice (R217). -/
def mul2 (a b : Int) : Int := shrRound (a * b) 30

/-- Product of three factors. -/
def mul3 (a b c : Int) : Int := shrRound (mul2 a b * c) 30

/-- The rotation C from the vessel to the Earth frame, row by row (R216, R217). -/
def rotationC (psi : Nat) (theta phi : Int) : List (Int × Int × Int) :=
  let w (a : Int) : Nat := (a % 4294967296).toNat
  let cp := cosQ30 psi
  let sp := sinQ30 psi
  let ct := cosQ30 (w theta)
  let st := sinQ30 (w theta)
  let cf := cosQ30 (w phi)
  let sf := sinQ30 (w phi)
  [ (mul2 cp ct, mul3 cp st sf - mul2 sp cf, mul3 cp st cf + mul2 sp sf),
    (mul2 sp ct, mul3 sp st sf + mul2 cp cf, mul3 sp st cf - mul2 cp sf),
    (-st, mul2 ct sf, mul2 ct cf) ]

/-- One component of C × l: exact, shifted by 30 with rounding, saturated (R217). -/
def rowTimes (r : Int × Int × Int) (x y z : Int) : Int := sat32 (shrRound (r.1 * x + r.2.1 * y + r.2.2 * z) 30)

/-- The components of C × l before saturation (R217). -/
def leverExact (psi : Nat) (theta phi x y z : Int) : List Int :=
  (rotationC psi theta phi).map fun r => shrRound (r.1 * x + r.2.1 * y + r.2.2 * z) 30

/-- C × l as north, east, down. -/
def leverArm (psi : Nat) (theta phi x y z : Int) : Int × Int × Int :=
  match rotationC psi theta phi with
  | [a, b, c] => (rowTimes a x y z, rowTimes b x y z, rowTimes c x y z)
  | _ => (0, 0, 0)

/-- Linear interpolation between two values at two times. -/
def lerp (ta tb : Nat) (a d : Int) (t : Int) : Int :=
  if tb ≤ ta then a else a + divRound (d * (t - ta)) (tb - ta)

/-- Heading, pitch and roll at a time, between the sub-frames that bracket it (R216); outside them the nearest one; before any
sub-frame the values given. -/
def attitudeAt (as_ : List Attitude) (dflt : Nat × Int × Int) (t : Int) : Nat × Int × Int :=
  let before := as_.find? fun a => (a.time : Int) ≤ t
  let after := (as_.filter fun a => t < a.time).getLast?
  match before, after with
  | some a, some b =>
    (angleAdd a.heading (lerp a.time b.time 0 (angleDiff b.heading a.heading) t),
     lerp a.time b.time a.pitch (wrap32 (b.pitch - a.pitch)) t,
     lerp a.time b.time a.roll (wrap32 (b.roll - a.roll)) t)
  | some a, none => (a.heading, a.pitch, a.roll)
  | none, some b => (b.heading, b.pitch, b.roll)
  | none, none => dflt

/-- One correction of a geodetic guess towards a position given in the Earth frame. -/
def geoRefine (o : Geodetic) (n e : Int) (g : Geodetic) : Geodetic :=
  let r := toEarth o g
  let dn := n - r.1
  let de := e - r.2.1
  let scale : Int := 4294967296 * 1000
  let lat := g.lat + divRound (dn * scale) (400750172 * 1000 * 1000)
  let c := max (cosQ30 (g.lat % 4294967296).toNat) 1000
  let lon := (g.lon : Int) + divRound (de * scale * 1073741824) (400750172 * 1000 * 1000 * c.toNat)
  { g with lat := lat, lon := (lon % 4294967296).toNat }

/-- The geodetic position of a point of the Earth frame, to the resolution of its fields, at a given height. -/
def fromEarth (o : Geodetic) (n e h : Int) : Geodetic :=
  geoRefine o n e (geoRefine o n e (geoRefine o n e (geoRefine o n e { o with height := h })))

/-- Covariance after a prediction over dt ns with process noise q (R219); each term rounded half up once. -/
def Cov.predict (c : Cov) (q dt : Int) : Cov :=
  let s : Int := secNs
  { pp := c.pp + divRound (2 * c.pv * dt * s * s * 3 + c.vv * dt * dt * s * 3 + q * dt * dt * dt) (secNs * secNs * secNs * 3)
    pv := c.pv + divRound (2 * c.vv * dt * s + q * dt * dt) (secNs * secNs * 2)
    vv := c.vv + divRound (q * dt) secNs }

/-- Covariance after an update with measurement variance v. -/
def Cov.update (c : Cov) (v : Int) : Cov :=
  let s := (max 1 (c.pp + v)).toNat
  { pp := divRound (c.pp * v) s, pv := divRound (c.pv * v) s, vv := c.vv - divRound (c.pv * c.pv) s }

/-- What a track measures: positions in 0.1 mm with rates in µm/s, angles with rates in LSB/s, or filtered components. -/
inductive TrackKind where
  | position
  | angle
  | filter
deriving DecidableEq, Repr

/-- A value moved on by its rate over dt ns. -/
def coast (k : TrackKind) (a va dt : Int) : Int :=
  match k with
  | .position => a + divRound (va * dt) (secNs * 100)
  | .angle => (a + divRound (va * dt) secNs) % 4294967296
  | .filter => a

/-- A track predicted to a time; it never goes back (R219, R220). -/
def Track.predict (k : TrackKind) (q : Nat) (x : Track) (t : Int) : Track :=
  let dt := t - x.time
  if dt ≤ 0 then x
  else
    { time := t, a := coast k x.a x.va dt, b := coast k x.b x.vb dt, va := x.va, vb := x.vb,
      ca := x.ca.predict q dt, cb := x.cb.predict q dt }

/-- The innovation in the track's own units. -/
def innovation (k : TrackKind) (z a : Int) : Int :=
  match k with
  | .angle => wrap32 (z - a)
  | _ => z - a

/-- The innovation in the units of the covariance: µm or µrad. -/
def innovUnits (k : TrackKind) (v : Int) : Int :=
  match k with
  | .position => v * 100
  | .angle => toUrad v
  | .filter => v

/-- One axis updated: value and rate. -/
def updateAxis (k : TrackKind) (c : Cov) (v nu a va : Int) : Int × Int :=
  let s := (max 1 (c.pp + v)).toNat
  let a' := a + divRound (c.pp * nu) s
  match k with
  | .position => (a', va + divRound (c.pv * nu * 100) s)
  | .angle => (a' % 4294967296, va + divRound (c.pv * nu) s)
  | .filter => (a', va)

/-- A track updated with a measurement of variance v (µm² or µrad²). -/
def Track.update (k : TrackKind) (x : Track) (za zb v : Int) : Track :=
  let ra := updateAxis k x.ca v (innovation k za x.a) x.a x.va
  let rb := updateAxis k x.cb v (innovation k zb x.b) x.b x.vb
  { x with a := ra.1, va := ra.2, b := rb.1, vb := rb.2, ca := x.ca.update v, cb := x.cb.update v }

/-- The wind filter of time constant 2 s: a step towards the sample over dt ns (R219). -/
def filterStep (dt a z : Int) : Int :=
  if dt ≤ 0 then a else a + divRound ((z - a) * dt) (dt + 2 * secNs).toNat

/-- A track started from a sample (R221). -/
def Track.start (t za zb v vmax : Int) : Track :=
  let c : Cov := { pp := v, pv := 0, vv := vmax * vmax }
  { time := t, a := za, b := zb, va := 0, vb := 0, ca := c, cb := c }

/-- d² > G with G in 0.01 units: the sum of ν²/S over the axes (R223). -/
def innovFails (k : TrackKind) (x : Track) (za zb v : Int) (g : Nat) : Bool :=
  let na := innovUnits k (innovation k za x.a)
  let nb := innovUnits k (innovation k zb x.b)
  let sa := max 1 (x.ca.pp + v)
  let sb := max 1 (x.cb.pp + v)
  match k with
  | .position => decide ((g : Int) * sa * sb < 100 * (na * na * sb + nb * nb * sa))
  | _ => decide ((g : Int) * sa < 100 * (na * na))

/-- Range and direction as north and east, each rounded once. -/
def polarNE (range : Int) (a : Nat) : Int × Int := (shrRound (range * cosQ30 a) 30, shrRound (range * sinQ30 a) 30)

/-- h × tan α, rounded half up (R206). -/
def timesTan (h : Int) (a : Int) : Int :=
  let w := (a % 4294967296).toNat
  let c := cosAngle w
  let s := sinAngle w
  if c = 0 then 0 else if 0 < c then divRound (h * s) c.toNat else divRound (-(h * s)) (-c).toNat

end Sys2Proof.Machine
end

