-- ==== Sys2Proof/Machine/TimeUnit.lean ====
section
/-!
DEFINITION. Module time: sources, servo, holdover, steps, leap seconds, PTP, the pulse and the host copy (R160 to R200).
Offset errors are in 0.1 ns, positive when module time is ahead.
-/

namespace Sys2Proof.Machine

/-- Counter of transmit timestamps dropped at a port (R191). -/
def ctrTxDropped (port : Nat) : Nat := 0x12F00010 + port

/-- A source by its SOURCE code (R163, R166). -/
def TimeUnit.src (u : TimeUnit) (n : Nat) : TimeSource :=
  if n = 1 then u.gnss else if n = 2 then u.ptp1Src else u.ptp2Src

/-- A source written. -/
def TimeUnit.setSrc (u : TimeUnit) (n : Nat) (x : TimeSource) : TimeUnit :=
  if n = 1 then { u with gnss := x } else if n = 2 then { u with ptp1Src := x } else { u with ptp2Src := x }

/-- A PTP instance, 2 PTP-1 and 3 PTP-2. -/
def TimeUnit.ptp (u : TimeUnit) (n : Nat) : Ptp := if n = 2 then u.ptp1 else u.ptp2

/-- A PTP instance written. -/
def TimeUnit.setPtp (u : TimeUnit) (n : Nat) (x : Ptp) : TimeUnit :=
  if n = 2 then { u with ptp1 := x } else { u with ptp2 := x }

/-- The parameter base of a PTP instance (R188). -/
def ptpBase (n : Nat) : Nat := if n = 2 then 0x12020000 else 0x12030000

/-- Whether a source delivers a valid measurement (R153, R166). -/
def State.sourceValid (s : State) (n : Nat) : Bool :=
  if n = 1 then s.gnss.solValid && !s.gnss.anySpoof
  else
    let p := s.time.ptp n
    match p.st, p.master, p.offset with
    | .slave, some m, some _ => decide (m.clockClass ≤ s.paramN (ptpBase n + 12))
    | _, _, _ => false

/-- The offset a source measures (R166). -/
def State.sourceOffset (s : State) (n : Nat) : Int :=
  if n = 1 then s.gnss.clkBias else (s.time.ptp n).offset.getD 0

/-- Qualification limit (R166). -/
def qualLimit (n : Nat) : Int := if n = 1 then 1000 else 10000

/-- The priority list (R167, R199). -/
def State.priority (s : State) : List Nat :=
  let v := s.paramN 0x12010007
  [v % 16, v / 16 % 16, v / 256 % 16]

/-- Rank of a source in the priority list; a smaller rank is a higher priority. -/
def State.rank (s : State) (n : Nat) : Nat := (s.priority.findIdx? (· = n)).getD 9

/-- The first qualified source of the priority list (R167). -/
def State.firstQualified (s : State) : Option Nat := s.priority.find? fun n => (s.time.src n).qualified

/-- The step threshold in 0.1 ns (R176). -/
def State.stepThreshold (s : State) : Int := s.paramN 0x12010001 * 10

/-- Uncertainty of holdover after t ns (R174), rounded up to a whole ns. -/
def holdoverUncertainty (u0 y0 dT t : Nat) : Nat :=
  u0 + (y0 * t * 10 ^ 13 + 58 * t * t + 2 * dT * t * 10 ^ 12 + (10 ^ 25 - 1)) / 10 ^ 25

/-- The error of a source against module time now, 0.1 ns: its latest measurement, and what slews and steps have changed since (R168). -/
def State.errorOf (s : State) (n : Nat) : Int :=
  let x := s.time.src n
  x.e + divRound ((s.time.offset - x.base) * 10) 4294967296

/-- What the servo has not corrected yet, in ns rounded up (R165): the error of a pending step, or what is left to slew. -/
def State.residual (s : State) : Nat :=
  match s.time.pending with
  | some p => (p.e.natAbs + 9) / 10
  | none => (s.time.slewLeft.natAbs + 4294967295) / 4294967296

/-- The uncertainty that accompanies module time (R165, R174, R198); 0xFFFF_FFFF is unknown. -/
def State.uncertainty (s : State) : Nat :=
  min 0xFFFFFFFF <|
    match s.time.st with
    | .locked => (s.time.src s.time.source).unc + s.residual
    | .holdover =>
      match s.time.hold with
      | some h => holdoverUncertainty h.u0 (s.paramN 0x1201000B) h.dT (s.now - h.entry)
      | none => 0xFFFFFFFF
    | .freeRun => s.time.startUnc.getD 0xFFFFFFFF
    | .unsynchronised =>
      if s.time.source = 4 then s.time.operatorUnc else Config.unsyncUncertainty s.now

/-- The state a return of a source leads to: LOCKED, unless the OCXO has failed or the source is the operator (R172, R176, R183). -/
def State.settled (s : State) : State :=
  if s.time.ocxoFail ∨ s.time.source = 4 then { s with time.st := .unsynchronised }
  else { s with time.st := .locked, time.hold := none }

/-- The event of a time state entered from another (R200). -/
def State.tellState (s : State) (old : TimeState) : State :=
  if s.time.st = old then s
  else
    match s.time.st with
    | .locked => s.raise 0x120C []
    | .unsynchronised => s.raise 0x1203 []
    | _ => s

/-- LOCKED entered, as far as R172 and R183 let it. -/
def State.enterLocked (s : State) : State := s.settled.tellState s.time.st

/-- A slew of the error e begins (R176): SLEWING stays set until the error is below 20 ns. -/
def State.slew (s : State) (e : Int) : State :=
  { s with time.slewLeft := -e * 4294967296 / 10, time.slewing := decide (200 ≤ e.natAbs) }

/-- An error met on selection of a source (R176, R177, R182). -/
def State.meetError (s : State) (e : Int) : State :=
  if s.time.st = .freeRun ∧ s.time.source ≠ 4 then
    { s with time.pending := some { e := e, announced := false, pulses := 0, confirmed := true, lowSince := none } }
  else if (e.natAbs : Int) ≤ s.stepThreshold then (s.slew e).enterLocked
  else
    { s with time.pending := some { e := e, announced := true, pulses := 0, confirmed := false, lowSince := none } }.raise
      0x1204 [e.natAbs]

/-- A source selected: no movement of module time, a pending step cancelled, the new offset met (R168, R176). -/
def State.selectSource (s : State) (n : Nat) : State :=
  let changed := s.time.source ≠ n
  let s := { s with time.source := n, time.pending := none, time.slewing := false, time.slewLeft := 0 }
  let s := s.raiseIf changed 0x1201 [n]
  s.meetError (s.errorOf n)

/-- The last qualified source lost (R171, R173, R181). -/
def State.loseSource (s : State) : State :=
  let u := s.uncertainty
  let s := { s with time.source := 0, time.pending := none, time.slewing := false, time.slewLeft := 0 }.raise 0x1201 [0]
  if s.time.st = .locked then
    if s.time.warming then { s with time.st := .unsynchronised }.raise 0x1203 []
    else
      { s with
        time.st := .holdover
        time.hold := some { entry := s.now, u0 := u, temp0 := s.baseTemp, dT := 0 } }.raise 0x1202 []
  else if s.time.st = .holdover ∧ s.time.warming then
    { s with time.st := .unsynchronised }.raise 0x1203 []
  else s

/-- The selected source is no longer one: the next qualified source of the list is selected at once (R167). -/
def State.leaveSource (s : State) : State :=
  match s.firstQualified with
  | some m => s.selectSource m
  | none => s.loseSource

/-- The run of valid measurements of a source with one more (R166). -/
def TimeSource.measure (x : TimeSource) (n now : Nat) (e base : Int) (unc : Nat) : TimeSource :=
  let lo := min x.minE e
  let hi := max x.maxE e
  if !x.valid then { x with valid := true, validSince := now, minE := e, maxE := e, e := e, base := base, unc := unc }
  else
  let x := { x with e := e, base := base, unc := unc }
  if x.qualified then x
  else if qualLimit n < hi - lo then
    { x with validSince := now, minE := e, maxE := e }
  else { x with minE := lo, maxE := hi }

/-- The selected source's new error: a pending step follows it, otherwise the residual is slewed (R176, R177, R181). -/
def State.follow (s : State) (e : Int) : State :=
  match s.time.pending with
  | some p =>
    let low := if (e.natAbs : Int) ≤ s.stepThreshold then some (p.lowSince.getD s.now) else none
    { s with time.pending := some { p with e := e, lowSince := low } }
  | none =>
    { s with
      time.slewLeft := -e * 4294967296 / 10
      time.slewing := s.time.slewing && decide (200 ≤ e.natAbs) }

/-- Two qualified sources that differ by more than the conflict limit (R169). -/
def State.conflicting (s : State) : Bool :=
  let lim : Int := s.paramN 0x12010009 * 10
  [(1, 2), (1, 3), (2, 3)].any fun (a, b) =>
    (s.time.src a).qualified && (s.time.src b).qualified
      && decide (lim < ((s.errorOf a - s.errorOf b).natAbs : Int))

/-- The conflict timer kept up to date (R169). -/
def State.watchConflict (s : State) : State :=
  if s.conflicting then { s with time.conflictSince := some (s.time.conflictSince.getD s.now) }
  else { s with time.conflictSince := none, time.conflictTold := false }

/-- A source disqualified (R166, R167, R169). -/
def State.disqualify (s : State) (n : Nat) : State :=
  let s1 := { s with time := s.time.setSrc n { s.time.src n with valid := false, qualified := false } }
  (if s.time.source = n then s1.leaveSource else s1).watchConflict

/-- Every source whose measurements are no longer valid is disqualified: a SPOOF bit, SOL_VALID clear, an instance that has left SLAVE,
a grandmaster beyond the class limit (R153, R166). -/
def State.checkSources (s : State) : State :=
  [1, 2, 3].foldl (fun s n => if (s.time.src n).valid && !s.sourceValid n then s.disqualify n else s) s

/-- All three sources restart unqualified with a reset of Warm reach: their measurements end together, and a selected one is lost
(R162, R166, R173). -/
def State.sourcesLost (s : State) : State :=
  let s1 : State :=
    { s with
      time.gnss := .reset
      time.ptp1Src := .reset
      time.ptp2Src := .reset }
  if 1 ≤ s.time.source ∧ s.time.source ≤ 3 then s1.loseSource else s1

/-- The servo takes an error of the selected source: it steers the OCXO, and while it warms up the frequency of the offset too,
both by amounts no rule states; after a loss of the OCXO it does not (R170, R171, R172). -/
def State.servo (s : State) (e : Int) : State :=
  let tc := s.paramN 0x12010006
  if s.time.ocxoFail then s
  else
    { s with
      time.ocxoWord := Config.ocxoSteer s.time.ocxoWord e tc s.now
      time.offsetRate := if s.time.warming then Config.offsetSteer s.time.offsetRate e tc s.now else s.time.offsetRate }

/-- An offset measurement of source n with the source's own uncertainty in ns (R166, R168, R170, R177). -/
def execTimeOffsetMeasurement (t n unc : Nat) (s : State) : Result :=
  let s := (s.tick t).checkSources
  if n < 1 ∨ 3 < n ∨ s.sourceValid n = false then .next s
  else
    let e := s.sourceOffset n
    let s := { s with time := s.time.setSrc n ((s.time.src n).measure n s.now e s.time.offset unc) }
    .next (if s.time.source = n then (s.follow e).servo e else s).watchConflict

/-- A source becomes qualified after 10 s of valid measurements within its limit (R166); when no source or the operator is selected, it is
selected at once if the priority list names it (R167, R183). -/
def execSourceQualified (t n : Nat) (s : State) : Result :=
  let s := (s.tick t).checkSources
  let x := s.time.src n
  if n < 1 ∨ 3 < n then .next s
  else if x.valid ∧ x.qualified = false ∧ x.validSince + 10 * secNs ≤ s.now ∧ x.maxE - x.minE ≤ qualLimit n then
    let s := { s with time := s.time.setSrc n { x with qualified := true, qualSince := s.now } }
    let s := if (s.time.source = 0 ∨ s.time.source = 4) ∧ n ∈ s.priority then s.selectSource n else s
    .next s.watchConflict
  else .next s

/-- After the revert delay a qualified source of higher priority is selected (R167). -/
def execRevertDelayExpiry (t n : Nat) (s : State) : Result :=
  let s := (s.tick t).checkSources
  let x := s.time.src n
  if 1 ≤ n ∧ n ≤ 3 ∧ x.qualified ∧ s.time.source ≠ 0 ∧ s.rank n < s.rank s.time.source
      ∧ x.qualSince + s.paramN 0x12010008 * secNs ≤ s.now then .next (s.selectSource n)
  else .next s

/-- Two qualified sources have differed for 10 s: event 0x120A once per episode (R169). -/
def execSourceConflict (t : Nat) (s : State) : Result :=
  let s := (s.tick t).checkSources.watchConflict
  if s.time.conflictTold = false ∧ s.since s.time.conflictSince (10 * secNs) then
    .next ({ s with time.conflictTold := true }.raise 0x120A [])
  else .next s

/-- The holdover limit is reached (R175). -/
def execHoldoverLimit (t : Nat) (s : State) : Result :=
  let s := s.tick t
  match s.time.st, s.time.hold with
  | .holdover, some h =>
    if h.entry + s.paramN 0x12010004 * secNs ≤ s.now then
      .next ({ s with time.st := .unsynchronised }.raise 0x1203 [])
    else .next s
  | _, _ => .next s

/-- The OCXO reaches specification (R171). -/
def execOcxoWarmupComplete (t : Nat) (s : State) : Result :=
  let s := s.tick t
  if s.time.warming then .next ({ s with time.warming := false, time.offsetRate := 0 }.raise 0x1208 []) else .next s

/-- Loss of the OCXO: OCXO_FAIL and UNSYNCHRONISED until the next power-on (R63, R172). -/
def execOcxoFailure (t : Nat) (s : State) : Result :=
  let s := s.tick t
  if s.time.ocxoFail then .next s
  else
    let told := s.time.st ≠ .unsynchronised
    let s := { s with time.ocxoFail := true, time.offsetRate := 0, time.st := .unsynchronised }.raise 0x1207 []
    .next (s.raiseIf told 0x1203 [])

/-- A step cancelled because the error stayed at or below the threshold for 2 s; the module slews (R181). -/
def execStepCancel (t : Nat) (s : State) : Result :=
  let s := (s.tick t).checkSources
  match s.time.pending with
  | some p =>
    if p.announced ∧ s.since p.lowSince (2 * secNs) then
      .next (({ s with time.pending := none }.slew p.e).enterLocked)
    else .next s
  | none => .next s

/-- The time-step record (R633). -/
def timeStepPayload (oldS oldNs newS newNs cause oldStatus : Nat) : List Byte :=
  le 6 oldS ++ le 4 oldNs ++ le 6 newS ++ le 4 newNs ++ le 1 cause ++ le 1 0 ++ le 2 oldStatus

/-- Every clock model of a lane takes a step of module time, in ns (R213). -/
def Core.stepClocks (c : Core) (d : Int) : Core :=
  let shift (f : Fusion) : Fusion := { f with refs := f.refs.map fun (r : RefState) => { r with clock := r.clock.shift d } }
  { c with fusion := shift c.fusion, rewind := c.rewind.map fun (e : RewindEntry) => { e with fusion := shift e.fusion } }

/-- The same of what a lane computes from and of what it may restore. -/
def Lane.stepClocks (x : Lane) (d : Int) : Lane := { x with core := x.core.stepClocks d, saved := x.saved.stepClocks d }

/-- A module-time offset as its signed 96 bits hold it; one they cannot hold is a free value (R161, log 108). -/
def offset96 (x : Int) : Int :=
  if -(2 ^ 95) ≤ x ∧ x < 2 ^ 95 then x else (Config.offsetBeyond x).toInt

/-- A PTP instance's latest offset against module time after a step of e (R183). -/
def Ptp.stepped (p : Ptp) (e : Int) : Ptp := { p with offset := p.offset.map fun o => o - e }

/-- Module time after a step of the error e, with everything that was measured against the old time (R168, R178, R183, R213). -/
def State.stepOffset (s : State) (e : Int) : State :=
  let d := divRound (-e) 10
  { s with
    laneA := s.laneA.stepClocks d
    laneB := s.laneB.stepClocks d
    gnss.clkBias := s.gnss.clkBias - e
    time.ptp1 := s.time.ptp1.stepped e
    time.ptp2 := s.time.ptp2.stepped e
    time.offset := offset96 (s.time.offset - e * 4294967296 / 10)
    time.stepGen := !s.time.stepGen
    time.lastStep := some s.now
    time.pending := none
    time.slewing := false
    time.slewLeft := 0 }

/-- The step itself: the new time and state, the time-step record, then event 0x1205 and that of the state entered (R178, R179, R182,
R183, R632). -/
def State.makeStep (s : State) (e : Int) (cause : Nat) : State :=
  let s1 := (s.stepOffset e).settled
  let s2 := s1.record 0x60F0 2 (timeStepPayload s.taiS s.taiNs s1.taiS s1.taiNs cause s.timeStatus.toNat)
  (s2.raise 0x1205 []).tellState s.time.st

/-- Whether a pending step is due at the coming pulse boundary (R177, R180, R182). -/
def State.stepDue (s : State) (p : PendingStep) : Bool :=
  !p.announced || (decide (2 ≤ p.pulses) && (decide (s.paramN 0x12010003 = 0) || p.confirmed))

/-- TAI − UTC of a TAI second: an announced leap counts from the second after an inserted one, or from the one left out (R184, R193). -/
def State.taiMinusUtcAt (s : State) (sec : Nat) : Int :=
  s.taiMinusUtc + (if s.time.leap ≠ 0 ∧ (s.time.leapStart : Int) + s.time.leap ≤ sec then s.time.leap else 0)

/-- The UTC second of a TAI second, and whether it is 23:59:60 (R193). -/
def State.utcOf (s : State) (sec : Nat) : Nat × Bool :=
  (((sec : Int) - s.taiMinusUtcAt sec).toNat, decide (s.time.leap = 1 ∧ sec = s.time.leapStart))

/-- What the time-of-day sentences show of a second: TAI − UTC and UTC_VALID; alone, the host side has the latest label's (R196). -/
def State.portUtc (s : State) (sec : Nat) : Int × Bool :=
  let h := s.time.host
  match h.alone, h.label with
  | true, some l => (l.utc, l.tstatus.getLsbD 11)
  | true, none => (s.paramN 0x1201000A, false)
  | false, _ => (s.taiMinusUtcAt sec, s.time.utcValid)

/-- Port 4 after a pulse that began a second (R192, R193): the width of the pulse and the enabled sentences. -/
def State.timeOfDay (s : State) (sec edge : Nat) : TimeOfDay :=
  let en := s.paramN 0x12050004
  let u := s.portUtc sec
  let utcSec : Nat × Bool := if s.time.host.alone then (((sec : Int) - u.1).toNat, false) else s.utcOf sec
  let unc := if s.time.host.alone then Config.unsyncUncertainty s.now else s.uncertainty
  { edge := edge - s.paramN 0x12050002
    width := s.paramN 0x12050001
    taiS := sec
    utc := u.1
    tstatus := s.hostTimeStatus
    uncertainty := unc
    bitRate := s.paramN 0x12050003
    text := (if bit en 0 then zda (if u.2 then some utcSec else none) else [])
      ++ (if bit en 1 then pdolt sec u.1 s.hostTimeStatus.toNat unc else []) }

/-- The first whole second at least 0.5 s after a time in ns: where the pulse after a step falls (R178). -/
def pulseAfterStep (ns : Int) : Nat := ((ns + 1499999999) / 1000000000).toNat

/-- The host copy takes module time as it stands, unless it gets no marks (R195). -/
def State.hostFollows (s : State) : State :=
  if s.time.host.isolated then s
  else
    { s with
      time.host.offset := s.taiNsTotal - s.now
      time.host.stepWaiting := none
      time.host.slewLeft := 0
      time.host.nextPulse := pulseAfterStep s.taiNsTotal }

/-- An error of the host copy that waits for a step: two pulses carry it, the next one makes the step (R177, R178, R197). -/
def State.hostStep (s : State) : State :=
  match s.time.host.stepWaiting with
  | none => s
  | some _ => if 2 ≤ s.time.host.stepPulses then s.hostFollows else { s with time.host.stepPulses := s.time.host.stepPulses + 1 }

/-- The pulse boundary of module time: the step it may carry, in the host copy too (R177 to R182, R195). -/
def State.pulseBoundary (s : State) : State :=
  match s.time.pending with
  | none => { s with time.nextPulse := s.taiS + 1 }
  | some p =>
    if s.stepDue p then
      let s1 := s.makeStep p.e (if s.time.source = 4 then 1 else if p.announced then 0 else 2)
      { s1 with time.nextPulse := pulseAfterStep s1.taiNsTotal }.hostFollows
    else { s with time.pending := some { p with pulses := p.pulses + 1 }, time.nextPulse := s.taiS + 1 }

/-- A whole second of the host copy: Port 4 drives the pulse and the time of day, unless it stops in UNSYNCHRONISED (R175, R192). -/
def State.port4Pulse (s : State) (sec edge : Nat) : State :=
  let stops : Bool := decide (s.port4State = TimeState.unsynchronised) && bit (s.paramN 0x12010005) 0
  { s with
    time.pulseDriven := !stops
    time.tod := if stops then s.time.tod else some (s.timeOfDay sec edge) }

/-- TIME_PULSE: a whole second of module time and of its host copy, from which Port 4 makes the edge; the two fall together but for the
error of the copy (R177 to R182, R192, R193, R195). -/
def execTimePulse (t : Nat) (s : State) : Result :=
  let s := (s.tick t).checkSources
  let sec := (s.hostTaiNs / secNs).toNat
  let edge := (((sec * secNs : Nat) : Int) - s.time.host.offset).toNat
  let due : Bool := decide (s.time.host.nextPulse ≤ sec)
  let s1 := if due then { s with time.host.nextPulse := sec + 1 }.hostStep else s
  let s2 := if s.time.nextPulse ≤ s.taiS then s1.pulseBoundary else s1
  .next (if due then s2.port4Pulse sec edge else s2)

/-- A learned TAI − UTC once its announced leap has been made. -/
def afterLeap (u : Int × Int) : Int × Int := (u.1 + u.2, 0)

/-- The same of a PTP instance's grandmaster. -/
def Ptp.afterLeap (p : Ptp) : Ptp := { p with utcOffset := p.utcOffset.map fun o => o + p.leap, leap := 0 }

/-- An announced leap second is applied to UTC at its time, in what each source has told of it too (R184). -/
def execLeapSecond (t : Nat) (s : State) : Result :=
  let s := s.tick t
  if s.time.leap = 0 ∨ (s.taiS : Int) < s.time.leapStart + s.time.leap then .next s
  else
    .next ({ s with
      time.taiUtc := some (s.taiMinusUtc + s.time.leap)
      time.leap := 0
      time.ptp1 := s.time.ptp1.afterLeap
      time.ptp2 := s.time.ptp2.afterLeap
      gnss.utc := s.gnss.utc.map afterLeap }.raise 0x120B [])

/-- Where an announced leap begins: the end of the current UTC month (R163, R184). -/
def State.leapBegins (s : State) (taiUtc : Int) : Nat :=
  ((nextMonth (((s.taiS : Int) - taiUtc).toNat / 86400) * 86400 : Nat) + taiUtc).toNat

/-- UTC learned from the selected source at a frame (R184). -/
def State.learnUtc (s : State) : State :=
  let got : Option (Int × Int) :=
    if s.time.source = 1 then s.gnss.utc
    else if s.time.source = 2 ∨ s.time.source = 3 then
      let p := s.time.ptp s.time.source
      p.utcOffset.map fun o => (o, p.leap)
    else none
  match got with
  | none => s
  | some (o, l) =>
    { s with
      time.taiUtc := some o
      time.leap := l
      time.leapStart := if l = 0 ∨ s.time.leap = l then s.time.leapStart else s.leapBegins o
      time.utcValid := true }

/-- The clockClass an instance announces (R172, R187). -/
def State.announcedClass (s : State) (n : Nat) : Nat :=
  if s.paramN (ptpBase n + 4) = 0 then 255
  else
    match s.time.st with
    | .locked => if s.time.source = 1 then 6 else 248
    | .holdover => 7
    | .unsynchronised => 52
    | .freeRun => 248

/-- The clockAccuracy announced (R187). -/
def State.announcedAccuracy (s : State) : Nat :=
  if s.time.st = .locked ∧ s.time.source = 1 then 0x21 else 0xFE

/-- The instance's own data set (R187, R188). -/
def State.ownMaster (s : State) (n : Nat) : PtpMaster :=
  { priority1 := s.paramN (ptpBase n + 6), clockClass := s.announcedClass n, accuracy := s.announcedAccuracy,
    variance := Config.ptpVariance.toNat, priority2 := s.paramN (ptpBase n + 7), identity := Config.ptpIdentity.toNat, steps := 0 }

/-- The keys of the data set comparison, in order (IEEE 1588, R186). -/
def PtpMaster.keys (m : PtpMaster) : List Nat :=
  [m.priority1, m.clockClass, m.accuracy, m.variance, m.priority2, m.identity, m.steps]

/-- Lexicographic order of two key lists: the first is strictly better. -/
def keysBefore : List Nat → List Nat → Bool
  | a :: as, b :: bs => if a < b then true else if b < a then false else keysBefore as bs
  | _, _ => false

/-- The ingress latency of a port, ns: the factory PHY latency and the parameter added to it (R189, R190). -/
def State.ingress (s : State) (port : Nat) : Int := s.rst.options.phyLat.getD (2 * port) 0 + s.paramI (0x12040001 + 2 * port)

/-- The egress latency of a port. -/
def State.egress (s : State) (port : Nat) : Int := s.rst.options.phyLat.getD (2 * port + 1) 0 + s.paramI (0x12040002 + 2 * port)

/-- Module time at which a frame passed the connector of a port inwards, TAI ns of 4 ns resolution (R189). -/
def State.rxStamp (s : State) (port : Nat) : Int := (s.taiNsTotal - s.ingress port) / 4 * 4

/-- The same outwards. -/
def State.txStamp (s : State) (port : Nat) : Int := (s.taiNsTotal + s.egress port) / 4 * 4

/-- The state decision for a foreign master (R186, IEEE 1588): slave-only follows it; a class of 127 or lower never becomes slave. -/
def State.ptpDecide (s : State) (n : Nat) (m : PtpMaster) : PtpState :=
  let own := s.ownMaster n
  if s.paramN (ptpBase n + 4) = 0 then .slave
  else if keysBefore m.keys own.keys then (if own.clockClass ≤ 127 then .passive else .slave)
  else .master

/-- A PTP instance enters a state; leaving SLAVE disqualifies its source (R166). -/
def State.ptpEnter (s : State) (n : Nat) (st : PtpState) : State :=
  let p := s.time.ptp n
  let left := p.st = .slave ∧ st ≠ .slave
  let p' : Ptp := if left then { p with st := st, offset := none, exchange := none } else { p with st := st }
  let s := { s with time := s.time.setPtp n p' }
  if left then s.disqualify n else s

/-- An instance starts anew: enabled it listens, else it is disabled (R162, R188). -/
def State.ptpRestart (s : State) (n : Nat) : State :=
  let st : PtpState := if s.paramN (ptpBase n + 1) = 1 then .listening else .disabled
  let s1 := s.ptpEnter n st
  { s1 with time := s1.time.setPtp n { Ptp.reset with st := st, lastAnnounce := s1.now } }

/-- What follows a write of a parameter of the time unit (R166, R167, R187, R188): Enable, port, domain and transport make the instance
start anew (DESIGN CHOICE, log 109, but for Enable); a slave-only instance is no master; the class limit and the priority list decide about sources. -/
def State.timeParamWritten (s : State) (id : Nat) : State :=
  let instance_ (n : Nat) : State :=
    let k := id % 65536
    if k = 1 ∨ k = 2 ∨ k = 3 ∨ k = 5 then s.ptpRestart n
    else if k = 4 then
      (if s.paramN id = 0 ∧ ((s.time.ptp n).st = .master ∨ (s.time.ptp n).st = .passive) then s.ptpRestart n else s)
    else s.checkSources
  if id / 65536 = 0x1202 then instance_ 2
  else if id / 65536 = 0x1203 then instance_ 3
  else if id = 0x12010007 then
    (if 1 ≤ s.time.source ∧ s.time.source ≤ 3 ∧ s.time.source ∉ s.priority then s.leaveSource else s)
  else s

/-- An Announce message of a sender (R186, R188): two are needed before a foreign master counts (IEEE 1588). -/
def State.ptpAnnounce (s : State) (n sender : Nat) (m : PtpMaster) (utc : Option Int) (leap : Int) : State :=
  let p := s.time.ptp n
  let same : Bool := p.master.isSome && decide (p.parent = sender)
  let better : Bool := match p.master with
    | some k => keysBefore m.keys k.keys
    | none => true
  if same ∨ better then
    let cnt := if same then p.announces + 1 else 1
    let p := { p with master := some m, parent := sender, announces := cnt, lastAnnounce := s.now, utcOffset := utc, leap := leap }
    let s := { s with time := s.time.setPtp n p }
    (if 2 ≤ cnt then s.ptpEnter n (s.ptpDecide n m) else s).checkSources
  else s

/-- An exchange whose four times are complete gives an offset, unless it spans a step (R183, R188). -/
def State.ptpDelayResp (s : State) (n seq rx : Nat) (corr : Int) : State :=
  let p := s.time.ptp n
  match p.exchange with
  | some x =>
    match x.t1, x.t3 with
    | some t1, some t3 =>
      if x.reqSeq = seq ∧ x.stepGen = s.time.stepGen then
        let t4 : Int := rx - corr
        let o := ((x.t2 - t1 : Int) - (t4 - t3)) * 5 - s.paramI (ptpBase n + 13) * 10
        { s with time := s.time.setPtp n { p with offset := some o, exchange := none } }
      else if x.reqSeq = seq then { s with time := s.time.setPtp n { p with exchange := none } }
      else s
    | _, _ => s
  | none => s

/-- A message the instance sends on its port, in its domain and over its transport (R185, R186, R188). -/
def State.ptpOut (s : State) (n : Nat) (body : PtpBody) : PtpOut :=
  { port := s.paramN (ptpBase n + 2), domain := s.paramN (ptpBase n + 3), transport := s.paramN (ptpBase n + 5), body := body }

/-- PTP_MESSAGE_RECEIVE: a message of a sender on the port of instance n, in its domain and over its transport (R185, R186). Sync and its
answers count only from the parent. -/
def execPtpMessageReceive (t n domain transport sender : Nat) (msg : PtpMsg) (s : State) : Result :=
  let s := s.tick t
  if s.unitHeld 0x31 then .next s else
  if s.paramN (ptpBase n + 1) = 0 ∨ domain ≠ s.paramN (ptpBase n + 3) ∨ transport ≠ s.paramN (ptpBase n + 5)
      ∨ sender = Config.ptpIdentity.toNat then .next s
  else
    let p := s.time.ptp n
    let rx := (s.rxStamp (s.paramN (ptpBase n + 2))).toNat
    let follows : Bool := decide (p.st = .slave) && decide (p.parent = sender)
    match msg with
    | .announce m utc leap => .next (s.ptpAnnounce n sender m utc leap)
    | .sync seq twoStep origin corr =>
      let x : PtpExchange :=
        { syncSeq := seq, t1 := if twoStep then none else some ((origin : Int) + corr).toNat
          t2 := rx, reqSeq := 0, t3 := none, stepGen := s.time.stepGen }
      .next (if follows then { s with time := s.time.setPtp n { p with exchange := some x } } else s)
    | .followUp seq precise corr =>
      let x' := p.exchange.map fun (x : PtpExchange) =>
        if x.syncSeq = seq then { x with t1 := some ((precise : Int) + corr).toNat } else x
      .next (if follows then { s with time := s.time.setPtp n { p with exchange := x' } } else s)
    | .delayReq seq =>
      .next (if p.st = .master then
          { s with time := s.time.setPtp n { p with sent := [s.ptpOut n (.delayResp seq rx sender)] } }
        else s)
    | .delayResp seq at_ corr requester =>
      .next (if follows && decide (requester = Config.ptpIdentity.toNat) then s.ptpDelayResp n seq at_ corr else s)
    | .management => .next s
    | .other => .next s

/-- No Announce for the receipt timeout: the instance falls back (R186, R188). -/
def execPtpAnnounceTimeout (t n : Nat) (s : State) : Result :=
  let s := s.tick t
  if s.unitHeld 0x31 then .next s else
  let p := s.time.ptp n
  let wait := s.paramN (ptpBase n + 11) * 2 ^ s.paramN (ptpBase n + 9) * secNs
  if s.paramN (ptpBase n + 1) = 1 ∧ p.st ≠ .master ∧ p.lastAnnounce + wait ≤ s.now then
    let s := s.ptpEnter n (if s.paramN (ptpBase n + 4) = 1 then .master else .listening)
    .next { s with time := s.time.setPtp n { s.time.ptp n with master := none, announces := 0, lastAnnounce := s.now } }
  else .next s

/-- The transmit queue of a port, 0 FNET-A, 1 FNET-B, 2 PEER (R191). -/
def TimeUnit.txq (u : TimeUnit) (port : Nat) : TxQueue :=
  if port = 0 then u.txA else if port = 1 then u.txB else u.txPeer

/-- A transmit queue written. -/
def TimeUnit.setTxq (u : TimeUnit) (port : Nat) (q : TxQueue) : TimeUnit :=
  if port = 0 then { u with txA := q } else if port = 1 then { u with txB := q } else { u with txPeer := q }

/-- A transmit timestamp entered; when the queue is full it is dropped and TXTS_OVF is set (R191). The flag answers whether it was kept. -/
def State.pushTx (s : State) (port : Nat) (x : TxStamp) : State × Bool :=
  let q := s.time.txq port
  if q.entries.length < 16 then
    ({ s with time := s.time.setTxq port { q with entries := q.entries ++ [x] } }, true)
  else
    let s' := ({ s with time := s.time.setTxq port { q with ovf := true } }.count (ctrTxDropped port))
    (s'.raiseIf (!q.ovf) 0x1206 [port], false)

/-- PTP_MESSAGE_SEND: an instance sends a message, 0 Sync with its Follow_Up, 1 Delay_Req, 11 Announce; a Sync whose timestamp was dropped
has no Follow_Up, and a Delay_Req whose timestamp was dropped ends its exchange (R186, R187, R189, R191). -/
def execPtpMessageSend (t n kind : Nat) (s : State) : Result :=
  let s := s.tick t
  if s.unitHeld 0x31 then .next s else
  let p := s.time.ptp n
  let port := s.paramN (ptpBase n + 2)
  let ts := (s.txStamp port).toNat
  let stamp (seq : Nat) : TxStamp :=
    { seq := seq, msgType := kind, domain := s.paramN (ptpBase n + 3), tsS := ts / 1000000000, tsNs := ts % 1000000000,
      tstatus := s.timeStatus }
  if s.paramN (ptpBase n + 1) = 0 then .next s
  else if kind = 11 ∧ p.st = .master then
    let utc := if s.time.utcValid then some s.taiMinusUtc else none
    let p' : Ptp :=
      { p with
        seqAnnounce := (p.seqAnnounce + 1) % 65536
        sent := [s.ptpOut n (.announce p.seqAnnounce (s.ownMaster n) utc s.time.leap)] }
    .next { s with time := s.time.setPtp n p' }
  else if kind = 0 ∧ p.st = .master then
    let (s, kept) := s.pushTx port (stamp p.seqSync)
    let p' : Ptp :=
      { p with
        seqSync := (p.seqSync + 1) % 65536
        sent := s.ptpOut n (.sync p.seqSync) :: (if kept then [s.ptpOut n (.followUp p.seqSync ts)] else []) }
    .next { s with time := s.time.setPtp n p' }
  else if kind = 1 ∧ p.st = .slave then
    let (s, kept) := s.pushTx port (stamp p.seqReq)
    let x := if kept then p.exchange.map fun (x : PtpExchange) => { x with reqSeq := p.seqReq, t3 := some ts } else none
    let p' : Ptp :=
      { p with seqReq := (p.seqReq + 1) % 65536, sent := [s.ptpOut n (.delayReq p.seqReq)], exchange := x }
    .next { s with time := s.time.setPtp n p' }
  else .next s

/-- A control symbol put on a link. -/
def State.sendSymbol (s : State) (link : Nat) (x : EavesSymbol) : State :=
  { s with eaves.symbols := s.eaves.symbols ++ [(link, x)] }

/-- TIME_MARK_SEND: a time mark at a whole millisecond of module time, on link 0, or on link 1 when link 0 is down (R38, R194); with
neither link up it goes nowhere. `lastMark` is the millisecond the mark names. -/
def execTimeMarkSend (t : Nat) (s : State) : Result :=
  let s := s.tick t
  let ms := (s.taiNsTotal / 1000000).toNat
  if ms * 1000000 = s.time.lastMark then .next s
  else
    let link := if s.eaves.link0.up then 0 else if s.eaves.link1.up then 1 else 2
    let s1 : State := { s with time.lastMark := ms * 1000000, time.markLink := link }
    .next (if link = 2 then s1 else s1.sendSymbol link .timeMark)

/-- A time label as the CONTENT of its packet. R194 names what it holds and no rule lays it out (DESIGN CHOICE, log 110). -/
def TimeLabel.bytes (l : TimeLabel) : List Byte :=
  le 6 l.taiS ++ le 2 l.tstatus.toNat ++ leInt 2 l.utc ++ leInt 1 l.leap ++ le 1 (b2n l.step.isSome) ++ le 4 l.uncertainty
    ++ leInt 8 (l.step.getD 0)

/-- The time label that some CONTENT holds. -/
def TimeLabel.of (bs : List Byte) : TimeLabel :=
  { taiS := field bs 0 6, tstatus := BitVec.ofNat 16 (field bs 6 2), utc := fieldInt bs 8 2, leap := fieldInt bs 10 1
    uncertainty := field bs 12 4, step := if bit (field bs 11 1) 0 then some (fieldInt bs 16 8) else none }

/-- Labels that wait are sent as packets of the Event class while a link is up and the 16 credits kept for them last (R36, R194, R600). -/
def State.sendLabels : Nat → State → State
  | 0, s => s
  | n + 1, s =>
    match s.eaves.waitingLabels with
    | [] => s
    | l :: rest =>
      if !s.linkUp || decide (16 ≤ s.eaves.labelCredits) then s
      else
        State.sendLabels n
          { s with
            eaves.waitingLabels := rest
            eaves.labelCredits := s.eaves.labelCredits + 1
            eaves.event := s.eaves.event.send s.eaves.link0.up s.eaves.link1.up 2 0 l }

/-- TIME_LABEL_SEND: the label 0.5 s after a whole second, for the next one, with any step to be made at it (R194). -/
def execTimeLabelSend (t : Nat) (s : State) : Result :=
  let s := s.tick t
  let step := match s.time.pending with
    | some p => if s.stepDue p then some p.e else none
    | none => none
  let l : TimeLabel :=
    { taiS := s.taiS + 1, tstatus := s.timeStatus, utc := s.taiMinusUtcAt (s.taiS + 1), leap := s.time.leap
      uncertainty := s.uncertainty, step := step }
  if s.taiNs < 500000000 ∨ s.time.label.any (fun x => x.taiS = l.taiS) then .next s
  else
    let s1 : State :=
      { s with
        time.label := some l
        time.host.labelsMissed := s.time.host.labelsMissed + 1
        eaves.waitingLabels := s.eaves.waitingLabels ++ [l.bytes] }
    .next (s1.sendLabels s1.eaves.waitingLabels.length)

/-- A label delivered to the host side (R194, R197). -/
def State.hostLabel (s : State) (content : List Byte) : State :=
  { s with
    time.host.label := some (TimeLabel.of content)
    time.host.labelsMissed := 0
    time.host.awaitingLabel := false }

/-- HOST_TIME_MARK: a time mark that is on a link reaches the host side after `delay` ns (R38, R195, R197). The copy takes the time the
mark names with the calibrated latency of its link; after isolation `err`, in ns, is the error of the copy that has run alone. -/
def execHostTimeMark (t delay : Nat) (err : Int) (s : State) : Result :=
  let s := s.tick t
  let link := s.time.markLink
  if !s.eaves.symbols.contains (link, .timeMark) then .next s
  else
    let s := { s with eaves.symbols := s.eaves.symbols.erase (link, .timeMark) }
    let h := s.time.host
    let latency := if link = 0 then s.eaves.link0.latency else s.eaves.link1.latency
    let truth := s.taiNsTotal - s.now + ((latency : Int) - delay)
    if h.isolated then
      let h := { h with isolated := false, lastMark := s.now, awaitingLabel := true, stepPulses := 0, offset := truth + err }
      let h : HostTime :=
        if (err.natAbs : Int) * 10 ≤ s.stepThreshold then { h with slewLeft := -err * 4294967296, stepWaiting := none }
        else { h with slewLeft := 0, stepWaiting := some err }
      .next ({ s with time.host := h }.tellSessions 0x1209 [0])
    else
      let left := h.slewLeft - slewStep (s.paramN 0x12010002) (s.now - h.lastMark) h.slewLeft
      .next { s with time.host :=
        { h with lastMark := s.now, slewLeft := left, offset := truth - divRound left 4294967296 + h.stepWaiting.getD 0 } }

/-- No mark for 10 ms or three labels missing: HOST_ISOLATED (R196). -/
def execHostMarkTimeout (t : Nat) (s : State) : Result :=
  let s := s.tick t
  let h := s.time.host
  if h.isolated = false ∧ (h.lastMark + 10 * msNs ≤ s.now ∨ 3 ≤ h.labelsMissed) then
    .next ({ s with time.host := { h with isolated := true, isolatedAt := s.now } }.tellSessions 0x1209 [1])
  else .next s

/-- Largest departure of the baseplate temperature in holdover (R174). -/
def State.noteTemperature (s : State) (temp : Int) : State :=
  let s := { s with baseTemp := temp }
  match s.time.hold with
  | none => s
  | some h => { s with time.hold := some { h with dT := max h.dT (temp - h.temp0).natAbs } }

/-- RTCM messages of a field network port that fail their CRC-24Q (R141). -/
def ctrFnetCrc (port : Nat) : Nat := 0x12F00020 + port

/-- The RTCM 3 messages in a datagram, and how many pieces fail: each frame carries its length and CRC-24Q (R141). -/
def rtcmFrames : Nat → List Byte → List (List Byte) × Nat
  | 0, _ => ([], 0)
  | fuel + 1, bs =>
    if bs.isEmpty then ([], 0)
    else
      let n := ofBe (slice bs 1 2) % 1024 + 6
      if u8 bs 0 ≠ 0xD3 then rtcmFrames fuel (bs.drop 1)
      else if bs.length < n then ([], 1)
      else
        let m := bs.take n
        if (crc24q (m.take (n - 3))).toNat = ofBe (slice m (n - 3) 3) then
          let r := rtcmFrames fuel (bs.drop n)
          (m :: r.1, r.2)
        else
          let r := rtcmFrames fuel (bs.drop 1)
          (r.1, r.2 + 1)

/-- FIELD_NETWORK_FRAME_RECEIVE: a frame that is neither PTP, Xiros nor peer traffic, timestamped and sent to the builder; `rtcm`: its
destination takes RTCM3, so that each of its messages is checked and delivered as a sample of its own (R77, R141, R189, R190). -/
def execFieldNetworkFrameReceive (t port source : Nat) (rtcm : Bool) (data : List Byte) (s : State) : Result :=
  let s := s.tick t
  if s.unitHeld 0x31 then .next s else
  let ts := (((s.now : Int) - s.ingress port) / 4 * 4).toNat
  if rtcm then
    let r := rtcmFrames data.length data
    .next (r.1.foldl (fun s m => s.send source ts 0 m) (s.countN (ctrFnetCrc port) r.2))
  else .next (s.send source ts 0 data)

end Sys2Proof.Machine
end

