-- ==== Sys2Proof/Machine/Acquisition.lean ====
section
/-!
DEFINITION. Channels of the GNSS baseband: the channel manager, acquisition, lock, the assistance store, the start type
(R114 to R126, R154, R157).
-/

namespace Sys2Proof.Machine

/-- Whether an almanac page or an ephemeris of a satellite is held (R116, R120). -/
def Gnss.orbitKnown (g : Gnss) (sys svid : Nat) : Bool :=
  (g.eph? sys svid).isSome || g.pages.any fun p => p.kind = 1 ∧ p.sys = sys ∧ p.svid = svid

/-- Condition 1 of R116: the satellite stands at or above the mask, judged from almanac or ephemeris and the last position; with no
position known every satellite is in the cold search list. -/
def State.aboveMask (s : State) (v : SatView) : Bool :=
  if s.gnss.position.isNone then true
  else
    match v.elev with
    | some e => s.gnss.orbitKnown v.sys v.svid && decide (((s.paramN 0x11010002 : Nat) : Int) ≤ e)
    | none => false

/-- Condition 3 of R116: not marked unhealthy in its own navigation data, unless health is overridden for its system. -/
def State.healthOk (s : State) (v : SatView) : Bool :=
  bit (s.paramN 0x11010004) v.sys || !((s.gnss.eph? v.sys v.svid).any fun e => !e.healthy)

/-- Whether a satellite meets the conditions of R116 (R111, R116, R118). -/
def State.satWanted (s : State) (v : SatView) : Bool :=
  svidValid v.sys v.svid && s.aboveMask v && !s.gnss.excluded.contains (v.sys, v.svid) && s.healthOk v
    && signalEnabled (s.paramN 0x11010001) v.sys (acqSignal v.sys)

/-- The acquired satellite of a number. -/
def Gnss.acquired? (g : Gnss) (sys svid : Nat) : Option Acquired := g.acquired.find? fun a => a.sys = sys ∧ a.svid = svid

/-- The assignments demanded on one antenna, (view, signal): every enabled signal of every satellite that meets the conditions and has
been acquired (R116, R121; DEDUCED, log 24). -/
def State.demand (s : State) (views : List SatView) : List (SatView × Nat) :=
  (views.filter fun v => s.satWanted v && (s.gnss.acquired? v.sys v.svid).isSome).flatMap fun v =>
    (v.signals.filter fun c => signalEnabled (s.paramN 0x11010001) v.sys c).map fun c => (v, c)

/-- The lowest satellite that still demands a signal; the earlier one in the list of equals (R117; DESIGN CHOICE, log 24). -/
def lowestOf (d : List (SatView × Nat)) (sig : Nat) : Option SatView :=
  d.foldl (init := none) fun acc e =>
    if e.2 = sig then
      match acc with
      | none => some e.1
      | some v => if e.1.elev.getD (-91) < v.elev.getD (-91) then some e.1 else acc
    else acc

/-- Drop one assignment of a signal, lowest satellite first, n times at most, until the demand is 192 or less (R117). -/
def dropSignal (sig : Nat) : Nat → List (SatView × Nat) → List (SatView × Nat)
  | 0, d => d
  | n + 1, d =>
    if d.length ≤ 192 then d
    else
      match lowestOf d sig with
      | none => d
      | some v => dropSignal sig n (d.filter fun e => ¬ (e.2 = sig ∧ e.1.sys = v.sys ∧ e.1.svid = v.svid))

/-- The order in which signals are dropped (R117); when the six it names are gone, GPS L5 and Galileo E5a, then acquisition signals of
satellites that keep no other, never SBAS (DESIGN CHOICE, log 24). -/
def dropOrder : List Nat := [0x01, 0x31, 0x22, 0x11, 0x32, 0x02, 0x03, 0x21, 0x30, 0x10, 0x20, 0x00]

/-- The demand reduced to 192 channels (R117). -/
def fitDemand (d : List (SatView × Nat)) : List (SatView × Nat) :=
  dropOrder.foldl (fun d sig => dropSignal sig d.length d) d

/-- The lowest channel number of an antenna not in use. -/
def freeChannel (cs : List Channel) (ant : Nat) : Option Nat :=
  (List.range 192).find? fun n => cs.all fun c => ¬ (c.ant = ant ∧ c.ch = n)

/-- A newly assigned channel, in pull-in on the predicted code delay and Doppler (R115, R121, R124, R125). -/
def newChannel (ant ch : Nat) (a : Acquired) (sig now : Nat) : Channel :=
  { ant := ant, ch := ch, sys := a.sys, svid := a.svid, signal := sig, gloK := a.gloK, stage := .fll,
    since := now, lockStart := 0, bitSync := false, cpValid := false, halfCycle := dataOnly sig, slip := false, cycles := none }

/-- Keep the wanted channels of an antenna and assign the missing ones (R115, R116). -/
def assignAnt (g : Gnss) (now ant : Nat) (d : List (SatView × Nat)) (cs : List Channel) : List Channel :=
  let kept := cs.filter fun c => c.ant ≠ ant ∨ d.any fun e => e.1.sys = c.sys ∧ e.1.svid = c.svid ∧ e.2 = c.signal
  d.foldl (init := kept) fun cs e =>
    if cs.any fun c => c.ant = ant ∧ c.sys = e.1.sys ∧ c.svid = e.1.svid ∧ c.signal = e.2 then cs
    else
      match freeChannel cs ant, g.acquired? e.1.sys e.1.svid with
      | some n, some a => cs ++ [newChannel ant n a e.2 now]
      | _, _ => cs

/-- The channel manager is due: an epoch has been latched since its last run, and a second or more after the epoch of that run (R115). -/
def Gnss.managerDue (g : Gnss) : Bool :=
  match g.latchAt, g.managerAt with
  | some l, some m => decide (m + secNs ≤ l)
  | some _, none => true
  | none, _ => false

/-- The baseband tracks: its unit is up and its RF self-test does not run (R157). -/
def State.tracking (s : State) : Bool := !s.unitHeld 0x30 && s.gnss.rfTest.isNone

/-- Loss of every signal on both antennas: event 0x1103, once; the time unit loses its source (R153, R154, R159). -/
def State.checkAllLost (s : State) : State :=
  if s.gnss.lostAll = false ∧ s.gnss.restarting = false ∧ s.gnss.anyLock 0 = false ∧ s.gnss.anyLock 1 = false then
    ({ s with gnss.lostAll := true, gnss.solValid := false }.raise 0x1103 []).checkSources
  else s

/-- Antenna B without a signal in lock while its state is faulty: event 0x1102 (R154). -/
def State.checkAntB (s : State) (had : Bool) : State :=
  let a := s.gnss.antB
  s.raiseIf (had && !s.gnss.anyLock 1 && s.gnss.antFault 1) 0x1102 [a.bias.code, a.current]

/-- The channel manager's run, once per second just after an epoch latch (R115 to R118). -/
def execChannelManagerRun (t : Nat) (views : List SatView) (s : State) : Result :=
  let s := s.tick t
  if s.tracking = false ∨ s.gnss.managerDue = false then .next s
  else
    let d := s.demand views
    let fit := fitDemand d
    let cap : Bool := 192 < d.length
    let cs := assignAnt s.gnss s.now 1 fit (assignAnt s.gnss s.now 0 fit s.gnss.channels)
    let wanted := (views.filter s.satWanted).map fun v => (v.sys, v.svid)
    let had := s.gnss.anyLock 1
    let fresh := cap && !s.gnss.capacity
    let s1 : State :=
      { s with
        gnss.channels := cs
        gnss.capacity := cap
        gnss.managerAt := s.gnss.latchAt
        gnss.acquired := s.gnss.acquired.filter fun a => wanted.contains (a.sys, a.svid)
        gnss.searching := wanted.filter fun v => (s.gnss.acquired? v.1 v.2).isNone }
    .next ((s1.raiseIf fresh 0x1108 [d.length]).checkAntB had).checkAllLost

/-- Code period of the acquisition signal of a system, ms (R119). -/
def codePeriod (sys : Nat) : Nat := if sys = 2 then 4 else 1

/-- Half the Doppler span in Hz, T in ms and N of a search (R120). -/
def Knowledge.space (k : Knowledge) (sys : Nat) : Nat × Nat × Nat :=
  match k with
  | .noneWarm => (5000, codePeriod sys, 8)
  | .noneCold => (6000, codePeriod sys, 8)
  | .predicted => (500, 4, 16)
  | .outage => (100, 4, 16)

/-- The Doppler bins of a search, 1 / (2T) wide, centred on the predicted Doppler and reaching both ends of the span (R120). -/
def Knowledge.bins (k : Knowledge) (sys : Nat) : Nat :=
  let (span, t, _) := k.space sys
  2 * ((span * 2 * t + 999) / 1000) + 1

/-- Blocks of one code period in a cell: N coherent results of T each (R119, R120). -/
def Knowledge.blocks (k : Knowledge) (sys : Nat) : Nat :=
  let (_, t, n) := k.space sys
  n * t / codePeriod sys

/-- What is known of a satellite when its search starts (R120). -/
def State.knowledge (s : State) (ant sys svid : Nat) : Knowledge :=
  let recent := s.gnss.channels.any fun c =>
    c.ant = ant ∧ c.sys = sys ∧ c.svid = svid ∧ c.stage = .lost ∧ s.now < c.since + 60 * secNs
  if recent then .outage
  else if s.gnss.orbitKnown sys svid && s.gnss.position.isSome && decide (s.gnss.positionKm ≤ 100)
      && decide (s.uncertainty ≤ 2000000000) then .predicted
  else if s.time.warming then .noneCold
  else .noneWarm

/-- A satellite an engine may take up: it is in the search list, or has lost channels on the antenna that still hold it (R116, R118,
R154). -/
def State.searchable (s : State) (ant sys svid : Nat) : Bool :=
  s.gnss.searching.contains (sys, svid)
    || s.gnss.channels.any fun c => c.ant = ant ∧ c.sys = sys ∧ c.svid = svid ∧ c.stage = .lost

/-- GLONASS frequency channel of a satellite: the stored one, else the one searched (R119, R122). -/
def Gnss.channelOf (g : Gnss) (sys svid : Nat) (k : Int) : Int := if sys = 1 then (assoc g.gloK svid).getD k else 0

/-- A confirmed detection: the satellite is acquired, and its lost channels on the antenna go to pull-in (R121, R154). -/
def State.confirmDetection (s : State) (e : AcqEngine) : State :=
  let a : Acquired := { sys := e.sys, svid := e.svid, gloK := e.gloK }
  { s with
    gnss.acquired := s.gnss.acquired.filter (fun x => !(x.sys = e.sys && x.svid = e.svid)) ++ [a]
    gnss.searching := s.gnss.searching.filter fun v => v ≠ (e.sys, e.svid)
    gnss.channels := s.gnss.channels.map fun c =>
      if c.ant = e.ant ∧ c.sys = e.sys ∧ c.svid = e.svid ∧ c.stage = .lost then { c with stage := .fll, since := s.now } else c }

/-- The sum of a cell exceeds the noise estimate of the block by the detection threshold (R121). -/
def detects (sum noise : Nat) : Bool := decide (noise + Config.detectionThreshold < sum)

/-- A correlation completed by an engine (R119 to R121): of block after block it takes every Doppler bin in turn; in the last block the
sums are whole, and the first one that exceeds the threshold is a detection, which a second integration at the same cell confirms. -/
def State.correlate (s : State) (k : Nat) (e : AcqEngine) (code sum noise : Nat) : State :=
  let blocks := e.know.blocks e.sys
  let put (x : AcqEngine) : State := { s with gnss.engines := assocSet s.gnss.engines k x }
  let free : State := { s with gnss.engines := assocErase s.gnss.engines k }
  match e.cell with
  | some c =>
    if e.done + 1 < blocks then put { e with done := e.done + 1 }
    else if detects sum noise && decide (code = c.2) then free.confirmDetection e
    else free.count ctrUnconfirmed
  | none =>
    let bins := e.know.bins e.sys
    if bins * (blocks - 1) ≤ e.done ∧ detects sum noise then put { e with done := 0, cell := some (e.done % bins, code) }
    else if e.done + 1 < bins * blocks then put { e with done := e.done + 1 }
    else free

/-- ACQUISITION_BLOCK: an FFT engine completes the correlation of a block at one Doppler bin, with its largest sum at a code point; an
idle engine takes up the satellite named (R119 to R121). -/
def execAcquisitionBlock (t engine ant sys svid : Nat) (gloK : Int) (code sum noise : Nat) (s : State) : Result :=
  let s := s.tick t
  if s.tracking = false then .next s
  else
    match assoc s.gnss.engines engine with
    | some e => .next (s.correlate engine e code sum noise)
    | none =>
      if s.searchable ant sys svid then
        let e : AcqEngine :=
          { ant := ant, sys := sys, svid := svid, gloK := s.gnss.channelOf sys svid gloK, know := s.knowledge ant sys svid,
            done := 0, cell := none }
        .next (s.correlate engine e code sum noise)
      else .next s

/-- A loop parameter as taken over at the latest latch (R124, R717). -/
def State.loopParam (s : State) (signal k : Nat) : Nat :=
  (assoc s.gnss.loop (0x11030000 + 256 * signal + k)).getD (s.paramN (0x11030000 + 256 * signal + k))

/-- Bit or secondary-code synchronisation: predetection integration rises from 1 ms (R124). -/
def execBitSynchronisation (t ant ch : Nat) (s : State) : Result :=
  let s := s.tick t
  if s.tracking = false then .next s
  else .next (s.onChannel ant ch fun c => if c.locked then { c with bitSync := true } else c)

/-- Predetection integration of a channel in ms (R124, R717). -/
def State.predetection (s : State) (c : Channel) : Nat := if c.bitSync then s.loopParam c.signal 4 else 1

/-- From FLL to PLL after 200 ms of frequency lock, which began at `lockAt` (R125). -/
def execFllToPll (t ant ch lockAt : Nat) (s : State) : Result :=
  let s := s.tick t
  if s.tracking = false then .next s
  else
    .next (s.onChannel ant ch fun c =>
      if c.stage = .fll ∧ c.since ≤ lockAt ∧ lockAt + 200 * msNs ≤ s.now then
        { c with stage := .pll, since := s.now, lockStart := s.now, cycles := none }
      else c)

/-- Carrier phase valid after a further 100 ms with the phase-lock indicator above its threshold, since `above` (R125). -/
def execCarrierPhaseValid (t ant ch above : Nat) (s : State) : Result :=
  let s := s.tick t
  if s.tracking = false then .next s
  else
    .next (s.onChannel ant ch fun c =>
      if c.stage = .pll ∧ c.since ≤ above ∧ above + 100 * msNs ≤ s.now then { c with cpValid := true } else c)

/-- A channel that has lost lock: it keeps its satellite (R126, R154). -/
def Channel.lose (c : Channel) (now : Nat) : Channel :=
  { c with stage := .lost, since := now, lockStart := 0, bitSync := false, cpValid := false, halfCycle := dataOnly c.signal, slip := true,
           cycles := none }

/-- LOCK_LOSS: C/N0 averaged over 100 ms below CN0LOCK, or the phase-lock indicator below its threshold for 50 ms (R126, R154). -/
def execLockLoss (t ant ch cn0 lowFor : Nat) (s : State) : Result :=
  let s := s.tick t
  if s.tracking = false then .next s
  else
    match s.channel? ant ch with
    | none => .next s
    | some c =>
      if c.locked ∧ (cn0 < s.loopParam c.signal 6 ∨ (c.stage = .pll ∧ 50 * msNs ≤ lowFor)) then
        let had : Bool := decide (ant = 1) && s.gnss.anyLock 1
        let s1 := (s.onChannel ant ch fun c => c.lose s.now).count (ctrSlips c.signal)
        .next (s1.checkAntB had).checkAllLost
      else .next s

/-- After 60 s without lock the satellite returns to the channel manager (R154). -/
def execChannelHoldExpiry (t ant ch : Nat) (s : State) : Result :=
  let s := s.tick t
  if s.tracking = false then .next s
  else
    match s.channel? ant ch with
    | none => .next s
    | some c =>
      if c.stage = .lost ∧ c.since + 60 * secNs ≤ s.now then
        let rest := s.gnss.channels.filter fun x => !(x.ant = ant && x.ch = ch)
        let held : Bool := rest.any fun x => x.sys = c.sys ∧ x.svid = c.svid
        .next
          { s with
            gnss.channels := rest
            gnss.acquired := if held then s.gnss.acquired else s.gnss.acquired.filter fun a => !(a.sys = c.sys && a.svid = c.svid) }
      else .next s

/-- What the navigation processor keeps in its assistance store (R122). -/
def Gnss.assistNow (g : Gnss) : Assist :=
  { eph := g.store, almanac := g.pages.filter fun p => p.kind = 1, almanacTai := g.almanacTai, position := g.position, gloK := g.gloK }

/-- The assistance store written, or event 0x1109 with the previous contents kept (R122). -/
def State.writeAssist (s : State) (written : Bool) : State :=
  if written then { s with gnss.assist := s.gnss.assistNow, gnss.assistAt := s.now }
  else { s with gnss.assistAt := s.now }.raise 0x1109 []

/-- The write of the assistance store every 30 min, and in a power-fail sequence (R122, R676). -/
def execAssistStoreWrite (t : Nat) (written : Bool) (s : State) : Result :=
  let s := s.tick t
  if s.unitHeld 0x30 then .next s
  else if s.power.pfSince.isSome ∨ s.gnss.assistAt + 1800 * secNs ≤ s.now then .next (s.writeAssist written)
  else .next s

/-- The start type, from the assistance store and module time (R123); `km` is how far the stored position is from the vessel. -/
def State.startType (s : State) (km : Nat) : StartType :=
  let u := s.uncertainty
  let a := s.gnss.assist
  let tai := s.taiNsTotal
  let days : Int := 86400 * secNs
  if 5 ≤ (a.eph.filter s.ephValid).length ∧ a.position.isSome ∧ km ≤ 10 ∧ u ≤ 10000000 then .hot
  else if (a.almanacTai.any fun r => tai ≤ r + 90 * days) ∧ a.position.isSome ∧ km ≤ 100 ∧ u ≤ 2000000000 then .warm
  else .cold

/-- The baseband released from reset: its start type, and what it takes from the assistance store (R122, R123). -/
def State.startBaseband (s : State) (km : Nat) : State :=
  let a := s.gnss.assist
  { s with
    gnss.start := s.startType km
    gnss.store := a.eph
    gnss.pages := a.almanac
    gnss.almanacTai := a.almanacTai
    gnss.position := a.position
    gnss.positionKm := km
    gnss.gloK := a.gloK
    gnss.divider := s.paramN 0x11010003
    gnss.stepGenSeen := s.time.stepGen }

end Sys2Proof.Machine
end

