-- ==== Sys2Proof/Machine/Work.lean ====
section
/-!
DEFINITION. Work of one lane: its new state, the events it puts into its outbox, what it counts (R46, R47).
-/

namespace Sys2Proof.Machine

/-- A lane at work. -/
structure Work where
  lane : Lane
  events : List (Nat × List Nat)
  counts : List Nat

/-- The core the lane computes from. -/
def Work.core (w : Work) : Core := w.lane.core

/-- The core changed. -/
def Work.setCore (w : Work) (c : Core) : Work := { w with lane := { w.lane with core := c } }

/-- Fusion changed. -/
def Work.setFusion (w : Work) (f : Fusion) : Work := w.setCore { w.core with fusion := f }

/-- An event put into the outbox. -/
def Work.raise (w : Work) (code : Nat) (args : List Nat) : Work := { w with events := w.events ++ [(code, args)] }

/-- The same, when a condition holds. -/
def Work.raiseIf (w : Work) (c : Bool) (code : Nat) (args : List Nat) : Work := if c then w.raise code args else w

/-- One occurrence counted. -/
def Work.count (w : Work) (id : Nat) : Work := { w with counts := w.counts ++ [id] }

/-- Some occurrences counted. -/
def Work.countN (w : Work) (id n : Nat) : Work := { w with counts := w.counts ++ List.replicate n id }

/-- The lane of a name. -/
def State.lane (s : State) (l : LaneId) : Lane :=
  match l with
  | .a => s.laneA
  | .b => s.laneB

/-- A lane written. -/
def State.setLane (s : State) (l : LaneId) (x : Lane) : State :=
  match l with
  | .a => { s with laneA := x }
  | .b => { s with laneB := x }

/-- The other lane. -/
def LaneId.other : LaneId → LaneId
  | .a => .b
  | .b => .a

/-- Lane code in events and statuses: 0 lane A, 1 lane B. -/
def LaneId.code : LaneId → Nat
  | .a => 0
  | .b => 1

/-- The numeric status word of a frame takes over at its strobe what sub-frames 1 to 7 and the background window of the frame before left
for it (R262). -/
def Engine.nextFrame (e : Engine) : Engine := { e with status := e.nextStatus, nextStatus := 0xFF000000#32 }

/-- A lane that computes: not held in a Lane reset. -/
def Lane.runs (x : Lane) : Bool := !x.inReset

/-- The lane whose outbox is read: A while it runs and is not excluded, else B (R47). -/
def State.lead (s : State) : LaneId :=
  if s.laneA.runs && !s.laneA.excluded then .a else if s.laneB.runs && !s.laneB.excluded then .b else .a

/-- The core of the lane whose outbox is read. -/
def State.core (s : State) : Core := (s.lane s.lead).core

/-- The operator mode in force (R292). -/
def State.mode (s : State) : Mode := s.core.ctl.mode

/-- Whether the module is in STANDBY or MAINTENANCE. -/
def State.quiet (s : State) : Bool := s.mode = .standby ∨ s.mode = .maintenance

/-- Whether a mode is a DP mode. -/
def Mode.isDp (m : Mode) : Bool := m ≠ .standby ∧ m ≠ .maintenance

/-- Mode codes (R378). -/
def Mode.code : Mode → Nat
  | .standby => 0
  | .joystick => 1
  | .autoHeading => 2
  | .autoPosition => 3
  | .followTarget => 4
  | .track => 5
  | .maintenance => 6

/-- The mode of a code. -/
def Mode.ofCode (n : Nat) : Option Mode :=
  [Mode.standby, .joystick, .autoHeading, .autoPosition, .followTarget, .track, .maintenance][n]?

/-- One lane works: its events go to its outbox; what the read lane counts is counted once. -/
def State.laneWork (s : State) (l : LaneId) (f : Work → Work) : State :=
  let w := f { lane := s.lane l, events := [], counts := [] }
  let evs := w.events.map fun e => OutEntry.event (s.makeEvent e.1 0 (e.2.flatMap (le 4)))
  let s' := s.setLane l { w.lane with outbox := w.lane.outbox ++ evs }
  if l = s.lead then w.counts.foldl (fun s id => s.count id) s' else s'

/-- Each running lane works (R47). -/
def State.lanesWork (s : State) (f : State → Work → Work) : State :=
  let s1 := if s.laneA.runs then s.laneWork .a (f s) else s
  if s.laneB.runs then s1.laneWork .b (f s) else s1

/-- Every running lane's core changed by a plain function. -/
def State.onCores (s : State) (f : Core → Core) : State :=
  s.lanesWork fun _ w => w.setCore (f w.core)

end Sys2Proof.Machine
end

