-- ==== Sys2Proof/Machine/HostCore.lean ====
section
/-!
DEFINITION. What every Jalnomel request shares: status codes, the opcode catalogue, the checks of R567, replies,
handles and the credit of the Eaves barrier (R561 to R589, R597 to R601).
-/

namespace Sys2Proof.Machine

/-- OK (R588). -/
def stOk : Nat := 0
/-- ACCEPTED. -/
def stAccepted : Nat := 1
/-- BAD_VERSION. -/
def stBadVersion : Nat := 0x0101
/-- BAD_OPCODE. -/
def stBadOpcode : Nat := 0x0102
/-- BAD_LENGTH. -/
def stBadLength : Nat := 0x0103
/-- BAD_VALUE. -/
def stBadValue : Nat := 0x0104
/-- READ_ONLY. -/
def stReadOnly : Nat := 0x0105
/-- BAD_ID. -/
def stBadId : Nat := 0x0106
/-- STALE_TAG. -/
def stStaleTag : Nat := 0x0107
/-- BAD_HANDLE. -/
def stBadHandle : Nat := 0x0108
/-- STAGING_REFUSED. -/
def stStagingRefused : Nat := 0x0109
/-- NOT_IN_STANDBY. -/
def stNotInStandby : Nat := 0x0201
/-- COMMIT_PENDING. -/
def stCommitPending : Nat := 0x0202
/-- LANE_REJOIN. -/
def stLaneRejoin : Nat := 0x0203
/-- CONDITIONS. -/
def stConditions : Nat := 0x0204
/-- HEALTH_STATE. -/
def stHealthState : Nat := 0x0205
/-- NOT_DUTY. -/
def stNotDuty : Nat := 0x0206
/-- SEQUENCE_INCOMPLETE. -/
def stSequenceIncomplete : Nat := 0x0207
/-- BUSY. -/
def stBusy : Nat := 0x0208
/-- CANCELLED. -/
def stCancelled : Nat := 0x0209
/-- NOT_CANCELLABLE. -/
def stNotCancellable : Nat := 0x020A
/-- NO_HANDLE. -/
def stNoHandle : Nat := 0x0301
/-- NO_SESSION. -/
def stNoSession : Nat := 0x0302
/-- BULK_ABANDONED. -/
def stBulkAbandoned : Nat := 0x0303
/-- RESULT_EXPIRED. -/
def stResultExpired : Nat := 0x0304
/-- AUTH_FAILED. -/
def stAuthFailed : Nat := 0x0401
/-- AUTHORITY_LOW. -/
def stAuthorityLow : Nat := 0x0402
/-- NOT_IN_CONTROL. -/
def stNotInControl : Nat := 0x0403
/-- PORT_NOT_PERMITTED. -/
def stPortNotPermitted : Nat := 0x0404
/-- SESSION_UNKNOWN. -/
def stSessionUnknown : Nat := 0x0405
/-- LOCKED_OUT. -/
def stLockedOut : Nat := 0x0406
/-- FIELD_UNREACHABLE. -/
def stFieldUnreachable : Nat := 0x0501
/-- DEVICE_FAULT. -/
def stDeviceFault : Nat := 0x0502
/-- TEST_FAILED. -/
def stTestFailed : Nat := 0x0503
/-- TIMEOUT. -/
def stTimeout : Nat := 0x0504
/-- STORAGE_FAILED. -/
def stStorageFailed : Nat := 0x0505

/-- An opcode of the catalogue (R577): least authority, control, long operation, largest reply, served by the field side,
confinement (1 STANDBY or MAINTENANCE, 2 MAINTENANCE), and the payload length where the layout of R583 fixes it. -/
structure OpInfo where
  code : Nat
  auth : Nat
  control : Bool
  long : Bool
  maxReply : Nat
  field : Bool
  confined : Nat
  len : Option Nat
deriving DecidableEq, Repr

/-- A short opcode served by the host processor. -/
def opHost (code auth maxReply : Nat) (len : Option Nat) : OpInfo :=
  { code := code, auth := auth, control := false, long := false, maxReply := maxReply, field := false, confined := 0,
    len := len }

/-- A short opcode served by the field side. -/
def opField (code auth maxReply : Nat) (len : Option Nat) : OpInfo :=
  { opHost code auth maxReply len with field := true }

/-- The same, needing control. -/
def opControl (code auth maxReply : Nat) (len : Option Nat) : OpInfo :=
  { opField code auth maxReply len with control := true }

/-- A long operation. -/
def opLong (code auth maxReply confined : Nat) (len : Option Nat) : OpInfo :=
  { opField code auth maxReply len with long := true, confined := confined }

/-- The opcodes up to 0x1FFF (R577). -/
def opcodesLow : List OpInfo :=
  [ opHost 0x0100 0 96 (some 0), opField 0x0101 0 80 (some 0), opField 0x0110 0 8192 none,
    opField 0x0111 1 276 none, opField 0x0112 0 8192 none, opField 0x0113 1 8192 none,
    opHost 0x0120 0 8192 (some 4), opHost 0x0121 0 16 (some 4), opField 0x0122 0 16 (some 4),
    opField 0x0130 2 32 (some 8), opLong 0x0131 2 64 0 (some 16), opField 0x0132 2 16 (some 0),
    opLong 0x0133 2 64 0 (some 8), opLong 0x0134 0 64 0 (some 4), opLong 0x0140 3 64 0 (some 0),
    opLong 0x0141 3 64 0 (some 0), opHost 0x0150 0 8192 (some 10), opHost 0x0151 2 32 none,
    opHost 0x0200 1 20 (some 4), opControl 0x0201 1 20 (some 8), opControl 0x0202 1 20 (some 20),
    opControl 0x0203 1 20 (some 0), opHost 0x0204 1 16 (some 0), opControl 0x1001 1 20 (some 4),
    opControl 0x1002 1 20 (some 4), opControl 0x1003 1 20 (some 4), opLong 0x1004 2 32 0 (some 8),
    opField 0x1010 0 1024 (some 0), opField 0x1101 1 20 (some 4), opLong 0x1102 3 256 1 (some 0),
    opLong 0x1103 2 20 0 (some 0), opField 0x1110 0 2048 (some 0), opField 0x1201 1 20 (some 0),
    opField 0x1202 2 20 (some 16), opField 0x1203 0 320 (some 4), opField 0x1210 0 48 (some 0) ]

/-- The opcodes from 0x2000 (R577). -/
def opcodesHigh : List OpInfo :=
  [ opControl 0x2101 1 20 (some 4), opControl 0x2102 1 20 (some 4), opField 0x2110 0 832 (some 0),
    opField 0x2201 0 832 (some 0), opField 0x3001 1 20 (some 8),
    { opField 0x3002 3 20 (some 4) with confined := 2 }, opLong 0x3003 3 64 2 (some 4),
    opField 0x3101 1 20 (some 4), { opField 0x3102 3 20 (some 4) with confined := 2 },
    opLong 0x3103 2 32 0 (some 4), opLong 0x3104 3 256 1 (some 4), opLong 0x4001 2 32 1 (some 4),
    opField 0x4002 1 20 (some 4), opField 0x5001 1 20 (some 4), opLong 0x5002 3 32 1 (some 0),
    opField 0x5010 0 48 (some 0), opLong 0x6001 0 64 0 none, opField 0x6002 2 20 (some 0),
    opField 0x6003 1 20 (some 0), opField 0x6004 2 20 (some 0), opLong 0x6005 3 32 0 (some 4),
    { opLong 0x7001 1 32 0 (some 0) with control := true }, opControl 0x7002 1 20 (some 0),
    { opLong 0x7003 1 32 0 (some 4) with control := true }, opLong 0x7004 3 512 1 (some 0),
    opControl 0x7101 1 20 (some 0), opHost 0x8001 0 40 none, opHost 0x8002 0 48 none,
    opHost 0x8003 0 16 (some 0), opHost 0x8004 0 16 (some 0), opHost 0x8005 0 16 none,
    opHost 0x8006 0 16 none, opHost 0x8010 0 128 (some 0), opField 0x9001 3 20 none,
    opField 0x9002 0 1024 (some 0), opLong 0xA001 3 256 2 (some 0), opField 0xA002 0 512 (some 0),
    opLong 0xA101 3 32 2 (some 4), opHost 0xA102 3 20 none, opLong 0xA103 3 32 0 (some 0) ]

/-- An opcode of the catalogue by its code. -/
def opInfo? (code : Nat) : Option OpInfo := (opcodesLow ++ opcodesHigh).find? fun o => o.code = code

/-- The status reads of R583. -/
def statusReads : List Nat :=
  [0x0100, 0x0101, 0x1010, 0x1110, 0x1210, 0x2110, 0x2201, 0x5010, 0x8010, 0x9002, 0xA002]

/-- A command of R578: its reply is released with the record of its frame. -/
def OpInfo.held (o : OpInfo) : Bool :=
  o.field && decide (0x0111 ≤ o.code ∧ o.code ≤ 0x7101) && !statusReads.contains o.code

/-- Counter of discarded packets per transport and cause (R603). -/
def ctrPacket (transport cause : Nat) : Nat := 0x80F00000 + transport * 16 + cause
/-- Counter of bad tags of a session. -/
def ctrBadTag (session : Nat) : Nat := 0x80F10000 + session
/-- Counter of abandoned bulk transfers. -/
def ctrBulkAbandoned : Nat := 0x80F20001

/-- A session that a valid packet has reached within the session timeout (R572). -/
def State.current (s : State) (x : Session) : Bool := x.isOpen && decide (s.now < x.lastPacket + s.paramN 0x80010007 * secNs)

/-- An open session of a transport; one that has timed out is no longer open. -/
def State.session? (s : State) (transport number : Nat) : Option Session :=
  s.host.sessions.find? fun x => s.current x && decide (x.number = number) && decide (x.transport = transport)

/-- A session by its number alone. -/
def State.sessionOf (s : State) (number : Nat) : Option Session :=
  s.host.sessions.find? fun x => x.isOpen && decide (x.number = number)

/-- A session changed. -/
def State.onSession (s : State) (number : Nat) (f : Session → Session) : State :=
  { s with host.sessions := s.host.sessions.map fun (x : Session) => if x.number = number then f x else x }

/-- Flags of a reply: REPLY, and AUTH in a session (R566, R570). -/
def replyFlags (session : Nat) : Nat := if session = 0 then 1 else 9

/-- A reply made for a request. -/
def Req.reply (r : Req) (opcode handle status : Nat) (payload : List Byte) : Reply :=
  { transport := r.transport, addr := r.addr, session := r.session, tag := r.tag, opcode := BitVec.ofNat 16 opcode, handle := handle,
    flags := replyFlags r.session, status := BitVec.ofNat 16 status, payload := payload }

/-- A reply sent; the session keeps its last 32 (R571). -/
def State.sendReply (s : State) (p : Reply) : State :=
  let s1 := { s with host.replies := s.host.replies ++ [p] }
  s1.onSession p.session fun x =>
    let kept := x.stored ++ [{ tag := p.tag, reply := p, at_ := s.now }]
    { x with stored := kept.drop (kept.length - 32) }

/-- A reply outside a session: session 0, no tag (R567). -/
def State.sendRefusal (s : State) (r : Req) (opcode status : Nat) : State :=
  { s with host.replies := s.host.replies ++
      [{ r.reply opcode 0 status [] with session := 0, flags := 1 }] }

/-- Event 0x8004 for a session, at most once per 60 s (R567). -/
def State.badTag (s : State) (x : Session) : State :=
  let s1 := s.count (ctrBadTag x.number)
  let quiet :=
    match x.lastBadTag with
    | none => true
    | some t0 => decide (t0 + 60 * secNs ≤ s.now)
  if quiet then
    (s1.onSession x.number fun y => { y with lastBadTag := some s.now }).hostRaise 0x8004 [x.user, x.number]
  else s1

/-- The 16-byte header of a packet (R565). -/
def packetHead (flags opcode len tag handle status session : Nat) : List Byte :=
  le 1 0xD4 ++ le 1 0x17 ++ le 1 1 ++ le 1 flags ++ le 2 opcode ++ le 2 len ++ le 2 tag ++ le 2 handle ++ le 2 status ++ le 2 session

/-- The authentication tag under a session key of the bytes it covers (R570). -/
def authTag (key covered : List Byte) : List Byte := (hmac key covered).take 16

/-- A Jalnomel packet of the module or for it (R565), with the authentication tag over the bytes R570 names. -/
def packetBytes (flags opcode tag handle status session : Nat) (key payload : List Byte) : List Byte :=
  let len := payload.length + (if bit flags 3 then 16 else 0)
  let plain := packetHead flags opcode len tag handle status session ++ payload
  let body := if bit flags 3 then plain ++ authTag key (plain.take (len - 1)) else plain
  body ++ le 4 (crc32c body).toNat

/-- Key of a user; the recovery user's is fused (R570, R700). -/
def State.userKey (s : State) (user : Nat) : List Byte :=
  if user = 0xFF then be 32 Config.recoveryKey.toNat
  else ((s.host.users.find? fun u => u.number = user).map (·.key)).getD []

/-- Session key (R570): label "NG8-SKEY", both nonces, session number. -/
def State.sessionKey (s : State) (x : Session) : List Byte :=
  let label := [0x4E, 0x47, 0x38, 0x2D, 0x53, 0x4B, 0x45, 0x59].map (BitVec.ofNat 8)
  (hmac (s.userKey x.user) (label ++ x.clientNonce ++ x.serverNonce ++ le 2 x.number)).take 32

/-- Key of the session of a number; none outside a session. -/
def State.keyOf (s : State) (number : Nat) : List Byte :=
  match s.sessionOf number with
  | none => []
  | some x => s.sessionKey x

/-- The bytes of a request that its authentication tag covers: bytes 0 to 15 + LENGTH − 17 (R570). -/
def Req.covered (r : Req) (opcode handle : Nat) (payload : List Byte) : List Byte :=
  (packetHead 8 opcode (payload.length + 16) r.tag.toNat handle 0 r.session ++ payload).take (payload.length + 15)

/-- What the checks of R567 answer. -/
inductive Checked where
  /-- Already answered or discarded. -/
  | done (s : State)
  /-- Refused with a status inside the session. -/
  | refuse (s : State) (status : Nat)
  /-- To be served. -/
  | pass (s : State)

/-- Steps 4 to 6 of R567 for a packet of an open session: session, the authentication tag over the bytes it covers, host tag. A reply is
stored for 10 s (R571). -/
def State.checkSession (s : State) (r : Req) (opcode : Nat) (covered : List Byte) : Checked :=
  match s.session? r.transport r.session with
  | none => .done (s.sendRefusal r opcode stSessionUnknown)
  | some x =>
    if r.mac ≠ some (authTag (s.sessionKey x) covered) then .done (s.badTag x)
    else
      let s1 := s.onSession x.number fun (y : Session) => { y with lastPacket := s.now }
      match x.stored.find? fun k => decide (k.tag = r.tag) && decide (s.now < k.at_ + 10 * secNs) with
      | some k =>
        .done { s1 with host.replies := s1.host.replies ++ [{ k.reply with addr := r.addr, flags := k.reply.flags ||| 4 }] }
      | none =>
        let new :=
          match x.newestTag with
          | none => true
          | some t0 => seqLater 16 r.tag.toNat t0.toNat
        if new then .pass (s1.onSession x.number fun (y : Session) => { y with newestTag := some r.tag })
        else .done { s1 with host.replies := s1.host.replies ++ [r.reply opcode 0 stStaleTag []] }

/-- Authority of the session of a request. -/
def State.authority (s : State) (r : Req) : Nat :=
  match s.sessionOf r.session with
  | none => 0
  | some x => x.authority

/-- User of the session of a request. -/
def State.userOf (s : State) (r : Req) : Nat :=
  match s.sessionOf r.session with
  | none => 0
  | some x => x.user

/-- Steps 8 and 9 of R567: authority and port, control. PARAM_WRITE makes them per entry (R582). -/
def State.checkRights (s : State) (r : Req) (o : OpInfo) (need : Nat) : Nat :=
  if s.authority r < need then (if need = 3 ∧ r.transport = 0 then stPortNotPermitted else stAuthorityLow)
  else if o.control && decide (s.host.holder ≠ r.session) then stNotInControl
  else stOk

/-- Reply credits granted to a command (R599): for its reply, and for its completion. -/
def OpInfo.grant (o : OpInfo) : Nat × Nat :=
  if o.long then (1, (o.maxReply + 32 + 255) / 256) else ((o.maxReply + 32 + 255) / 256, 0)

/-- The confinement of an opcode to modes (R577). -/
def State.confinement (s : State) (o : OpInfo) : Nat :=
  if o.confined = 0 then stOk
  else if !s.quiet then stNotInStandby
  else if o.confined = 2 && s.mode = .standby then stConditions
  else stOk

/-- A handle that is outstanding. -/
def HandleRec.outstanding (h : HandleRec) : Bool := h.stage ≠ .complete

/-- The handle record of a number. -/
def State.handle? (s : State) (n : Nat) : Option HandleRec := s.host.handles.find? fun h => h.number = n

/-- A handle record changed. -/
def State.onHandle (s : State) (n : Nat) (f : HandleRec → HandleRec) : State :=
  { s with host.handles := s.host.handles.map fun (h : HandleRec) => if h.number = n then f h else h }

/-- The first number from n on that is not in use (R22), within fuel tries. -/
def freeHandle (used : List Nat) : Nat → Nat → Nat
  | 0, n => n
  | k + 1, n => if used.contains n then freeHandle used k (if n = 65535 then 1 else n + 1) else n

/-- The frame whose snapshot a command enters: the next one, or the one after once the cut-off has passed (R79, R578). -/
def State.commandFrame (s : State) : Word :=
  if s.frame.closed.isSome then s.frame.number + 2 else s.frame.number + 1

/-- What serving a request answers: state, status, payload. `stamp`: the payload is the frame number of R583. -/
structure Served where
  state : State
  status : Nat
  payload : List Byte
  stamp : Bool

/-- A request refused. -/
def refused (s : State) (status : Nat) : Served := { state := s, status := status, payload := [], stamp := false }

/-- A command done, with the 4-byte reply of R583. -/
def served (s : State) : Served := { state := s, status := stOk, payload := [], stamp := true }

/-- A request answered with its own layout. -/
def answered (s : State) (payload : List Byte) : Served :=
  { state := s, status := stOk, payload := payload, stamp := false }

/-- A long operation accepted. -/
def accepted (s : State) : Served := { state := s, status := stAccepted, payload := [], stamp := false }

/-- The effect of an opcode: state, request, payload without tag, handle number. -/
abbrev Effect := State → Req → List Byte → Nat → Served

/-- A handle issued to a request (R584). -/
def State.issueHandle (s : State) (r : Req) (o : OpInfo) : Nat × State :=
  let n := freeHandle (s.host.handles.map (·.number) ++ s.host.bulks.map (·.handle)) 400 s.host.nextHandle
  (n, { s with
        host.nextHandle := if n = 65535 then 1 else n + 1
        host.handles := s.host.handles ++
          [{ number := n, user := s.userOf r, session := r.session, addr := r.addr, opcode := o.code, tag := r.tag,
             authority := o.auth, credits := o.grant.2, stage := if o.held then .pending else .running, progress := 255, final := 0, result := [],
             completedAt := 0 }] })

/-- The unit of R657 that serves an opcode alone; 0 for none. -/
def unitServing (code : Nat) (p : List Byte) : Nat :=
  if code = 0x1102 ∨ code = 0x1103 then 0x30
  else if 0x3001 ≤ code ∧ code ≤ 0x3104 then 0x21
  else if code = 0x4001 ∨ code = 0x4002 then field p 0 1
  else if 0x6001 ≤ code ∧ code ≤ 0x6005 then 0x40
  else 0

/-- A reply as the packet that leaves the module (R565, R570). -/
def State.replyBytes (s : State) (p : Reply) : List Byte :=
  packetBytes p.flags p.opcode.toNat p.tag.toNat p.handle p.status.toNat p.session (s.keyOf p.session) p.payload

/-- A command crosses the barrier with its handle and, in XFER, the Reply credit granted to it (R36, R597, R599). -/
def State.sendCommand (s : State) (r : Req) (o : OpInfo) (handle : Nat) (p : List Byte) : State :=
  if o.field then
    let bs := packetBytes 8 o.code r.tag.toNat handle 0 r.session (s.keyOf r.session) p
    { s with eaves.command := s.eaves.command.send s.eaves.link0.up s.eaves.link1.up 0 (o.grant.1 + o.grant.2) bs }
  else s

/-- Reply credit granted: taken from the host's Reply buffer until it is returned (R68, R599). -/
def State.grantCredit (s : State) (n : Nat) : State :=
  { s with eaves.reply.credits := s.eaves.reply.credits - n, eaves.granted := s.eaves.granted + n }

/-- Granted Reply credit returned. -/
def State.returnCredit (s : State) (n : Nat) : State :=
  { s with eaves.reply.credits := s.eaves.reply.credits + n, eaves.granted := s.eaves.granted - n }

/-- A reply that has crossed is sent on to its session; the credit held for it returns (R599). -/
def State.deliverReply (s : State) (v : Reply) : State :=
  let mine (c : Forwarded) : Bool := decide (c.session = v.session) && decide (c.tag = v.tag)
  let back := (s.eaves.inField.filter mine).foldl (fun k c => k + c.replyCredits) 0
  ({ s with eaves.inField := s.eaves.inField.filter fun c => !mine c }.returnCredit back).sendReply v

/-- A reply of the field side crosses in the Reply class, in the credit granted for it; with no link up it waits (R36, R41). -/
def State.crossReply (s : State) (v : Reply) : State :=
  if s.linkUp then
    { s with eaves.reply := s.eaves.reply.put s.eaves.link0.up s.eaves.link1.up 0 0 (s.replyBytes v) }.deliverReply v
  else { s with eaves.waitingReplies := s.eaves.waitingReplies ++ [v] }

/-- A request of the host processor, or one that the field side serves at once, answered (R583). -/
def State.answer (s : State) (r : Req) (o : OpInfo) (handle : Nat) (v : Served) : State :=
  let base := r.reply o.code (if v.status = stAccepted then handle else 0) v.status v.payload
  let reply := if v.stamp then { base with payload := le 4 (if o.field then s.commandFrame.toNat else 0) } else base
  if o.field then s.crossReply reply else s.sendReply reply

/-- The time of the next cut-off of a snapshot has come, or it has been made (R78). Before the first strobe there is no such time. -/
def State.pastCutoff (s : State) : Bool :=
  s.frame.closed.isSome || (s.frame.begun && decide (s.frame.nextStrobe ≤ s.now + 500 * usNs))

/-- A command at the snapshot builder: it enters the snapshot whose cut-off it beats, in arrival order (R78, R79). -/
def State.queueCommand (s : State) (c : Command) : State :=
  if s.pastCutoff then { s with frame.laterCommands := s.frame.laterCommands ++ [c] }
  else { s with frame.commands := s.frame.commands ++ [c] }

/-- A command of R578 that has crossed waits for its frame; its Reply credit is held meanwhile. -/
def State.forwardCommand (s : State) (r : Req) (o : OpInfo) (n : Nat) (p : List Byte) (present : List (Nat × Nat)) : State :=
  let s1 : State :=
    { (s.sendCommand r o n p).grantCredit (o.grant.1 + o.grant.2) with
      eaves.inField := s.eaves.inField ++
        [{ transport := r.transport, addr := r.addr, session := r.session, tag := r.tag, opcode := o.code, payload := p,
           replyCredits := o.grant.1, at_ := s.now }] }
  s1.queueCommand { req := r, opcode := o.code, handle := n, payload := p, present := present }

/-- What a long operation that is refused leaves: its handle is free again and its credit returns (R584, R599). -/
def State.dropRefused (s : State) (o : OpInfo) (n : Nat) : State :=
  { s with host.handles := s.host.handles.filter fun h => h.number ≠ n }.returnCredit o.grant.2

/-- A request run on the field side, or by the host processor: confinement, handle, effect, reply; a command of R578 goes to its
frame. A unit held in reset serves nothing (R588). -/
def State.runRequest (s : State) (r : Req) (o : OpInfo) (p : List Byte) (present : List (Nat × Nat)) (e : Effect) : State :=
  let c := s.confinement o
  if c ≠ stOk then (s.sendCommand r o 0 p).answer r o 0 (refused s c)
  else if s.rst.unitsDown.contains (unitServing o.code p) then (s.sendCommand r o 0 p).answer r o 0 (refused s stDeviceFault)
  else if o.long then
    if 64 ≤ (s.host.handles.filter fun h => h.outstanding).length then s.sendReply (r.reply o.code 0 stNoHandle [])
    else
      let (n, s0) := s.issueHandle r o
      if o.held then s0.forwardCommand r o n p present
      else
        let v := e ((s0.sendCommand r o n p).grantCredit o.grant.2) r p n
        if v.status = stAccepted then v.state.answer r o n v else (v.state.dropRefused o n).answer r o n v
  else if o.held then s.forwardCommand r o 0 p present
  else
    let v := e (s.sendCommand r o 0 p) r p 0
    v.state.answer r o 0 v

/-- Whether a command can cross: a link is up, the Reply credit it needs can be granted, and Command credit is there (R31, R68, R69,
R599). -/
def State.canCross (s : State) (o : OpInfo) (p : List Byte) : Bool :=
  s.linkUp && decide (o.grant.1 + o.grant.2 ≤ s.eaves.reply.credits)
    && decide (packetCredits (p.length + 36) ≤ s.eaves.command.credits)

/-- The authority an opcode needs: MODE_SET to MAINTENANCE needs SERVICE, HANDLE_CANCEL that of its operation (R577). -/
def State.needAuth (s : State) (o : OpInfo) (p : List Byte) : Nat :=
  if o.code = 0x0201 ∧ field p 0 1 = 6 then 3
  else if o.code = 0x0122 then
    match s.handle? (field p 0 2) with
    | some h => h.authority
    | none => 0
  else o.auth

/-- Whether the length of a payload fits the opcode (R583); a layout of variable length is judged by its effect. -/
def OpInfo.lengthOk (o : OpInfo) (p : List Byte) : Bool :=
  match o.len with
  | some n => p.length = n
  | none => true

/-- A request after steps 4 to 6 of R567: rights, length, field side, credit, service. -/
def State.serveChecked (s : State) (r : Req) (o : OpInfo) (p : List Byte) (present : List (Nat × Nat)) (e : Effect) : State :=
  let c := s.checkRights r o (s.needAuth o p)
  if c ≠ stOk then s.sendReply (r.reply o.code 0 c [])
  else if !o.lengthOk p then s.sendReply (r.reply o.code 0 stBadLength [])
  else if o.field && s.host.fieldUnreachable then s.sendReply (r.reply o.code 0 stFieldUnreachable [])
  else if o.field && (!s.canCross o p || !s.eaves.waitingCommands.isEmpty) then
    { s with
      eaves.waitingCommands := s.eaves.waitingCommands ++
        [{ transport := r.transport, addr := r.addr, session := r.session, tag := r.tag, opcode := o.code, payload := p,
           replyCredits := o.grant.1, at_ := s.now }] }
  else s.runRequest r o p present e

/-- The host processor unit runs (R654, R667, R692). -/
def State.hostUp (s : State) : Bool := decide (s.rst.up = .up) && !s.rst.unitsDown.contains 0x80

/-- How long the duplicate-discard mode remembers a frame. 400 ms, EntryForgetTime of IEC 62439-3 (PRESUMED, log 121). -/
def prpForget : Nat := 400 * msNs

/-- The second copy of a pair: the same sender and sequence number came over the other network (R562). -/
def State.secondCopy (s : State) (r : Req) : Bool :=
  decide (r.transport = 0) && r.prp.any fun x =>
    s.host.prpSeen.any fun y => decide (y.1.source = x.source ∧ y.1.seq = x.seq ∧ y.1.lan ≠ x.lan) && decide (s.now < y.2 + prpForget)

/-- A frame of the operator network remembered by its trailer (R562). -/
def State.noteFrame (s : State) (r : Req) : State :=
  match r.prp with
  | none => s
  | some x =>
    if r.transport = 0 then
      { s with host.prpSeen := (s.host.prpSeen.filter fun y => decide (s.now < y.2 + prpForget)) ++ [(x, s.now)] }
    else s

/-- Whether the host ports take a packet: nothing does while the host processor unit does not run, and a second copy is discarded. -/
def State.heard (s : State) (r : Req) : Bool := s.hostUp && !s.secondCopy r

/-- A request of an open session in a packet whose header names a handle. `present` belongs to a write of status bits (R18). -/
def State.requestOn (s : State) (present : List (Nat × Nat)) (code handle : Nat) (e : Effect) (r : Req) (p : List Byte) : State :=
  let s := s.tick r.t
  match opInfo? code with
  | none => s
  | some o =>
    if !s.heard r then s
    else match (s.noteFrame r).checkSession r code (r.covered code handle p) with
    | .done s1 => s1
    | .refuse s1 st => s1.sendReply (r.reply code 0 st [])
    | .pass s1 => s1.serveChecked r o p present e

/-- The same with no handle. -/
def State.requestWith (s : State) (present : List (Nat × Nat)) (code : Nat) (e : Effect) (r : Req) (p : List Byte) : State :=
  s.requestOn present code 0 e r p

/-- The same of any other request. -/
def State.request (s : State) (code : Nat) (e : Effect) (r : Req) (p : List Byte) : State := s.requestWith [] code e r p

/-- The completion packet of an operation: REPLY and COMPLETION set (R584). -/
def HandleRec.completion (h : HandleRec) (transport final : Nat) (result : List Byte) : Reply :=
  { transport := transport, addr := h.addr, session := h.session, tag := h.tag, opcode := BitVec.ofNat 16 h.opcode, handle := h.number,
    flags := 11, status := BitVec.ofNat 16 final, payload := result }

/-- A completion goes to the issuing session if it is still open (R584). -/
def State.sendCompletion (s : State) (h : HandleRec) (final : Nat) (result : List Byte) : State :=
  match s.sessionOf h.session with
  | none => s
  | some x => { s with host.replies := s.host.replies ++ [h.completion x.transport final result] }

/-- The oldest unread results beyond 256 are discarded, with event 0x8008 (R584). -/
def State.trimResults (s : State) : State :=
  let done := s.host.handles.filter fun h => !h.outstanding
  if done.length ≤ 256 then s
  else
    match done.foldl (fun (best : Option HandleRec) h =>
        match best with
        | none => some h
        | some b => if h.completedAt < b.completedAt then some h else some b) none with
    | none => s
    | some h =>
      ({ s with host.handles := s.host.handles.filter fun k => k.number ≠ h.number }).hostRaise 0x8008 [h.number]

/-- A completion that reaches the host side: the handle stops being outstanding and its credit returns (R584, R599). -/
def State.arriveCompletion (s : State) (n final : Nat) (result : List Byte) : State :=
  match s.handle? n with
  | none => s
  | some h =>
    if !h.outstanding then s
    else
      let s1 := s.onHandle n fun k =>
        { k with stage := .complete, final := final, result := result, completedAt := s.now }
      ((s1.returnCredit h.credits).sendCompletion h final result).trimResults

/-- A completion crosses in the Reply class, in the credit held for it (R36, R599). -/
def State.crossCompletion (s : State) (n final : Nat) (result : List Byte) : State :=
  match s.handle? n with
  | none => s
  | some h =>
    if !h.outstanding then s
    else
      { s with eaves.reply := s.eaves.reply.put s.eaves.link0.up s.eaves.link1.up 0 0
                 (s.replyBytes (h.completion 0 final result)) }.arriveCompletion n final result

/-- An operation completes on the field side; with both links down its completion crosses later (R587). -/
def State.finish (s : State) (n final : Nat) (result : List Byte) : State :=
  if s.linkUp then s.crossCompletion n final result
  else { s with eaves.heldCompletions := s.eaves.heldCompletions ++ [(n, final, result)] }

/-- The same for a handle that may be absent. -/
def State.finish? (s : State) (n : Option Nat) (final : Nat) (result : List Byte) : State :=
  match n with
  | none => s
  | some h => s.finish h final result

/-- A running operation of some opcodes. -/
def State.busyWith (s : State) (opcodes : List Nat) : Bool :=
  s.host.handles.any fun h => h.outstanding && opcodes.contains h.opcode

end Sys2Proof.Machine
end

