-- ==== Sys2Proof/Machine/DigitalIo.lean ====
section
/-!
DEFINITION. Digital I/O, supply monitoring, logic terms and energy-limited ports (R459 to R492).
-/

namespace Sys2Proof.Machine

/-- The mapping entry of channel c, 1 to 32 (R481); an entry not written is all zero: disabled. -/
def State.dioEntry (s : State) (c : Nat) : List Byte := (s.entry? 0x30 0x02 (c - 1)).getD []

/-- DIR of a channel. -/
def State.dioDir (s : State) (c : Nat) : Nat := u8 (s.dioEntry c) 0

/-- A bit of CFLAGS: 0 INVERT, 1 WIRE_BREAK, 2 TEST_PULSE, 3 RESTART_INHIBIT, 4 COS_EVENT. -/
def State.dioFlag (s : State) (c i : Nat) : Bool := bit (u8 (s.dioEntry c) 4) i

/-- SOURCE of an output (R469). -/
def State.dioSource (s : State) (c : Nat) : Nat := u8 (s.dioEntry c) 5

/-- A digital channel. -/
def State.dio (s : State) (c : Nat) : DioChannel := s.fio.channels.getD (c - 1) .reset

/-- A digital channel changed. -/
def State.onDio (s : State) (c : Nat) (f : DioChannel → DioChannel) : State :=
  { s with fio.channels := setAt s.fio.channels (c - 1) f }

/-- Whether channel c is fed from FLD-2 (R459). -/
def onFld2 (c : Nat) : Bool := 17 ≤ c

/-- The supply group of a channel. -/
def State.supplyOf (s : State) (c : Nat) : Supply := if onFld2 c then s.fio.fld2 else s.fio.fld1

/-- UNDERVOLTAGE or CUTOFF. -/
def SupplyState.under (x : SupplyState) : Bool := x = .undervoltage ∨ x = .cutoff

/-- Code of a supply state (R483). -/
def SupplyState.code : SupplyState → Nat
  | .normal => 0
  | .warning => 1
  | .undervoltage => 2
  | .cutoff => 3

/-- VALID of a channel (R462, R466, R477, R482). -/
def State.dioValid (s : State) (c : Nat) : Bool :=
  let k := s.dio c
  s.dioDir c ≠ 0 && !s.fio.inReset && !(s.supplyOf c).st.under && !k.wireBreak && !k.extDrive

/-- Whether the output watchdog, or for a HOST channel the host output timeout, has expired (R471). -/
def State.dioExpired (s : State) (c : Nat) : Bool := s.fio.expired || (s.dioSource c = 4 && (s.dio c).hostExpired)

/-- The value of an output's source, inverted where the entry says (R469). -/
def State.dioValue (s : State) (c : Nat) : Bool :=
  let i := u8 (s.dioEntry c) 7
  let v :=
    match s.dioSource c with
    | 1 => bit s.fio.cmdBits i
    | 2 => (s.fio.terms.getD i { out := false, ones := 0, zeros := 0 }).out
    | 3 => s.fio.duty
    | 4 => (s.dio c).hostValue
    | _ => false
  xor v (s.dioFlag c 0)

/-- The safe state of an output (R472). -/
def State.dioSafe (s : State) (c : Nat) : Bool :=
  match u8 (s.dioEntry c) 6 with
  | 1 => true
  | 2 => (s.dio c).atExpiry
  | _ => false

/-- Rules 6 to 10 of R472. -/
def State.dioTarget (s : State) (c : Nat) : Bool :=
  match (s.dio c).forced with
  | some v => v
  | none =>
    let src := s.dioSource c
    if src = 3 then s.dioValue c && !s.fio.expired
    else if (src = 1 ∨ src = 2 ∨ src = 4) && s.dioExpired c then s.dioSafe c
    else if src = 1 && s.peer.duty ≠ .duty then false
    else s.dioValue c

/-- A latched fault that keeps an output off (R472 rule 4). -/
def DioChannel.latched (k : DioChannel) : Bool := k.overload || k.readback || k.groupOverload

/-- One output set by the first rule of R472 that applies; RESTART_WAIT clears when rules 6 to 10 give off. -/
def State.dioSet (s : State) (c : Nat) : State :=
  if s.dioDir c ≠ 2 then s
  else
    let k := s.dio c
    if s.fio.inReset || s.fio.inhibit || k.supplyOff || k.latched then s.onDio c fun k => { k with cmd := false, pulsing := false }
    else
      let v := s.dioTarget c
      if k.restartWait then s.onDio c fun k => { k with cmd := false, pulsing := false, restartWait := v }
      else s.onDio c fun k => { k with cmd := v, pulsing := k.pulsing && k.cmd = v }

/-- Every output set (R472). -/
def State.dioPass (s : State) : State := (List.range 32).foldl (fun s i => s.dioSet (i + 1)) s

/-- The 1 ms pass (R472). -/
def execOutputPass (t : Nat) (s : State) : Result :=
  let s := s.tick t
  if s.unitHeld 0x21 then .next s else .next s.dioPass

/-- Counters of the digital channels: kind 0 wire break, 1 EXT_DRIVE, 2 OVERLOAD, 3 READBACK, 4 GROUP_OVERLOAD, 5 failed
test pulses (R492). -/
def ctrDio (kind c : Nat) : Nat := 0x30F00000 + kind * 256 + c

/-- Whether a digital input reads ON, from its voltage (mV) and current (µA), by its type (R460). -/
def dioReads (type3 st : Bool) (mv ua : Nat) : Bool :=
  if (if type3 then 11000 else 15000) ≤ mv ∧ 2000 ≤ ua then true
  else if mv ≤ 5000 ∨ ua ≤ (if type3 then 1500 else 500) then false
  else st

/-- Whether the readback of an output reads high (R465). -/
def readbackReads (st : Bool) (mv : Nat) : Bool := if 11000 ≤ mv then true else if mv ≤ 5000 then false else st

/-- The channel that the peer's duty discrete is wired to (R401, R407). -/
def State.discreteChannel (s : State) : Nat := s.paramN 0x71010005

/-- DIO_INPUT_ACCEPT: the voltage (mV) and current (µA) in which the samples of an input, or the readback of an output, have agreed for
the filter time (R460, R461, R465). The first sample of the agreeing run lies one filter time back (R463); a change with COS_EVENT is
sent at once (R484); the peer's duty discrete is counted at the next strobe (R401). -/
def execDioInputAccept (t c mv ua : Nat) (s : State) : Result :=
  let s := s.tick t
  if s.unitHeld 0x21 then .next s else
  if s.dioDir c = 0 then .next s
  else
    let k := s.dio c
    let input : Bool := s.dioDir c = 1
    let v := if input then dioReads (u8 (s.dioEntry c) 1 = 3) k.st mv ua else readbackReads k.st mv
    let s1 := s.onDio c fun k => { k with st := v, level := if input then ua / 10 else ua / 1000 }
    let s2 : State := if decide (s.paramN 0x71010001 = 1) && decide (c = s.discreteChannel) then { s1 with peer.discrete := v } else s1
    if input && 29 ≤ c && s.dioFlag c 4 && decide (v ≠ k.st) then
      .next (s2.send (0x0041 + (c - 29)) (s.now - u16 (s.dioEntry c) 2 * 20 * usNs) 0 (le 4 (b2n v + 2 * b2n (s2.dioValid c))))
    else .next s2

/-- DUTY_DISCRETE_CHANGE: the input the peer's duty discrete is wired to changes (R401): it is counted at the next strobe. -/
def execDutyDiscreteChange (t : Nat) (high : Bool) (s : State) : Result :=
  let s := s.tick t
  if s.unitHeld 0x21 then .next s
  else
    let s1 := s.onDio s.discreteChannel fun k => { k with st := high }
    .next { s1 with peer.discrete := high }

/-- WIRE_BREAK set or cleared with its event (R462). -/
def State.wireBreak (s : State) (c : Nat) (v : Bool) : State :=
  if s.dioDir c = 1 && c ≤ 28 && s.dioFlag c 1 && (s.dio c).wireBreak ≠ v then
    let s1 := (s.onDio c fun k => { k with wireBreak := v }).raise 0x3002 [c, b2n v]
    if v then s1.count (ctrDio 0 c) else s1
  else s

/-- Input current below 0.3 mA for 100 ms, while the input reads OFF (R462). -/
def execWireBreakSet (t c : Nat) (s : State) : Result :=
  let s := s.tick t
  if s.unitHeld 0x21 ∨ (s.dio c).st = true then .next s else .next (s.wireBreak c true)

/-- Input current of 0.5 mA or more for 100 ms (R462). -/
def execWireBreakClear (t c : Nat) (s : State) : Result :=
  let s := s.tick t
  if s.unitHeld 0x21 then .next s else .next (s.wireBreak c false)

/-- An output commanded off with readback high for 5 ms (R466). -/
def State.extDrive (s : State) (c : Nat) : State :=
  if s.dioDir c = 2 && !(s.dio c).extDrive then
    ((s.onDio c fun k => { k with extDrive := true, forced := none }).raise 0x3003 [c, 1]).count (ctrDio 1 c)
  else s

/-- EXT_DRIVE_FAULT: an output commanded off whose readback, in mV, has read high for more than 5 ms (R465, R466). -/
def execExtDriveFault (t c mv : Nat) (s : State) : Result :=
  let s := s.tick t
  if s.unitHeld 0x21 then .next s else
  .next (if (s.dio c).cmd || !readbackReads (s.dio c).st mv then s else s.extDrive c)

/-- An output in current limit for tLIM (R466). -/
def execOutputOverload (t c : Nat) (s : State) : Result :=
  let s := s.tick t
  if s.unitHeld 0x21 then .next s else
  if s.dioDir c = 2 && (s.dio c).cmd && !(s.dio c).overload then
    .next (((s.onDio c fun k => { k with overload := true, cmd := false, pulsing := false }).raise 0x3004 [c, 1]).count (ctrDio 2 c))
  else .next s

/-- READBACK_FAULT: an output commanded on, not in current limit, whose readback, in mV, has been below the measured supply minus 1.5 V for
5 ms (R465, R466). -/
def execReadbackFault (t c mv : Nat) (s : State) : Result :=
  let s := s.tick t
  if s.unitHeld 0x21 then .next s else
  if s.dioDir c = 2 && (s.dio c).cmd && !(s.dio c).readback && decide (mv + 1500 < 10 * (s.supplyOf c).volts) then
    .next (((s.onDio c fun k => { k with readback := true, cmd := false, pulsing := false }).raise 0x3005 [c, 1]).count (ctrDio 3 c))
  else .next s

/-- The channels of connector group g (0 to 3). -/
def groupChannels (g : Nat) : List Nat := (List.range 8).map fun i => 8 * g + i + 1

/-- GROUP_OVERLOAD_FAULT: the output currents of a connector group in mA, as they have been for 50 ms; with a sum above 4.0 A the
highest-numbered channel that is on is latched off (R464, R466). -/
def execGroupOverloadFault (t g : Nat) (currents : List Nat) (s : State) : Result :=
  let s := s.tick t
  if s.unitHeld 0x21 then .next s else
  let s := (groupChannels g).zipIdx.foldl (fun (s : State) p =>
    if s.dioDir p.1 = 2 then s.onDio p.1 fun k => { k with level := currents.getD p.2 0 } else s) s
  let sum := (groupChannels g).foldl (fun n c => if s.dioDir c = 2 then n + (s.dio c).level else n) 0
  match (groupChannels g).reverse.find? fun c => s.dioDir c = 2 && (s.dio c).cmd with
  | none => .next s
  | some c =>
    if sum ≤ 4000 then .next s
    else
      .next (((s.onDio c fun k => { k with groupOverload := true, cmd := false, pulsing := false }).raise 0x3006 [c, 1]).count
        (ctrDio 4 c))

/-- The channel of a group to pulse next: ascending from the one pulsed last, on, with TEST_PULSE, not forced (R467). -/
def State.pulseNext (s : State) (g : Nat) : Option Nat :=
  let last := s.fio.pulseAt.getD g 0
  let ok (c : Nat) : Bool :=
    s.dioDir c = 2 && (s.dio c).cmd && s.dioFlag c 2 && (s.dio c).forced.isNone && !(s.supplyOf c).st.under
  let cs := (List.range 8).map fun i => 8 * g + i + 1
  match cs.find? fun c => decide (last < c) && ok c with
  | some c => some c
  | none => cs.find? ok

/-- The test pulses after a dispatch, one per connector group (R467). -/
def State.testPulses (s : State) : State :=
  (List.range 4).foldl (fun (s : State) g =>
    match s.pulseNext g with
    | none => s
    | some c =>
      let s1 := s.onDio c fun k => { k with pulsing := true, pulseSince := s.now }
      { s1 with fio.pulseAt := setAt s1.fio.pulseAt g fun _ => c }) s

/-- OUTPUT_TEST_PULSE_END: the test pulse width is over; the pulse fails when the readback, in mV, has not read low by then (R465 to
R467, R491). -/
def execOutputTestPulseEnd (t c mv : Nat) (s : State) : Result :=
  let s := s.tick t
  if s.unitHeld 0x21 then .next s else
  if !(s.dio c).pulsing ∨ s.now < (s.dio c).pulseSince + s.paramN 0x30010002 * usNs then .next s
  else if mv ≤ 5000 then .next (s.onDio c fun k => { k with pulsing := false, testFails := 0 })
  else
    let n := (s.dio c).testFails + 1
    let s1 := (s.onDio c fun k => { k with pulsing := false, testFails := n }).count (ctrDio 5 c)
    .next (if 2 ≤ n then s1.extDrive c else s1)

/-- Every output and analogue output remembers its value for HOLD. -/
def State.noteExpiry (s : State) : State :=
  { s with
    fio.channels := s.fio.channels.map fun (k : DioChannel) => { k with atExpiry := k.cmd }
    fio.outputs := s.fio.outputs.map fun (o : AnalogOut) => { o with atExpiry := o.code } }

/-- The bits of the channel status that a write of 1 clears: 7 EXT_DRIVE, 8 OVERLOAD, 9 READBACK, 10 GROUP_OVERLOAD (R482). -/
def DioChannel.clearBits (k : DioChannel) (mask : Nat) : DioChannel :=
  { k with
    extDrive := k.extDrive && !bit mask 7
    testFails := if bit mask 7 then 0 else k.testFails
    overload := k.overload && !bit mask 8
    readback := k.readback && !bit mask 9
    groupOverload := k.groupOverload && !bit mask 10 }

/-- The same bits as the hardware sets them in the cycle of a clear (R18). -/
def DioChannel.setBits (k : DioChannel) (mask : Nat) : DioChannel :=
  { k with
    extDrive := k.extDrive || bit mask 7
    overload := k.overload || bit mask 8
    readback := k.readback || bit mask 9
    groupOverload := k.groupOverload || bit mask 10 }

/-- The events of faults that cleared. -/
def State.clearedEvents (s : State) (c : Nat) (old new : DioChannel) : State :=
  (((s.raiseIf (old.extDrive && !new.extDrive) 0x3003 [c, 0]).raiseIf (old.overload && !new.overload) 0x3004 [c, 0]).raiseIf
    (old.readback && !new.readback) 0x3005 [c, 0]).raiseIf (old.groupOverload && !new.groupOverload) 0x3006 [c, 0]

/-- A write of 1 to latched fault bits of a channel status (R468). `present`: the bits whose condition is still there, or that
the hardware sets in the same cycle; they are set after the write (R18). -/
def State.clearChannel (s : State) (c mask present : Nat) : State :=
  let old := s.dio c
  let new := (old.clearBits mask).setBits present
  let wait := old.latched && !new.latched && s.dioFlag c 3
  ((s.onDio c fun _ => { new with restartWait := new.restartWait || wait }).clearedEvents c old new).dioPass

/-- An operand of a logic term in the pass under way (R475, R476). -/
def State.operand (s : State) (n : Nat) : Bool :=
  if n < 0x20 then s.dioValid (n + 1) && (s.dio (n + 1)).st
  else if 0x40 ≤ n ∧ n < 0x80 then bit s.fio.cmdBits (n - 0x40)
  else if 0x80 ≤ n ∧ n < 0xC0 then (s.fio.terms.getD (n - 0x80) { out := false, ones := 0, zeros := 0 }).out
  else if n = 0xC1 then true
  else if n = 0xC2 then !s.fio.fld1.st.under
  else if n = 0xC3 then !s.fio.fld2.st.under
  else if 0xC8 ≤ n ∧ n ≤ 0xCD then
    let x := s.fio.namur.getD (n - 0xC8) { st := false, valid := false }
    x.valid && x.st
  else false

/-- One term of the pass (R476). -/
def State.logicTerm (s : State) (i : Nat) : State :=
  match s.entry? 0x30 0x04 i with
  | none => s
  | some e =>
    let ins := (List.range 4).foldl (fun n k => n + 2 ^ k * b2n (s.operand (u8 e k))) 0
    let v := bit (u16 e 4) ins
    { s with fio.terms := setAt s.fio.terms i fun (x : LogicTerm) =>
        if v then { out := x.out || decide (u16 e 6 ≤ x.ones), ones := x.ones + 1, zeros := 0 }
        else { out := x.out && !decide (u16 e 8 ≤ x.zeros), ones := 0, zeros := x.zeros + 1 } }

/-- The 1 ms pass over the terms, in ascending order (R476). -/
def execLogicTermPass (t : Nat) (s : State) : Result :=
  let s := s.tick t
  if s.unitHeld 0x21 then .next s else
  .next ((List.range 64).foldl (fun s i => s.logicTerm i) s)

/-- On CUTOFF every output of the group is switched off and SUPPLY_OFF latches (R478). -/
def State.cutoff (s : State) (second : Bool) : State :=
  { s with fio.channels := s.fio.channels.zipIdx.map fun p =>
      if onFld2 (p.2 + 1) = second && s.dioDir (p.2 + 1) = 2 then
        { p.1 with cmd := false, pulsing := false, supplyOff := true } else p.1 }

/-- On recovery SUPPLY_OFF clears; RESTART_INHIBIT sets RESTART_WAIT (R479). -/
def State.supplyBack (s : State) (second : Bool) : State :=
  let back (p : DioChannel × Nat) : DioChannel :=
    if onFld2 (p.2 + 1) = second && p.1.supplyOff then
      { p.1 with supplyOff := false, restartWait := p.1.restartWait || s.dioFlag (p.2 + 1) 3 }
    else p.1
  let s1 : State := { s with fio.channels := s.fio.channels.zipIdx.map back }
  s1.dioPass

/-- The next state of a supply group, in 10 mV: `peak` is the highest voltage of the last 1 ms, `least` the lowest of the last 100 ms
(R477). -/
def SupplyState.follow (x : SupplyState) (peak least : Nat) : SupplyState :=
  if peak < 1200 then .cutoff
  else if x.under then
    if least < 1600 then (if x = .cutoff then .cutoff else .undervoltage) else if 1960 ≤ least then .normal else .warning
  else if peak < 1600 then .undervoltage
  else if peak < 1920 then .warning
  else if x = .warning ∧ least < 1960 then .warning
  else .normal

/-- FIELD_SUPPLY_STATE: the voltage of a supply group (0 FLD-1, 1 FLD-2), the highest of the last 1 ms and the lowest of the last 100 ms,
in 10 mV (R477 to R479). -/
def execFieldSupplyState (t group volts peak least : Nat) (s : State) : Result :=
  let s := s.tick t
  let second := group = 1
  let old := if second then s.fio.fld2 else s.fio.fld1
  let v : Supply := { st := old.st.follow peak least, volts := volts }
  let s1 := if second then { s with fio.fld2 := v } else { s with fio.fld1 := v }
  if v.st = old.st then .next s1
  else
    let s2 := s1.raise 0x3001 [group + 1, v.st.code]
    if v.st = .cutoff then .next (s2.cutoff second)
    else if old.st = .cutoff then .next (s2.supplyBack second)
    else .next s2

/-- NAMUR_LINE_FAULT: the loop current, in µA, that a NAMUR input has had for its filter time: a line break or short, or its end; input 0 to
5, ELP1 N1 to ELP3 N2 (R419, R487). -/
def execNamurLineFault (t i ua : Nat) (s : State) : Result :=
  let s := s.tick t
  if s.unitHeld 0x21 then .next s else
  let old := s.fio.namur.getD i { st := false, valid := false }
  let present := namurFault ua
  if old.valid = !present then .next s
  else
    let s1 := { s with fio.namur := setAt s.fio.namur i fun (x : Namur) => { x with valid := !present } }
    let s2 := s1.raise 0x3301 [i / 2 + 1, i % 2 + 1, b2n present]
    .next (if present then s2.count (0x33F00000 + i) else s2)

/-- NAMUR_INPUT_ACCEPT: the loop current, in µA, in which the samples have agreed for the port's filter time (R419, R487). -/
def execNamurInputAccept (t i ua : Nat) (s : State) : Result :=
  let s := s.tick t
  if s.unitHeld 0x21 then .next s else
  .next { s with fio.namur := setAt s.fio.namur i fun (x : Namur) => { x with st := namurReads x.st ua } }

/-- At a power failure the energy-limited ports lose supply: their readings are invalid (R485). -/
def State.elpLoss (s : State) : State :=
  let loop (x : AnalogIn) : Bool := 0x30 ≤ x.source && x.source ≤ 0x35
  let lost := s.fio.inputs.filter fun x => loop x && x.valid
  let s1 : State :=
    { s with
      fio.namur := s.fio.namur.map fun (x : Namur) => { x with valid := false }
      fio.inputs := s.fio.inputs.map fun (x : AnalogIn) =>
        if loop x && x.valid then { x with valid := false, validSince := s.now } else x }
  lost.foldl (fun s x => s.raise 0x3302 [x.source, 0]) s1

/-- Bit c − 1 for every channel for which a property holds. -/
def dioBits (f : Nat → Bool) : Nat := (List.range 32).foldl (fun n i => n + 2 ^ i * b2n (f (i + 1))) 0

/-- Any of bits 11:6 of a channel (R483). -/
def DioChannel.fault (k : DioChannel) : Bool := k.supplyOff || k.latched || k.extDrive || k.wireBreak

/-- The digital sample, source 0x0040 (R483). -/
def State.dioSample (s : State) : List Byte :=
  let nm := (List.range 6).foldl (fun n i =>
    let x := s.fio.namur.getD i { st := false, valid := false }
    n + 4 ^ i * (b2n x.st + 2 * b2n x.valid)) 0
  le 4 (dioBits fun c => (s.dio c).st) ++ le 4 (dioBits s.dioValid) ++ le 4 (dioBits fun c => (s.dio c).cmd)
    ++ le 4 (dioBits fun c => (s.dio c).fault) ++ le 1 s.fio.fld1.st.code ++ le 1 s.fio.fld2.st.code
    ++ le 2 s.fio.fld1.volts ++ le 2 s.fio.fld2.volts ++ le 2 nm ++ le 8 0

/-- The channel status word (R482). -/
def State.dioStatus (s : State) (c : Nat) : Nat :=
  let k := s.dio c
  b2n k.st + 2 * b2n (s.dioValid c) + 4 * b2n k.cmd + 8 * b2n k.restartWait + 16 * b2n k.forced.isSome
    + 32 * b2n (s.supplyOf c).st.under + 64 * b2n k.wireBreak + 128 * b2n k.extDrive + 256 * b2n k.overload
    + 512 * b2n k.readback + 1024 * b2n k.groupOverload + 2048 * b2n k.supplyOff + 65536 * (k.level % 65536)

/-- DIO_HOST_OUTPUT (R469, R583). -/
def effDioHostOutput : Effect := fun s _ p _ =>
  let mask := u32 p 0
  let v := u32 p 4
  let named := (List.range 32).filterMap fun i => if bit mask i then some (i + 1) else none
  if named.any fun c => s.dioDir c ≠ 2 || s.dioSource c ≠ 4 then refused s stConditions
  else
    served ((named.foldl (fun s c => s.onDio c fun k =>
      { k with hostValue := bit v (c - 1), hostAt := s.now, hostExpired := false }) s).dioPass)

/-- DIO_FORCE (R473, R583). -/
def effDioForce : Effect := fun s _ p _ =>
  let c := u8 p 0
  let a := u8 p 1
  if c = 0 ∨ 32 < c ∨ 2 < a ∨ u16 p 2 ≠ 0 then refused s stBadValue
  else if s.dioDir c ≠ 2 ∨ (a ≠ 0 ∧ (s.dio c).extDrive) then refused s stConditions
  else served ((s.onDio c fun k => { k with forced := if a = 0 then none else some (a = 2) }).dioSet c)

/-- DIO_OUTPUT_TEST (R473): the named channels must be outputs; its completion reports the test. -/
def effDioOutputTest : Effect := fun s _ p _ =>
  let mask := u32 p 0
  if (List.range 32).any fun i => bit mask i && s.dioDir (i + 1) ≠ 2 then refused s stConditions
  else accepted s

/-- Leaving MAINTENANCE removes every force (R473, R515). -/
def State.unforce (s : State) : State :=
  let s1 : State := { s with
    fio.channels := s.fio.channels.map fun (k : DioChannel) => { k with forced := none }
    fio.outputs := s.fio.outputs.map fun (o : AnalogOut) => { o with forced := none } }
  s1.dioPass

end Sys2Proof.Machine
end

