-- ==== Sys2Proof/Machine/Analogue.lean ====
section
/-!
DEFINITION. Analogue inputs, filter chains, pulse inputs, analogue outputs and calibration (R493 to R522).
-/

namespace Sys2Proof.Machine

/-- Nanoseconds between two samples (R495). -/
def adcNs : Nat := 20000

/-- Mode of an input by its source code: 0 Off, 1 ±10 V, 2 0–20 mA, 3 4–20 mA (R493). -/
def State.inputMode (s : State) (source : Nat) : Nat :=
  if source ≤ 0x10 then s.paramN (0x31010000 + source)
  else if source ≤ 0x22 then 1
  else if source ≤ 0x29 then 3
  else if source ≤ 0x35 then (if bit (s.paramN 0x33010004) (source - 0x30) then 3 else 0)
  else
    match u8 ((s.entry? 0x31 0x03 (source - 0x40)).getD []) 0 with
    | 1 => 1
    | 2 => 2
    | _ => 0

/-- Whether a code lies in the valid range of a mode (R496); 3.6 mA is 1 179 648 codes. -/
def inRange (mode : Nat) (code : Int) : Bool :=
  match mode with
  | 1 => -8355840 ≤ code ∧ code ≤ 8355840
  | 2 => -163840 ≤ code ∧ code ≤ 6881280
  | 3 => 1179648 ≤ code ∧ code ≤ 6881280
  | _ => false

/-- An analogue input by its source code. -/
def State.input? (s : State) (source : Nat) : Option AnalogIn := s.fio.inputs.find? fun x => x.source = source

/-- An analogue input changed. -/
def State.onInput (s : State) (source : Nat) (f : AnalogIn → AnalogIn) : State :=
  { s with fio.inputs := s.fio.inputs.map fun (x : AnalogIn) => if x.source = source then f x else x }

/-- The hold of a calibration covers an instant: from its start, 40 ms (R518, R519). -/
def Calibration.holds (c : Calibration) (now : Nat) : Bool := c.start.all fun t0 => decide (now < t0 + 40 * msNs)

/-- A converter code with the calibration of its channel applied: gain in ppm, offset in ppm of 10 V or 20 mA, cut to 24 bits (R495,
R518; DESIGN CHOICE, log 118). -/
def AnalogIn.calibrated (x : AnalogIn) (mode : Nat) (code : Int) : Int :=
  let full : Int := if mode = 1 then 8192000 else 6553600
  clampInt (-8388608) 8388607 (divRound (code * (1000000 + x.gain) + x.offset * full) 1000000)

/-- The sample an input delivers at an instant: held during a calibration (R518); a loop input without supply is invalid (R485). -/
def AnalogIn.sample (x : AnalogIn) (now mode : Nat) (supplied : Bool) (raw : Int) : AnalogIn :=
  match x.cal.filter fun c => c.holds now with
  | some c =>
    { x with
      code := c.held
      window := (c.held :: x.window).take 50
      cal := some { c with start := some (c.start.getD now) } }
  | none =>
    let code := x.calibrated mode raw
    let out := !inRange mode code
    let ok := !out && !x.shuntOpen && supplied
    { x with
      code := code
      window := (code :: x.window).take 50
      overrange := out
      valid := ok
      validSince := if ok = x.valid then x.validSince else now }

/-- Counters of the analogue unit: kind 0 out-of-range samples, 1 overload openings per input; 2 quadrature errors per pulse
input; 3 output faults per output; 4 saturations per chain (R522). -/
def ctrAnalog (kind i : Nat) : Nat := 0x31F00000 + kind * 256 + i

/-- The stages of a chain entry as (N, D, s): a preset's (R505), or its own (R504). -/
def chainStages (e : List Byte) : List (Nat × Nat × Nat) :=
  match u8 e 1 with
  | 1 => [(16, 1, 4), (16, 10, 4)]
  | 2 => [(16, 1, 4), (16, 5, 4), (32, 1, 5), (4, 10, 2)]
  | 3 => [(16, 5, 4), (128, 10, 7), (8, 5, 3)]
  | 4 => [(16, 5, 4), (128, 10, 7), (64, 4, 6), (2, 5, 1)]
  | _ => (List.range (u8 e 2)).map fun i => (u16 e (8 + 8 * i), u16 e (10 + 8 * i), u8 e (12 + 8 * i))

/-- Total decimation of some stages. -/
def decimation (st : List (Nat × Nat × Nat)) : Nat := st.foldl (fun d x => d * x.2.1) 1

/-- Twice the group delay in input samples: Σ (N_i − 1) × D_1 × … × D_(i−1) (R506). -/
def spanSamples (st : List (Nat × Nat × Nat)) : Nat :=
  (st.foldl (fun (a : Nat × Nat) x => (a.1 + (x.1 - 1) * a.2, a.2 * x.2.1)) (0, 1)).1

/-- One stage takes an input (R503): its window, and its result when it holds N inputs. -/
def stageIn (win : List (Int × Bool)) (n sh : Nat) (v : Int × Bool) : List (Int × Bool) × Option (Int × Bool) :=
  let w := (v :: win).take n
  if w.length < n then (w, none)
  else
    let sum := w.foldl (fun a x => a + x.1) 0
    let r := shrRound sum sh
    (w, some (sat32 r, (sat32 r ≠ r) || w.any fun x => x.2))

/-- The stages in order, each passing on the results at its instants (R503): `d` is the decimation so far, in samples. -/
def stagesIn (idx : Nat) : Nat → List (Nat × Nat × Nat) → List (List (Int × Bool)) → Int × Bool →
    List (List (Int × Bool)) × Option (Int × Bool)
  | _, [], ws, v => (ws, some v)
  | _, _ :: _, [], v => ([], some v)
  | d, (n, dec, sh) :: st, w :: ws, v =>
    let (w', out) := stageIn w n sh v
    match out with
    | none => (w' :: ws, none)
    | some r =>
      if idx % (d * dec) = 0 then
        let (ws', o) := stagesIn idx (d * dec) st ws r
        (w' :: ws', o)
      else (w' :: ws, none)

/-- A sample into detector sums (R509). -/
def Detect.add (d : Detect) (x : Int) (e : Nat) : Detect :=
  { count := d.count + 1
    hi := if d.count = 0 then x else max d.hi x
    lo := if d.count = 0 then x else min d.lo x
    squares := d.squares + x.natAbs * x.natAbs
    env := e }

/-- Two consecutive detector sums as one. -/
def Detect.merge (a b : Detect) : Detect :=
  if b.count = 0 then a else if a.count = 0 then b
  else { count := a.count + b.count, hi := max a.hi b.hi, lo := min a.lo b.lo, squares := a.squares + b.squares, env := b.env }

/-- √(Σx²/M) rounded half up. -/
def Detect.rms (d : Detect) : Nat := if d.count = 0 then 0 else (isqrt (4 * d.squares / d.count) + 1) / 2

/-- The packed sample under construction, as bytes (R510). -/
def Chain.packed (k : Chain) (e : List Byte) (period : Nat) : List Byte :=
  let det := u8 e 3
  let d := k.covered
  le 2 k.values.length ++ le 2 k.flags ++ le 4 period
    ++ leInt 4 (if bit det 0 then d.hi else 0) ++ leInt 4 (if bit det 0 then d.lo else 0)
    ++ le 4 (if bit det 1 then d.rms else 0) ++ le 4 (if bit det 2 then d.env else 0)
    ++ k.values.flatMap (leInt 4)

/-- A chain of the unit. -/
def State.chain (s : State) (i : Nat) : Chain := s.fio.chains.getD i .restart

/-- A chain changed. -/
def State.setChain (s : State) (i : Nat) (k : Chain) : State :=
  { s with fio.chains := setAt s.fio.chains i fun _ => k }

/-- The packed sample of chain i closes and goes to the snapshot builder (R510). -/
def State.closeChain (s : State) (i : Nat) (e : List Byte) : State :=
  let k := s.chain i
  if k.values.isEmpty then s
  else
    let s1 := s.send (0x0200 + i) k.first (2 * b2n (bit k.flags 0) + 4 * b2n (bit k.flags 1))
      (k.packed e (adcNs * decimation (chainStages e)))
    s1.setChain i { k with values := [], covered := .none }

/-- A value of chain i with its flags joins the packed sample (R508, R510). -/
def State.chainValue (s : State) (i : Nat) (e : List Byte) (v : Int × Bool) : State :=
  let k := s.chain i
  let st := chainStages e
  let span := spanSamples st * adcNs
  let within (o : Option Nat) : Bool :=
    match o with
    | some t0 => decide (s.now ≤ t0 + span)
    | none => false
  let flags := b2n (within k.lastInvalid) + 2 * b2n (within k.lastCal) + 4 * b2n v.2 + 8 * b2n k.restarted
  let s1 := if k.values.isEmpty ∨ k.flags = flags then s else s.closeChain i e
  let k1 := s1.chain i
  let newEpisode := v.2 && (match k.satRun with | none => true | some n => decide (100 ≤ n))
  let k2 : Chain :=
    { k1 with
      restarted := false
      latest := v.1
      flags := flags
      first := if k1.values.isEmpty then s.now - span / 2 else k1.first
      values := k1.values ++ [v.1]
      covered := k1.covered.merge k1.after
      after := .none
      satRun := if v.2 then some 0 else k.satRun.map (· + 1) }
  let s2 := (((s1.setChain i k2).raiseIf k.restarted 0x3201 [i]).raiseIf newEpisode 0x3202 [i])
  let s3 := if v.2 then s2.count (ctrAnalog 4 i) else s2
  if 240 ≤ k2.values.length then s3.closeChain i e else s3

/-- Chain i takes the present sample of its input (R503, R508, R509). -/
def State.chainSample (s : State) (i : Nat) : State :=
  match s.entry? 0x32 0x02 i with
  | none => s
  | some e =>
    match s.input? (u8 e 0) with
    | none => s
    | some x =>
      let k := s.chain i
      let mag := x.code.natAbs
      let env := max mag (k.env - k.env / 2 ^ u8 e 4)
      let (ws, out) := stagesIn (s.now / adcNs) 1 (chainStages e) k.stages (x.code, false)
      let k1 : Chain :=
        { k with
          stages := ws
          lastInvalid := if x.valid then k.lastInvalid else some s.now
          lastCal := if x.cal.any fun c => c.start.isSome && c.holds s.now then some s.now else k.lastCal
          after := k.after.add x.code env
          env := env }
      let s1 := s.setChain i k1
      match out with
      | none => s1
      | some v => s1.chainValue i e v

/-- A sample of one input (R495, R496), with LOOP_VALIDITY (R488); an input that is Off delivers none. -/
def State.takeSample (s : State) (source : Nat) (code : Int) : State :=
  match s.input? source with
  | none => s
  | some x =>
    let mode := s.inputMode source
    let loop : Bool := 0x30 ≤ source && source ≤ 0x35
    if mode = 0 then s.onInput source fun x => { x with valid := false, overrange := false }
    else
      let y := x.sample s.now mode (!loop || s.power.pfSince.isNone) code
      let s1 := s.onInput source fun _ => y
      let held : Bool := x.cal.any fun c => c.holds s.now
      let s2 := if y.overrange && !held then s1.count (ctrAnalog 0 source) else s1
      s2.raiseIf (loop && y.valid ≠ x.valid) 0x3302 [source, b2n y.valid]

/-- ADC_SAMPLE: every converter samples once at each instant of monotonic time that is a multiple of 20 µs (R495), and the chains
follow. -/
def execAdcSample (t : Nat) (codes : List (Nat × Int)) (s : State) : Result :=
  let s := s.tick t
  if s.unitHeld 0x21 then .next s else
  if s.now % adcNs ≠ 0 ∨ s.fio.sampledAt = some s.now then .next s
  else
    let s1 := codes.foldl (fun s c => s.takeSample c.1 c.2) { s with fio.sampledAt := some s.now }
    .next ((List.range 24).foldl (fun s i => s.chainSample i) s1)

/-- VALID has held a new value for 100 ms (R496). -/
def execInputValidityChange (t source : Nat) (s : State) : Result :=
  let s := s.tick t
  if s.unitHeld 0x21 then .next s else
  match s.input? source with
  | none => .next s
  | some x =>
    if x.valid ≠ x.told ∧ x.validSince + 100 * msNs ≤ s.now then
      .next ((s.onInput source fun x => { x with told := x.valid }).raise 0x3101 [source, b2n x.valid])
    else .next s

/-- The shunt of a channel opens (R497). -/
def State.openShunt (s : State) (source : Nat) : State :=
  ((s.onInput source fun (x : AnalogIn) =>
    { x with shuntOpen := true, shuntAt := s.now, valid := false,
             validSince := if x.valid then s.now else x.validSince }).raise 0x3102 [source, 1]).count (ctrAnalog 1 source)

/-- SHUNT_OPEN: a current, in µA, above 30 mA for 1 ms (R497). -/
def execShuntOpen (t source ua : Nat) (s : State) : Result :=
  let s := s.tick t
  if s.unitHeld 0x21 then .next s else
  match s.input? source with
  | none => .next s
  | some x => if s.inputMode source < 2 ∨ x.shuntOpen ∨ ua ≤ 30000 then .next s else .next (s.openShunt source)

/-- SHUNT_RETEST: 10 ms after the shunt has closed for its test, 1 s after it opened; it stays closed if the current, in µA, is at most
30 mA, and else opens again (R497). -/
def execShuntRetest (t source ua : Nat) (s : State) : Result :=
  let s := s.tick t
  if s.unitHeld 0x21 then .next s else
  match s.input? source with
  | none => .next s
  | some x =>
    if !x.shuntOpen ∨ s.now < x.shuntAt + 1010 * msNs then .next s
    else if ua ≤ 30000 then
      .next ((s.onInput source fun (x : AnalogIn) => { x with shuntOpen := false }).raise 0x3102 [source, 0])
    else .next (s.openShunt source)

/-- PACKED_SAMPLE_CLOSE: 0.1 ms before the cut-off every packed sample closes (R78, R510). -/
def execPackedSampleClose (t : Nat) (s : State) : Result :=
  let s := s.tick t
  if s.unitHeld 0x21 ∨ (s.frame.begun = true ∧ s.now + 600 * usNs < s.frame.nextStrobe) then .next s else
  .next ((List.range 24).foldl (fun s i =>
    match s.entry? 0x32 0x02 i with
    | none => s
    | some e => s.closeChain i e) s)

/-- One step of the count of a pulse input for a mode and the change of its lines (R500). -/
def PulseIn.delta (p : PulseIn) (mode : Nat) (a b : Bool) : Int :=
  let rise := a && !p.a
  match mode with
  | 1 => if rise then 1 else 0
  | 2 => if rise then (if b then 1 else -1) else 0
  | _ =>
    if a ≠ p.a ∧ b = p.b then (if a ≠ b then 1 else -1)
    else if b ≠ p.b ∧ a = p.a then (if a = b then 1 else -1)
    else 0

/-- An edge on a line of pulse input i (0 or 1): new levels of A and B (R500). -/
def execPulseInputEdge (t i : Nat) (a b : Bool) (s : State) : Result :=
  let s := s.tick t
  if s.unitHeld 0x21 then .next s else
  let mode := s.paramN (0x3101001A + i)
  let filter := s.paramN 0x3101001D * 100
  let p := s.fio.pulses.getD i .reset
  let near (o : Option Nat) : Bool :=
    match o with
    | some t0 => decide (s.now < t0 + filter)
    | none => false
  let ea := a ≠ p.a
  let eb := b ≠ p.b
  let single : Bool := !(ea ∧ eb) && !(ea && near p.lastB) && !(eb && near p.lastA)
  let lines : PulseIn :=
    { p with
      before := if single ∨ (ea ∧ eb) then (p.count, p.quarter, p.edgeAt) else p.before
      a := a
      b := b
      lastA := if ea then some s.now else p.lastA
      lastB := if eb then some s.now else p.lastB }
  let put (p : PulseIn) (s : State) : State := { s with fio.pulses := setAt s.fio.pulses i fun _ => p }
  if mode = 0 ∨ 4 < mode ∨ (!ea ∧ !eb) then .next (put lines s)
  else if 3 ≤ mode ∧ ((ea ∧ eb) ∨ (ea ∧ near p.lastB) ∨ (eb ∧ near p.lastA)) then
    let tell :=
      match p.lastEvent with
      | none => true
      | some t0 => decide (t0 + 60 * secNs ≤ s.now)
    let p1 := { lines with count := lines.before.1, quarter := lines.before.2.1, edgeAt := lines.before.2.2, qerr := min 0xFFFF (p.qerr + 1), lastEvent := if tell then some s.now else p.lastEvent }
    .next (((put p1 s).raiseIf tell 0x3105 [i]).count (ctrAnalog 2 i))
  else if (ea ∧ near p.lastA) ∨ (eb ∧ near p.lastB) then .next (put lines s)
  else
    let d := p.delta mode a b
    let q := p.quarter + d
    let step : Int := if mode = 3 then (if q = 4 then 1 else if q = -4 then -1 else 0) else d
    .next (put { lines with
                 count := p.count + BitVec.ofInt 32 step
                 quarter := if mode = 3 ∧ step = 0 then q else 0
                 edgeAt := if step = 0 then p.edgeAt else s.now } s)

/-- The pulse sample, source 0x0050, latched at the cut-off (R501); the error counts begin anew. -/
def State.pulseSample (s : State) : List Byte × State :=
  let p := s.fio.pulses.getD 0 .reset
  let q := s.fio.pulses.getD 1 .reset
  (le 4 p.count.toNat ++ le 4 q.count.toNat ++ le 8 p.edgeAt ++ le 8 q.edgeAt ++ le 4 (p.qerr + 65536 * q.qerr),
   { s with fio.pulses := s.fio.pulses.map fun (p : PulseIn) => { p with qerr := 0 } })

/-- The mapping entry of an output, 0 to 3 (R514). -/
def State.aoEntry (s : State) (i : Nat) : List Byte := (s.entry? 0x31 0x03 i).getD []

/-- A code limited under R513, and whether a limit acts. -/
def limitCode (mode : Nat) (v : Int) : Int × Bool :=
  let w := if mode = 2 then clampInt 9728 52480 v else clampInt (-32768) 32767 v
  (w, w ≠ v)

/-- The off value of an output: its code as the mode reads it (R514). -/
def aoOff (e : List Byte) : Int := if u8 e 0 = 1 then fieldInt e 12 2 else u16 e 12

/-- The value of an output's source (R514); `cmds` are CMD1 and CMD2 of the actuators as written. -/
def State.aoSource (s : State) (i : Nat) (cmds : Nat → Int × Int) : Int :=
  let e := s.aoEntry i
  let x : Int :=
    match u8 e 1 with
    | 1 => (cmds (u8 e 2)).1
    | 2 => (cmds (u8 e 2)).2
    | 4 => (s.chain (u8 e 2)).latest
    | _ => 0
  if u8 e 1 = 3 then (s.fio.outputs.getD i .reset).hostCode
  else i32 e 8 + ((BitVec.ofInt 32 x).toInt * i32 e 4 + 32768) / 65536

/-- One output set by the first rule of R515 that applies. -/
def State.aoSet (s : State) (cmds : Nat → Int × Int) (i : Nat) : State :=
  let e := s.aoEntry i
  let o := s.fio.outputs.getD i .reset
  let mode := u8 e 0
  let src := u8 e 1
  let put (v : Int × Bool) : State :=
    { s with fio.outputs := setAt s.fio.outputs i fun (o : AnalogOut) => { o with code := v.1, clamped := v.2 } }
  if s.fio.inReset ∨ mode = 0 ∨ s.fio.inhibit then put (0, false)
  else
    match o.forced with
    | some v => put (v, false)
    | none =>
      if s.fio.expired ∨ (src = 3 ∧ o.hostExpired) then
        put (if u8 e 3 = 1 then o.atExpiry else aoOff e, false)
      else if (src = 1 ∨ src = 2) ∧ s.peer.duty ≠ .duty then put (aoOff e, false)
      else if src = 0 then put (aoOff e, false)
      else put (limitCode mode (s.aoSource i cmds))

/-- The commands as last sent (R514). -/
def State.sentCmd (s : State) (a : Nat) : Int × Int :=
  match s.out.sent.find? fun c => c.num = a with
  | some c => (c.cmd1, c.cmd2)
  | none => (0, 0)

/-- Every analogue output written (R515). -/
def State.aoPass (s : State) : State := (List.range 4).foldl (fun s i => s.aoSet s.sentCmd i) s

/-- A host output not written for the host output timeout (R471): channel 1 to 32, or 33 to 36 for AO1 to AO4. -/
def execHostOutputTimeout (t c : Nat) (s : State) : Result :=
  let s := s.tick t
  if s.unitHeld 0x21 then .next s else
  let limit := s.paramN 0x30010003 * secNs
  if limit = 0 then .next s
  else if c ≤ 32 then
    if s.dioSource c = 4 && (s.dio c).hostAt + limit ≤ s.now && !(s.dio c).hostExpired then
      .next ((s.onDio c fun k => { k with hostExpired := true, atExpiry := k.cmd }).dioSet c)
    else .next s
  else
    let o := s.fio.outputs.getD (c - 33) .reset
    if u8 (s.aoEntry (c - 33)) 1 = 3 && o.hostAt + limit ≤ s.now && !o.hostExpired then
      let s1 : State := { s with fio.outputs := setAt s.fio.outputs (c - 33) fun (o : AnalogOut) =>
        { o with hostExpired := true, atExpiry := o.code } }
      .next (s1.aoSet s1.sentCmd (c - 33))
    else .next s

/-- The readback of an output differs from its code by more than 0.5 % of 10 V or 20 mA (R495, R513, R516). -/
def State.aoDeviates (s : State) (i : Nat) : Bool :=
  let code := (s.fio.outputs.getD i .reset).code
  let read := ((s.input? (0x40 + i)).map (·.code)).getD 0
  if u8 (s.aoEntry i) 0 = 1 then decide (40960 < (read - 256 * code).natAbs) else decide (32768 < (read - 128 * code).natAbs)

/-- An analogue output fault persists or ends: bit 0 OPEN_LOOP, 1 SHORT, 2 DEVIATION (R516). -/
def execAnalogueOutputFault (t i kind : Nat) (present : Bool) (s : State) : Result :=
  let s := s.tick t
  if s.unitHeld 0x21 then .next s else
  let o := s.fio.outputs.getD i .reset
  let mode := u8 (s.aoEntry i) 0
  let old := if kind = 0 then o.openLoop else if kind = 1 then o.short else o.deviation
  let possible :=
    if kind = 0 then decide (mode = 2 ∧ 2560 < o.code) else if kind = 1 then decide (mode = 1)
    else !o.openLoop && !o.short && s.aoDeviates i
  if old = present || (present && !possible) || (!present && decide (kind = 2) && possible) then .next s
  else
    let s1 : State := { s with fio.outputs := setAt s.fio.outputs i fun (o : AnalogOut) =>
      { o with
        openLoop := if kind = 0 then present else o.openLoop
        short := if kind = 1 then present else o.short
        deviation := if kind = 2 then present else o.deviation } }
    let s2 := s1.raise 0x3104 [i, kind, b2n present]
    .next (if present then s2.count (ctrAnalog 3 i) else s2)

/-- The output watchdog expires after WD frames without a dispatch (R471). -/
def execOutputWatchdogExpiry (t : Nat) (s : State) : Result :=
  let s := s.tick t
  if s.unitHeld 0x21 then .next s else
  if s.fio.inhibit || s.fio.expired || s.fio.undispatched < s.paramN 0x30010001 then .next s
  else
    let s1 := s.noteExpiry
    .next (({ s1 with fio.expired := true }.raise 0x3007 [1]).dioPass.aoPass)

/-- CALIBRATION_PHASE: the calibration moves to its next reference phase, of 4, each 8 ms after the one before (R518). -/
def execCalibrationPhase (t source : Nat) (s : State) : Result :=
  let s := s.tick t
  if s.unitHeld 0x21 then .next s else
  .next (s.onInput source fun (x : AnalogIn) =>
    { x with cal := x.cal.map fun c =>
        if c.phase < 4 && s.since c.start (8 * (c.phase + 1) * msNs) then { c with phase := c.phase + 1 } else c })

/-- At 40 ms the hold ends: offset and gain, in ppm from the factory values, adopted within ±0.2 % and ±0.5 % (R519). -/
def execCalibrationHoldEnd (t source : Nat) (offset gain : Int) (s : State) : Result :=
  let s := s.tick t
  if s.unitHeld 0x21 then .next s else
  match s.input? source with
  | none => .next s
  | some x =>
    match x.cal with
    | none => .next s
    | some c =>
      if !s.since c.start (40 * msNs) then .next s
      else
        let good := offset.natAbs ≤ 2000 ∧ gain.natAbs ≤ 5000
        let s1 := s.onInput source fun (x : AnalogIn) =>
          if good then { x with cal := none, calFail := false, offset := offset, gain := gain }
          else { x with cal := none, calFail := true }
        .next ((s1.raise 0x3103 [source, b2n good]).finish c.handle (if good then stOk else stDeviceFault) [])

/-- A channel calibration is in progress. -/
def State.calibrating (s : State) : Bool := s.fio.inputs.any fun x => x.cal.isSome

/-- AI_CALIBRATE (R517). -/
def effAiCalibrate : Effect := fun s _ p h =>
  let source := u8 p 0
  if field p 1 3 ≠ 0 ∨ !chainSources.contains source ∨ 0x2F < source then refused s stBadValue
  else
    match s.input? source with
    | none => refused s stBadValue
    | some x =>
      if s.inputMode source = 0 ∨ s.calibrating ∨ s.busyWith [0x3104] ∨ x.shuntOpen then refused s stConditions
      else
        accepted (s.onInput source fun (x : AnalogIn) =>
          { x with cal := some { handle := h, start := none, phase := 0, held := x.code } })

/-- CALIBRATE_ALL (R517): confined by its catalogue entry; its completion reports the result. -/
def effCalibrateAll : Effect := fun s _ p _ =>
  if 2 < u8 p 0 ∨ field p 1 3 ≠ 0 then refused s stBadValue
  else if s.calibrating ∨ 1 < (s.host.handles.filter fun h => h.outstanding && decide (h.opcode = 0x3104)).length then
    refused s stBusy
  else accepted s

/-- AO_HOST_OUTPUT (R514, R583). -/
def effAoHostOutput : Effect := fun s _ p _ =>
  let i := u8 p 0
  if 4 ≤ i ∨ u8 p 1 ≠ 0 then refused s stBadValue
  else if u8 (s.aoEntry i) 1 ≠ 3 then refused s stConditions
  else
    let v : Int := if u8 (s.aoEntry i) 0 = 1 then fieldInt p 2 2 else u16 p 2
    let s1 : State := { s with fio.outputs := setAt s.fio.outputs i fun (o : AnalogOut) =>
      { o with hostCode := v, hostAt := s.now, hostExpired := false } }
    served (s1.aoSet s1.sentCmd i)

/-- AO_FORCE (R515, R583). -/
def effAoForce : Effect := fun s _ p _ =>
  let i := u8 p 0
  let a := u8 p 1
  if 4 ≤ i ∨ 1 < a then refused s stBadValue
  else
    let v : Int := if u8 (s.aoEntry i) 0 = 1 then fieldInt p 2 2 else u16 p 2
    let s1 : State := { s with fio.outputs := setAt s.fio.outputs i fun (o : AnalogOut) =>
      { o with forced := if a = 1 then some v else none } }
    served (s1.aoSet s1.sentCmd i)

/-- The status of an input (R498). -/
def State.inputStatus (s : State) (source : Nat) : Nat :=
  match s.input? source with
  | none => 0
  | some x =>
    let mean := if x.window.isEmpty then 0 else divRound (x.window.foldl (· + ·) 0) x.window.length
    b2n (s.inputMode source ≠ 0) + 2 * b2n x.valid + 4 * b2n x.overrange + 8 * b2n x.shuntOpen
      + 16 * b2n (x.cal.any fun c => c.start.isSome && c.holds s.now) + 32 * b2n x.calFail + 256 * (mean % 16777216).toNat

/-- Chains whose entry differs between two banks restart (R507). -/
def State.restartChains (s : State) (changed : Nat → Bool) : State :=
  { s with fio.chains := s.fio.chains.zipIdx.map fun (p : Chain × Nat) => if changed p.2 then .restart else p.1 }

end Sys2Proof.Machine
end

