-- ==== Sys2Proof/Machine/Messages.lean ====
section
/-!
DEFINITION. Field descriptors of bus and serial messages: decoding of received samples and encoding for transmission
(R548 to R551).
-/

namespace Sys2Proof.Machine

/-- A field descriptor (R548). -/
structure FieldDesc where
  kind : Nat
  arg : Nat
  sgn : Bool
  big : Bool
  width : Nat
  pos : Nat
  gain : Int
  offset : Int
deriving DecidableEq, Repr

/-- The fields of a descriptor entry. -/
def FieldDesc.of (b : List Byte) : FieldDesc :=
  { kind := u8 b 0, arg := u8 b 1, sgn := bit (u8 b 2) 0, big := bit (u8 b 2) 1, width := u8 b 3, pos := u16 b 4,
    gain := i32 b 8, offset := i32 b 12 }

/-- The descriptors of a message: `count` of them from `first` (R546, R550, R554). -/
def Bank.descs (b : Bank) (first count : Nat) : List FieldDesc :=
  (List.range count).filterMap fun i => (b.entry? 0x40 0x06 (first + i)).map FieldDesc.of

/-- The raw value of a field (R548). -/
def FieldDesc.raw (d : FieldDesc) (bs : List Byte) : Nat :=
  if d.big then ofBe (slice bs (d.pos / 8) (d.width / 8)) else ofLe bs / 2 ^ d.pos % 2 ^ d.width

/-- Whether a message is long enough to hold every bit position of a field (R550). -/
def FieldDesc.fits (d : FieldDesc) (bs : List Byte) : Bool := d.pos + d.width ≤ 8 * bs.length

/-- The decoded value before saturation (R549). -/
def FieldDesc.decoded (d : FieldDesc) (bs : List Byte) : Int :=
  let raw : Int := if d.sgn then signed d.width (d.raw bs) else d.raw bs
  d.offset + (raw * d.gain + 32768) / 65536

/-- Whether the comparison of a READY or VALID field holds (R549). -/
def FieldDesc.test (d : FieldDesc) (bs : List Byte) : Bool :=
  (BitVec.ofNat 32 (d.raw bs) &&& BitVec.ofInt 32 d.gain) = BitVec.ofInt 32 d.offset

/-- A field written into a payload. -/
def FieldDesc.write (d : FieldDesc) (v : Nat) (bs : List Byte) : List Byte :=
  if d.big then
    let n := d.width / 8
    let be := (le n v).reverse
    (List.range bs.length).map fun i =>
      if d.pos / 8 ≤ i ∧ i < d.pos / 8 + n then be.getD (i - d.pos / 8) 0 else bs.getD i 0
  else
    let w := ofLe bs
    let low := w % 2 ^ d.pos
    let high := w / 2 ^ (d.pos + d.width)
    le bs.length (low + (v % 2 ^ d.width) * 2 ^ d.pos + high * 2 ^ (d.pos + d.width))

/-- Bytes that belong to a checksum field. -/
def checkBytes (ds : List FieldDesc) : List Nat :=
  (ds.filter fun d => d.kind = 0x0B ∨ d.kind = 0x0C).map fun d => d.pos / 8

/-- XOR8 or SUM8 of every payload byte outside all checksum fields (R549). -/
def checksum (kind : Nat) (ds : List FieldDesc) (bs : List Byte) : Byte :=
  let skip := checkBytes ds
  let use := (List.range bs.length).filter fun i => !skip.contains i
  use.foldl (fun (a : Byte) i => if kind = 0x0B then a ^^^ bs.getD i 0 else a + bs.getD i 0) 0

/-- Whether the received checksums are right. -/
def checksOk (ds : List FieldDesc) (bs : List Byte) : Bool :=
  ds.all fun d => if d.kind = 0x0B ∨ d.kind = 0x0C then d.raw bs = (checksum d.kind ds bs).toNat else true

/-- What the descriptors find in a received message (R549 to R551). -/
structure Decoded where
  /-- Long enough, checksums right, VALID not false. -/
  ok : Bool
  ready : Option Bool
  angle : Option Nat
  alive : Option Nat
  /-- Sensor time of day, ns. -/
  time : Option Nat
  /-- VALUE0 to VALUE15. -/
  values : List (Nat × Int)
  saturated : Nat
deriving DecidableEq, Repr

/-- Counter of the decode saturations of a mailbox or serial slot, by its source number (R549). -/
def ctrDecode (source : Nat) : Nat := 0x42F00000 + source

/-- A received message decoded. A time of day outside the UTC day counts modulo the day. -/
def decodeMessage (ds : List FieldDesc) (bs : List Byte) : Decoded :=
  let fits := ds.all fun d => d.fits bs
  let first (k : Nat) : Option FieldDesc := ds.find? fun d => d.kind = k && d.fits bs
  let valueKinds := ds.filter fun d => d.kind = 0x82 ∨ d.kind = 0x85 ∨ (0x90 ≤ d.kind ∧ d.kind ≤ 0x9F)
  { ok := fits && checksOk ds bs && ds.all fun d => d.kind ≠ 0x84 || d.test bs,
    ready := (first 0x81).map fun d => d.test bs,
    angle := (first 0x82).map fun d => (sat32 (d.decoded bs) % 4294967296).toNat,
    alive := (first 0x83).map fun d => d.raw bs,
    time := (first 0x85).map fun d => (sat32 (d.decoded bs) % 86400000000).toNat * 1000,
    values := (ds.filter fun d => 0x90 ≤ d.kind ∧ d.kind ≤ 0x9F).map fun d => (d.kind - 0x90, sat32 (d.decoded bs)),
    saturated := (valueKinds.filter fun d => sat32 (d.decoded bs) ≠ d.decoded bs).length }

/-- What transmission packs from (R549): actuator words, command bits, mode and health codes. -/
structure PackSource where
  /-- FX, FY, CMD1, CMD2, STATE by actuator. -/
  acts : List (Nat × List Int)
  bits : List Bool
  mode : Nat
  health : Nat
deriving DecidableEq, Repr

/-- An exact value limited to a field's width and sign; the second result tells that it was limited. -/
def satField (sgn : Bool) (width : Nat) (v : Int) : Int × Bool :=
  let lo : Int := if sgn then -(2 ^ (width - 1) : Nat) else 0
  let hi : Int := if sgn then (2 ^ (width - 1) : Nat) - 1 else (2 ^ width : Nat) - 1
  let c := clampInt lo hi v
  (c, decide (c ≠ v))

/-- The exact quantity a transmit descriptor writes (R549); checksum fields come later. -/
def FieldDesc.quantity (d : FieldDesc) (p : PackSource) (alive : Nat) : Int :=
  if 0x01 ≤ d.kind ∧ d.kind ≤ 0x05 then
    let x := ((assoc p.acts d.arg).getD []).getD (d.kind - 1) 0
    d.offset + (x * d.gain + 32768) / 65536
  else if d.kind = 0x06 then b2n (p.bits.getD d.arg false)
  else if d.kind = 0x07 then p.mode
  else if d.kind = 0x08 then p.health
  else if d.kind = 0x09 then d.offset
  else (alive % 2 ^ d.width : Nat)

/-- A message packed from its descriptors: its bytes and the saturations that occurred (R547, R549). -/
def packMessage (ds : List FieldDesc) (len : Nat) (p : PackSource) (alive : Nat) : List Byte × Nat :=
  let plain := ds.filter fun d => 0x01 ≤ d.kind ∧ d.kind ≤ 0x0A
  let r := plain.foldl (fun (a : List Byte × Nat) d =>
    let x := d.quantity p alive
    let q := if d.kind = 0x0A then (x, false) else satField d.sgn d.width x
    (d.write (q.1 % (2 ^ d.width : Nat)).toNat a.1, a.2 + b2n (q.2 && decide (d.kind ≤ 0x05))))
    (List.replicate len 0, 0)
  let bs := (ds.filter fun d => d.kind = 0x0B ∨ d.kind = 0x0C).foldl
    (fun bs d => d.write (checksum d.kind ds r.1).toNat bs) r.1
  (bs, r.2)

/-- The descriptors that decode a snapshot source: a bus mailbox (R531, R532) or a serial slot (R554). -/
def Bank.sourceDescs (b : Bank) (source : Nat) : List FieldDesc :=
  if 0x0400 ≤ source ∧ source ≤ 0x04BF then
    match b.entry? 0x40 0x04 (source - 0x0400) with
    | none => []
    | some e => if u16 e 2 = 0xFFFF then [] else b.descs (u16 e 2) (u8 e 4)
  else if 0x0500 ≤ source ∧ source ≤ 0x057F then
    match b.entry? 0x41 0x03 (source - 0x0500) with
    | none => []
    | some e => if u8 e 0 ≠ 2 ∨ u16 e 8 = 0xFFFF then [] else b.descs (u16 e 8) (u8 e 10)
  else []

/-- The message bytes inside a sample of a bus or a serial source (R532, R557). -/
def messageBytes (source : Nat) (data : List Byte) : List Byte :=
  if source ≤ 0x04BF then slice data 8 (u8 data 4) else slice data 12 (u16 data 8)

end Sys2Proof.Machine
end

