-- ==== Sys2Proof/Machine/GnssLane.lean ====
section
/-!
DEFINITION. The internal GNSS of a lane at measurement level: navigation data, corrections, the records that enter the solution, the
residual test, the heading of the baseline (R138 to R147, R234 to R240).
-/

namespace Sys2Proof.Machine

/-- A measurement record out of its 40 bytes (R136). -/
def GnssRec.of (bs : List Byte) : GnssRec :=
  { sys := u8 bs 0, svid := u8 bs 1, signal := u8 bs 2, gloK := fieldInt bs 3 1, mflags := u16 bs 6, pr := fieldInt bs 8 8,
    cp := fieldInt bs 16 8, doppler := fieldInt bs 24 4, cn0 := u16 bs 28, prSigma := u16 bs 30, lockMs := u32 bs 32,
    cpSigma := u16 bs 36 }

/-- Some bytes in pieces of 40. -/
def recordPieces : Nat → List Byte → List (List Byte)
  | 0, _ => []
  | n + 1, bs => if bs.length < 40 then [] else bs.take 40 :: recordPieces n (bs.drop 40)

/-- The records of an antenna section: its samples behind the status sample (R135, R136). -/
def recordsOf (x : Section) : List GnssRec :=
  (x.samples.drop 1).flatMap fun y => (recordPieces 24 y.data).map GnssRec.of

/-- An epoch out of a snapshot: the sample of its header, the records of both antennas, and their interference flags (R133, R135, R240). -/
structure GnssEpoch where
  nav : Sample
  a : List GnssRec
  b : List GnssRec
  iflags : Nat

/-- The epochs in some sections, on time or late, each header followed by its antennas (R133, R240). -/
def epochsOf (secs : List Section) : List GnssEpoch :=
  (secs.foldl (fun (acc : List (Nat × GnssEpoch)) x =>
    if x.source = 0x0100 ∨ x.source = 0x0108 then acc ++ (x.samples.map fun y => (x.source, { nav := y, a := [], b := [], iflags := 0 }))
    else
      match acc.getLast? with
      | none => acc
      | some l =>
        let fl := l.2.iflags ||| (x.samples.head?.map fun y => u16 y.data 10).getD 0
        if x.source = l.1 + 1 then acc.dropLast ++ [(l.1, { l.2 with a := recordsOf x, iflags := fl })]
        else if x.source = l.1 + 2 then acc.dropLast ++ [(l.1, { l.2 with b := recordsOf x, iflags := fl })]
        else acc) []).map Prod.snd

/-- A navigation sample stored under its satellite (R140); an SBAS message under its type. -/
def putNav (same : List Byte → Bool) (l : List (List Byte)) (x : List Byte) : List (List Byte) := l.filter (fun m => !same m) ++ [x]

/-- The navigation data of a snapshot taken by a lane: an ephemeris takes effect with the snapshot that carries it (R139, R140). -/
def LaneGnss.takeNav (g : LaneGnss) (secs : List Section) : LaneGnss :=
  ((secs.filter fun x => x.source = 0x0103).flatMap fun x => x.samples).foldl (fun g y =>
    let d := y.data
    let kind := u8 d 2
    if kind = 0 ∨ kind = 4 then { g with eph := putNav (fun m => u8 m 0 = u8 d 0 ∧ u8 m 1 = u8 d 1) g.eph d }
    else if kind = 3 then { g with sbas := putNav (fun m => u16 m 4 = u16 d 4) g.sbas d }
    else g) g

/-- The ephemeris a lane holds of a satellite. -/
def LaneGnss.eph? (g : LaneGnss) (sys svid : Nat) : Option (List Byte) := g.eph.find? fun m => u8 m 0 = sys ∧ u8 m 1 = svid

/-- Discarded RTCM messages (R142, R159). -/
def ctrRtcmDiscarded : Nat := 0x11F00003

/-- The RTCM message numbers the lanes use (R142). -/
def rtcmUsed (n : Nat) : Bool :=
  [1005, 1006, 1007, 1008, 1033, 1230].contains n
    || ([1074, 1084, 1094, 1124].any fun k => decide (k ≤ n ∧ n ≤ k + 3))

/-- Observation messages: code and phase corrections (R142). -/
def rtcmObserves (n : Nat) : Bool := [1074, 1084, 1094, 1124].any fun k => decide (k ≤ n ∧ n ≤ k + 3)

/-- The number of an RTCM 3 message, the first 12 bits after its preamble and length, and the station ID in the next 12 (R141, R142). -/
def rtcmNumber (m : List Byte) : Nat := ofBe (slice m 3 2) / 16
/-- The reference station ID. -/
def rtcmStation (m : List Byte) : Nat := ofBe (slice m 3 3) % 4096

/-- A source of correction messages: a serial slot that takes RTCM 3, or a field network source beyond those the spec numbers (R141,
R554; DESIGN CHOICE, log 114). -/
def Bank.rtcmSource (b : Bank) (source : Nat) : Bool :=
  if 0x0500 ≤ source ∧ source ≤ 0x057F then ((b.entry? 0x41 0x03 (source - 0x0500)).map fun e => u8 e 0) = some 3
  else decide (0x0600 ≤ source)

/-- The messages of a correction source in a sample: whole RTCM 3 frames (R141, R557). -/
def rtcmMessage (source : Nat) (y : Sample) : Option (List Byte) :=
  let m := if 0x0500 ≤ source ∧ source ≤ 0x057F then messageBytes source y.data else y.data
  if u8 m 0 = 0xD3 ∧ 6 ≤ m.length then some m else none

/-- A stream with one more message (R142). -/
def Corrections.take (c : Corrections) (m : List Byte) (at_ : Nat) : Corrections :=
  let n := rtcmNumber m
  { c with
    station := if n = 1005 ∨ n = 1006 then some (rtcmStation m) else c.station
    point := if n = 1005 ∨ n = 1006 then some m else c.point
    messages := (c.messages.filter fun x => x.1 ≠ n) ++ [(n, m)]
    observedAt := if rtcmObserves n then at_ else c.observedAt }

/-- A used message taken into its stream: at most two streams, in order of source number. A change of the station ID restarts the
resolution of the ambiguities (R141, R142). -/
def LaneGnss.takeRtcm (g : LaneGnss) (source : Nat) (m : List Byte) (at_ : Nat) : LaneGnss :=
  let old := g.streams.find? fun x => x.source = source
  let c := old.getD { source := source, station := none, point := none, messages := [], observedAt := 0 }
  if old.isNone ∧ 2 ≤ g.streams.length then g
  else
    let c' := c.take m at_
    let lower := g.streams.filter fun x => x.source < source
    let upper := g.streams.filter fun x => source < x.source
    let moved : Bool := c.station.isSome && decide (c'.station ≠ c.station)
    { g with streams := lower ++ [c'] ++ upper, ambiguities := if moved then [] else g.ambiguities }

/-- The RTCM messages of a snapshot: those the lanes use are taken, others discarded and counted (R141, R142). -/
def Work.rtcmStep (b : Bank) (w : Work) (secs : List Section) : Work :=
  secs.foldl (fun w x =>
    if !b.rtcmSource x.source then w
    else
      x.samples.foldl (fun w y =>
        match rtcmMessage x.source y with
        | none => w
        | some m =>
          if rtcmUsed (rtcmNumber m) then w.setCore { w.core with gnss := w.core.gnss.takeRtcm x.source m y.portTs }
          else w.count ctrRtcmDiscarded) w) w

/-- The correction stream in use at a time: the primary, or the secondary while the primary is older than the age limit; none while both
are (R141, R143). A stream is used once its station point is known. -/
def LaneGnss.corrections (g : LaneGnss) (limitNs t : Nat) : Option Corrections :=
  g.streams.find? fun c => c.point.isSome && decide (0 < c.observedAt) && decide (t ≤ c.observedAt + limitNs)

/-- Variance floor of the internal GNSS by mode, mm² (R234). -/
def gnssFloor (mode : Nat) : Nat :=
  if mode = 4 then 100 else if mode = 3 then 40000 else if mode = 2 then 250000 else 1440000

/-- Whether a record enters the solution (R235): PR_VALID and NAV_OK set and SPOOF_SAT clear, its satellite not barred and at or above the
mask, its C/N0 at or above C_MIN, and its ephemeris held. -/
def State.recordEnters (s : State) (g : LaneGnss) (barred : List (Nat × Nat × Nat)) (pos : Option Geodetic) (tai : Int) (r : GnssRec) :
    Bool :=
  bit r.mflags 0 && bit r.mflags 6 && !bit r.mflags 7 && decide (s.paramN 0x10050001 ≤ r.cn0)
    && !(barred.any fun b => b.1 = r.sys ∧ b.2.1 = r.svid)
    && (match g.eph? r.sys r.svid with
        | none => false
        | some e =>
          match pos with
          | none => true
          | some p => decide ((s.paramN 0x11010002 : Int) ≤ Config.satElevation e p tai))

/-- The weight (CN0 / 100 dB-Hz)² / PR_SIGMA² of a record (R234). -/
def GnssRec.weight (r : GnssRec) : F64 :=
  let c := F64.ofRat r.cn0 10000
  let d := F64.ofRat r.prSigma 100
  (c.mul c).div (d.mul d)

/-- The number of a signal of a satellite. -/
def GnssRec.key (r : GnssRec) : Nat := r.sys * 65536 + r.svid * 256 + r.signal

/-- Ambiguities after an epoch: a record with SLIP or a new one starts its ambiguity, one without a record ends (R126, R235). -/
def nextAmbiguities (old : List (Nat × Nat)) (rs : List GnssRec) (t : Nat) : List (Nat × Nat) :=
  rs.map fun r => (r.key, if bit r.mflags 3 then t else (assoc old r.key).getD t)

/-- Satellites in some records. -/
def satsOf (rs : List GnssRec) : List (Nat × Nat) := (rs.map fun r => (r.sys, r.svid)).eraseDups

/-- Unknowns of the solution: position, clock and one offset per further system; SBAS keeps GPS time (R130, R234). -/
def unknownsOf (rs : List GnssRec) : Nat := 3 + ((rs.map fun r => if r.sys = 4 then 0 else r.sys).eraseDups).length

/-- T = Σ (r / σ)² in binary64, in record order (R236). -/
def residualSum (xs : List F64) : F64 := F64.sum (xs.map fun x => x.mul x)

/-- The satellite of the largest |r / σ|, the first of equal ones. -/
def worstSat (rs : List GnssRec) (xs : List F64) : Option (Nat × Nat) :=
  ((rs.zip xs).foldl (fun (m : Option (GnssRec × F64)) p =>
    match m with
    | none => some p
    | some q => if q.2.abs.lt p.2.abs then some p else m) none).map fun p => (p.1.sys, p.1.svid)

/-- A solution as the residual test leaves it: what it gives, the satellites removed, and whether the epoch fails (R236). -/
structure Tested where
  result : SolveResult
  removed : List (Nat × Nat)
  failed : Bool

/-- The solution with its residual test: at most `n` satellites are removed, each while at least 6 remain (R236). With fewer records
than unknowns there is no solution. -/
def solveTested (k : Nat) : Nat → SolveInput → List (Nat × Nat) → Option Tested
  | n, x, removed =>
    if x.records.length < unknownsOf x.records then none
    else
      let r := Config.gnssSolve x
      let dof := x.records.length - unknownsOf x.records
      let fails : Bool := decide (0 < dof) && (Config.chiSquare dof k).lt (residualSum r.ratios)
      if !fails then some { result := r, removed := removed, failed := false }
      else
        match n, worstSat x.records r.ratios with
        | n + 1, some v =>
          if (satsOf x.records).length < 6 then some { result := r, removed := removed, failed := true }
          else
            let rest := x.records.filter fun q => (q.sys, q.svid) ≠ v
            solveTested k n { x with records := rest, weights := rest.map GnssRec.weight } (removed ++ [v])
        | _, _ => some { result := r, removed := removed, failed := true }

/-- The position an epoch header carries, when its solution is valid (R134). -/
def navPosition (d : List Byte) : Option Geodetic :=
  if bit (u16 d 2) 0 then some { lat := fieldInt d 8 4, lon := u32 d 12, height := fieldInt d 16 4 } else none

/-- Solution mode (R234): RTK fixed 4 and float 3 with corrections, SBAS 2 with its corrections for at least 4 satellites used, else 1. -/
def solutionMode (corrections fixed : Bool) (sbasSats : Nat) : Nat :=
  if corrections then (if fixed then 4 else 3) else if 4 ≤ sbasSats then 2 else 1

/-- TAI of an epoch, ns, from its latch instant through the module-time offset. -/
def GnssEpoch.tai (e : GnssEpoch) (offset : Int) : Int := (e.nav.portTs : Int) + offset

/-- GNSS-INT at an epoch (R234 to R236): the solution of antenna A, or of antenna B when A has no records and B has; nothing without
enough records. -/
def State.gnssPosition (s : State) (c : Core) (e : GnssEpoch) (offset : Int) : Option Meas :=
  let antB : Bool := e.a.isEmpty && !e.b.isEmpty
  let rs := if antB then e.b else e.a
  let tai := e.tai offset
  let pos := (navPosition e.nav.data).orElse fun _ => c.origin.geo
  let used := rs.filter (s.recordEnters c.gnss c.fusion.barred pos tai)
  let corr := c.gnss.corrections (s.paramN 0x11070001 * secNs) e.nav.portTs
  let amb := nextAmbiguities c.gnss.ambiguities rs e.nav.portTs
  let x : SolveInput :=
    { records := used, weights := used.map GnssRec.weight, eph := c.gnss.eph, sbas := c.gnss.sbas, corrections := corr, ambiguities := amb, tai := tai }
  (solveTested (s.paramN 0x10050002) 2 x []).map fun t =>
    .gnss { lat := t.result.lat, lon := t.result.lon, height := t.result.height }
      (solutionMode corr.isSome t.result.fixed t.result.sbasSats) antB t.removed t.failed

/-- The pairs of records of one signal on both antennas with CP_VALID set and HALF_CYCLE clear (R147). -/
def headingPairs (e : GnssEpoch) : List (GnssRec × GnssRec) :=
  let good (r : GnssRec) : Bool := bit r.mflags 1 && !bit r.mflags 2
  (e.a.filter good).filterMap fun x => (e.b.find? fun y => good y && decide (y.key = x.key)).map fun y => (x, y)

/-- GNSS-HEADING at an epoch: formed with at least 5 satellites, ambiguities fixed, and a length within ±(0.02 m + 0.001 × the configured
length) (R147, R239). -/
def State.gnssBaseline (s : State) (c : Core) (e : GnssEpoch) (offset : Int) : Meas :=
  let ps := headingPairs e
  let len := s.paramI 0x11040001
  let r := Config.gnssHeading { pairs := ps, eph := c.gnss.eph, length := len, tai := e.tai offset }
  let enough : Bool := decide (5 ≤ (satsOf (ps.map Prod.fst)).length)
  let near : Bool := decide (1000 * ((r.length : Int) - len).natAbs ≤ 200000 + len)
  .baseline r.azimuth (enough && r.fixed && near) r.length

/-- What a lane keeps of the epochs of a snapshot: the ambiguities that run on, the SPOOF word and the interference flags (R151, R235, R238). -/
def LaneGnss.takeEpochs (g : LaneGnss) (es : List GnssEpoch) : LaneGnss :=
  es.foldl (fun g e =>
    let rs := if e.a.isEmpty then e.b else e.a
    { g with ambiguities := nextAmbiguities g.ambiguities rs e.nav.portTs, spoof := u16 e.nav.data 42, iflags := e.iflags }) g

end Sys2Proof.Machine
end

