-- ==== Sys2Proof/Machine/Fusion.lean ====
section
/-!
DEFINITION. Reference tracking, tests, states, weighting, voting, moving targets, origin (R201 to R241, R3, R4).
-/

namespace Sys2Proof.Machine

/-- Failure counter of one test of a reference (R223). -/
def ctrTest (ref test : Nat) : Nat := 0x10F00000 + ref * 16 + test
/-- Late counter of a reference (R241). -/
def ctrLate (ref : Nat) : Nat := 0x10F01000 + ref
/-- Samples applied by rewind. -/
def ctrRetro (ref : Nat) : Nat := 0x10F02000 + ref

/-- The state code a reference shows: the first of R225 that applies. -/
def RefState.code (r : RefState) : Nat :=
  if r.deselected then 5 else if r.stale then 4 else if r.rejected then 3 else if r.suspect then 2
  else if r.clockBad then 1 else 0

/-- The status word of R225, without the flags of the frame. -/
def RefState.conds (r : RefState) : Nat :=
  b2n r.deselected + 2 * b2n r.stale + 4 * b2n r.rejected + 8 * b2n r.suspect + 16 * b2n r.clockBad
    + 32 * b2n r.antB + 64 * b2n r.retro

/-- The state of a reference. -/
def Core.ref (c : Core) (i : Nat) : RefState := c.fusion.refs.getD i .reset

/-- Saturations of fusion noted in the numeric status word: SAT_FUSION and SAT_COUNT; the firmware runs in no program slot (R10, R201,
R261). -/
def Work.noteSats (w : Work) (n : Nat) : Work :=
  let f (e : Engine) : Engine := { e with status := noteSat e.status 1 0xFF }
  w.setCore { w.core with engine := (List.range n).foldl (fun e _ => f e) w.core.engine }

/-- How many of some values do not fit their int32 format (R7, R10). -/
def overflows (xs : List Int) : Nat := (xs.filter fun x => sat32 x ≠ x).length

/-- A reference changed. -/
def Work.onRef (w : Work) (i : Nat) (f : RefState → RefState) : Work :=
  w.setFusion { w.core.fusion with refs := setAt w.core.fusion.refs i f }

/-- An episode of event 0x1004 or 0x1005 is running (R389). -/
def Fusion.disagree (f : Fusion) : Bool :=
  f.twoSeen || f.majoritySeen || f.hdgTwoSeen || f.hdgMajoritySeen || f.mruSeen || f.windSeen

/-- How a class is tracked (R219); class 7 is not tracked. -/
def kindOf (cls : Nat) : TrackKind := if cls = 5 ∨ cls = 6 then .angle else if cls = 8 then .filter else .position

/-- Whether a reference contributes: its state allows it and it has an estimate (R224); a RELATIVE-MOVING reference feeds its
target track only (R205). -/
def RefState.contributes (r : RefState) (cls : Nat) : Bool :=
  decide (r.shown ≤ 2) && !r.deselected && !r.restart && decide (cls ≠ 3)

/-- The references of a range that contribute. -/
def contributors (b : Bank) (f : Fusion) (lo n : Nat) : List Nat :=
  ((List.range n).map (lo + ·)).filter fun i =>
    match b.ref? i with
    | none => false
    | some e => (f.refs.getD i .reset).contributes e.cls

/-- A test that failed: counted, and the re-acceptance time starts anew (R223, R226). -/
def Work.testFailed (w : Work) (i test now : Nat) : Work :=
  (w.onRef i fun r => { r with passSince := now }).count (ctrTest i test)

/-- A reference becomes REJECTED (R226). -/
def RefState.reject (r : RefState) (now cause : Nat) : RefState :=
  if r.rejected ∨ r.stale ∨ r.deselected then r else { r with rejected := true, passSince := now, cause := cause }

/-- A SUSPECT condition is met (R226): the recovery time starts anew. -/
def RefState.doubt (r : RefState) (now cause : Nat) : RefState :=
  if r.rejected ∨ r.stale ∨ r.deselected then r
  else { r with suspect := true, suspectAt := now, cause := if r.suspect then r.cause else cause }

/-- Whether a test of a reference is enabled. -/
def RefEntry.on (e : RefEntry) (test : Nat) : Bool := bit e.tests test

/-- V_MAX of a reference in the units of its track's rate: µm/s, or LSB/s for 30 °/s (R221, R223). -/
def State.vMax (s : State) (cls : Nat) : Nat := if kindOf cls = .angle then 357913941 else s.paramN 0x1001000F

/-- V_MAX in the units of the covariance: µm/s or µrad/s. -/
def State.vMaxCov (s : State) (cls : Nat) : Int := if kindOf cls = .angle then 523599 else s.paramN 0x1001000F

/-- The attitude fusion falls back on before any sub-frame is stored: the latest fused values. -/
def Core.attitudeDefault (c : Core) : Nat × Int × Int :=
  (((c.fusion.fused.hdg.map fun h => h.1).getD (c.engine.word 0x1308).toNat), c.fusion.fused.pitch, c.fusion.fused.roll)

/-- The attitude at a time (R216). -/
def Core.attitude (c : Core) (t : Int) : Nat × Int × Int := attitudeAt c.attitudes c.attitudeDefault t

/-- The VRP position fusion last delivered, or the observer's estimate. -/
def Core.vrp (c : Core) : Int × Int :=
  match c.fusion.fused.pos with
  | some p => (p.1, p.2.1)
  | none => (c.engine.int 0x1306, c.engine.int 0x1307)

/-- The variance a matching GST sentence reports for a geodetic sample: 0 s to 2 s before it, across midnight (R720). -/
def gstReport (gst : List (Nat × Nat)) (tod : Nat) : Option Nat :=
  let day := 86400 * secNs
  (gst.find? fun g => (tod + day - g.1 % day) % day ≤ 2 * secNs).map (·.2)

/-- The variance of a geodetic sample: that of its GST sentence, never less than VAR_FLOOR, or VAR_FLOOR (R720). -/
def gstVar (gst : List (Nat × Nat)) (tod floor : Nat) : Nat := max ((gstReport gst tod).getD 0) floor

/-- A measurement ready for its track: values a and b, variance in mm² or µrad², and the saturations met in forming it. -/
structure Ready where
  a : Int
  b : Int
  var : Nat
  sats : Nat

/-- A sensor point as a VRP position, saturated to its format, with the saturations of C × l and of the difference (R10, R216, R217). -/
def Core.toVrp (c : Core) (lg : Leggett) (t n e : Int) : Int × Int × Nat :=
  let (psi, th, ph) := c.attitude t
  let l := leverArm psi th ph lg.x lg.y lg.z
  (sat32 (n - l.1), sat32 (e - l.2.1), overflows (leverExact psi th ph lg.x lg.y lg.z ++ [n - l.1, e - l.2.1]))

/-- The vector from a sensor to its fixed point in the Earth frame: a range and bearing, or a wire offset (R206, R218, R222). -/
def Core.toPoint (c : Core) (e : RefEntry) (lg : Leggett) (t : Int) : Meas → Int × Int
  | .polar range bearing _ =>
    let (psi, _, _) := c.attitude t
    polarNE range (angleAdd (angleAdd psi lg.yaw) bearing)
  | .wire fa at_ =>
    let (psi, _, _) := c.attitude t
    rotate psi false (timesTan e.depth fa) (timesTan e.depth at_)
  | _ => (0, 0)

/-- The Earth position of a fixed point, fixed from the fused position and this measurement when it is not yet known (R206). -/
def Core.fixPoint (c : Core) (i : Nat) (e : RefEntry) (lg : Leggett) (x : RefSample) : Option (Int × Int) :=
  match (c.ref i).fixedPoint with
  | some p => some p
  | none =>
    c.fusion.fused.pos.map fun p =>
      let (psi, th, ph) := c.attitude x.tm
      let l := leverArm psi th ph lg.x lg.y lg.z
      let v := c.toPoint e lg x.tm x.meas
      (p.1 + l.1 + v.1, p.2.1 + l.2.1 + v.2)

/-- The variance of a sample before any TS_FACTOR (R205, R207, R234, R239, R720). -/
def sampleVar (r : RefState) (e : RefEntry) (x : RefSample) : Nat :=
  match x.meas with
  | .geo _ _ tod => gstVar r.gst tod e.varFloor
  | .gnss _ mode _ _ _ => max (max (x.variance.getD 0) (gnssFloor mode)) e.varFloor
  | .baseline _ _ len =>
    max (divRound ((4363323129985824 : Int) * 4363323129985824) (10000000000000000 * max 1 len * max 1 len)).toNat e.varFloor
  | _ => max (x.variance.getD 0) e.varFloor

/-- The measurement of a sample: the VRP position, the heading, or the true wind (R205, R216, R218). -/
def Core.measure (c : Core) (b : Bank) (i : Nat) (e : RefEntry) (x : RefSample) : Option Ready :=
  let lg := b.leggett e.leggett
  let v0 := sampleVar (c.ref i) e x
  let v := if x.timeSuspect then v0 * lg.tsFactor / 16 else v0
  let position (n ea : Int) (lg : Leggett) : Option Ready :=
    let p := c.toVrp lg x.tm n ea
    some { a := p.1, b := p.2.1, var := v, sats := p.2.2 }
  match x.meas with
  | .geo p _ _ =>
    c.origin.geo.bind fun o => let q := toEarth o p; position q.1 q.2.1 lg
  | .gnss p _ antB _ _ =>
    c.origin.geo.bind fun o =>
      let q := toEarth o p
      position q.1 q.2.1 (if antB then b.leggett (e.leggett + 1) else lg)
  | .polar _ _ _ | .wire _ _ =>
    (c.fixPoint i e lg x).bind fun f =>
      let d := c.toPoint e lg x.tm x.meas
      position (f.1 - d.1) (f.2 - d.2) lg
  | .heading a => some { a := angleAdd a (-(lg.yaw : Int)), b := 0, var := v, sats := 0 }
  | .baseline az _ _ =>
    let lb := b.leggett (e.leggett + 1)
    some { a := angleAdd az (-(direction (lb.x - lg.x) (lb.y - lg.y) : Int)), b := 0, var := v, sats := 0 }
  | .wind speed dir =>
    let (psi, _, _) := c.attitude x.tm
    let rel := polarNE (-speed) (angleAdd (angleAdd psi lg.yaw) dir)
    let own := rotate psi false (c.engine.int 0x130C) (c.engine.int 0x130D)
    let n := rel.1 + own.1
    let ea := rel.2 + own.2
    some { a := sat32 n, b := sat32 ea, var := v, sats := overflows [n, ea] }
  | .motion roll pitch _ _ _ _ => some { a := wrap32 (roll - lg.roll), b := wrap32 (pitch - lg.pitch), var := v, sats := 0 }
  | .gst _ _ _ => none

/-- Whether the quality of a sample lies below the minimum of its class, or its target is lost (R223). -/
def lowQuality : Meas → Bool
  | .geo _ q _ => !(q.any fun c => 1 ≤ c)
  | .polar _ _ lost => lost
  | _ => false

/-- A failed GNSS epoch: no solution survives the residual test, or no heading fix (R236, R239). -/
def epochFailed : Meas → Bool
  | .gnss _ _ _ _ failed => failed
  | .baseline _ fixed _ => !fixed
  | _ => false

/-- SPEED: the distance to the latest applied measurement over the time between them exceeds V_MAX (R223). -/
def speedFails (k : TrackKind) (vmax : Nat) (last : Option (Int × Int × Int)) (m : Ready) (t : Int) : Bool :=
  match last with
  | none => false
  | some (la, lb, lt) =>
    if t = lt then false
    else
      let da := innovation k m.a la
      let db := innovation k m.b lb
      let unit : Int := if k = .position then 100 else 1
      let dist2 := (da * da + (if k = .angle then 0 else db * db)) * unit * unit * (secNs : Int) * secNs
      decide ((vmax : Int) * vmax * (t - lt) * (t - lt) < dist2)

/-- The components of a measurement, without its time field (R223). -/
def Meas.components : Meas → List Int
  | .geo p _ _ => [p.lat, p.lon, p.height]
  | .gst a b _ => [a, b]
  | .polar range bearing _ => [range, bearing]
  | .wire a b => [a, b]
  | .heading a => [a]
  | .motion a b h p q r => [a, b, h, p, q, r]
  | .wind v d => [v, d]
  | .gnss p _ _ _ _ => [p.lat, p.lon, p.height]
  | .baseline a _ _ => [a]

/-- The FREEZE record of a reference with one more sample (R223). -/
def RefState.freezeStep (r : RefState) (m : Meas) (t : Int) : RefState :=
  if r.frozen = some m.components then { r with frozenCount := r.frozenCount + 1 }
  else { r with frozen := some m.components, frozenSince := t, frozenCount := 1 }

/-- FREEZE fails: identical for FREEZE ms and at least 10 samples (R223). -/
def RefState.freezes (r : RefState) (e : RefEntry) (t : Int) : Bool :=
  e.on 3 && decide (10 ≤ r.frozenCount) && decide ((e.freeze : Int) * msNs ≤ t - r.frozenSince)

/-- A sample applied: the state changes of R226 it brings, its place as the latest applied one, and any start of the track. -/
def RefState.applied (r : RefState) (now arrival : Nat) (m : Ready) (t : Int) (x : Track) (value : Int × Int × Int)
    (retro : Bool) : RefState :=
  let woke := r.stale ∨ (r.deselected ∧ r.selectPending)
  let cause := if r.deselected then 17 else 18
  let r :=
    { r with
      track := some x
      restart := false
      appliedAt := max r.appliedAt arrival
      last := some (m.a, m.b, t)
      value := value
      retro := r.retro || retro }
  if woke then
    { r with
      stale := false
      deselected := false
      selectPending := false
      rejected := false
      suspect := true
      suspectAt := now
      cause := cause }
  else r

/-- The Earth position a RELATIVE-MOVING sample gives its target: the sensor point and the range and bearing from it (R222). -/
def Core.targetPoint (c : Core) (b : Bank) (e : RefEntry) (x : RefSample) : Int × Int × Nat :=
  let lg := b.leggett e.leggett
  let (psi, th, ph) := c.attitude x.tm
  let l := leverArm psi th ph lg.x lg.y lg.z
  let d := c.toPoint e lg x.tm x.meas
  let p := c.vrp
  let n := p.1 + l.1 + d.1
  let ea := p.2 + l.2.1 + d.2
  (sat32 n, sat32 ea, overflows (leverExact psi th ph lg.x lg.y lg.z ++ [n, ea]))

/-- The running track of a reference: its own, or for class 3 that of its target (R220, R222). -/
def Core.running (c : Core) (e : RefEntry) (r : RefState) : Option Track :=
  if e.cls = 3 then
    let g := c.fusion.targets.getD e.track { st := 0, track := none, samples := 0, lastAt := 0 }
    if g.st = 0 ∨ g.st = 4 then none else g.track
  else if r.restart then none
  else r.track

/-- Moving-target tracks take a RELATIVE-MOVING sample (R222). -/
def Work.targetSample (w : Work) (e : RefEntry) (x : RefSample) (m : Ready) (vmax : Int) : Work :=
  let v6 : Int := (m.var : Int) * 1000000
  let step (g : Target) : Target :=
    match g.track, decide (g.st = 0 ∨ g.st = 4) with
    | some tr, false =>
      let tr := (tr.predict .position e.q x.tm).update .position m.a m.b v6
      { st := if 3 ≤ g.samples + 1 then 2 else 1, track := some tr, samples := g.samples + 1,
        lastAt := max g.lastAt x.arrival }
    | _, _ => { st := 1, track := some (Track.start x.tm m.a m.b v6 vmax), samples := 1, lastAt := x.arrival }
  w.setFusion { w.core.fusion with targets := setAt w.core.fusion.targets e.track step }

/-- A satellite removed in 5 of the last 10 epochs is barred (R237). -/
def Work.epochRemovals (s : State) (w : Work) (now : Nat) (removed : List (Nat × Nat)) : Work :=
  let f := w.core.fusion
  let rem := (removed :: f.removals).take 10
  let often := removed.eraseDups.filter fun v =>
    5 ≤ (rem.filter fun l => l.contains v).length ∧ !(f.barred.any fun b => (b.1, b.2.1) = v)
  let until_ := now + s.paramN 0x10050003 * secNs
  let w := w.setFusion { f with removals := rem, barred := f.barred ++ often.map fun v => (v.1, v.2, until_) }
  often.foldl (fun w v => w.raise 0x1007 [v.1, v.2]) w

/-- The track after a measurement: a start, or a prediction to its time and an update; the innovation comes with it. -/
def trackStep (k : TrackKind) (e : RefEntry) (vmaxCov : Int) (r : RefState) (m : Ready) (t : Int) : Track :=
  let v : Int := if k = .position then (m.var : Int) * 1000000 else m.var
  match r.track, r.restart with
  | some x, false =>
    match k with
    | .filter =>
      let dt := t - x.time
      { x with time := max x.time t, a := filterStep dt x.a m.a, b := filterStep dt x.b m.b }
    | _ => (x.predict k e.q t).update k m.a m.b v
  | _, _ => Track.start t m.a m.b v vmaxCov

/-- The variance a sample reports (R205, R223): its own, or that of its GST sentence. -/
def reported (r : RefState) (x : RefSample) : Option Nat :=
  match x.meas with
  | .geo _ _ tod => gstReport r.gst tod
  | _ => x.variance

/-- The squared innovation of a measurement in the units of the covariance, over the axes (R223). -/
def innovSquare (k : TrackKind) (cls : Nat) (m : Ready) (pred : Option Track) : Int :=
  match pred with
  | none => 0
  | some tr =>
    let na := innovUnits k (innovation k m.a tr.a)
    let nb := innovUnits k (innovation k m.b tr.b)
    if cls = 7 then 0 else if k = .position then (na * na + nb * nb) / 2 else na * na

/-- A measurement that has passed VALIDITY put through the other tests and applied to its track (R220, R222, R223). -/
def Work.testAndApply (s : State) (w : Work) (now : Nat) (e : RefEntry) (x : RefSample) (m : Ready) : Work :=
  let i := x.ref
  let k := kindOf e.cls
  let w := w.noteSats m.sats
  let far := (m.a * m.a + m.b * m.b) > (s.paramN 0x1001000E : Int) * s.paramN 0x1001000E
  if e.on 1 ∧ e.cls ≤ 4 ∧ far then w.testFailed i 1 now
  else if e.on 2 ∧ e.cls ≤ 6 ∧ speedFails k (s.vMax e.cls) (w.core.ref i).last m x.tm then w.testFailed i 2 now
  else
    let w := w.onRef i fun r => r.freezeStep x.meas x.tm
    let w := if (w.core.ref i).freezes e x.tm then (w.testFailed i 3 now).onRef i fun r => r.reject now 3 else w
    let v : Int := if k = .position then (m.var : Int) * 1000000 else m.var
    let pred := (w.core.running e (w.core.ref i)).map fun tr => tr.predict k e.q x.tm
    let gate := s.paramN (if k = .angle then 0x10010002 else 0x10010001)
    let misses := pred.any fun tr => e.on 5 && decide (e.cls ≤ 6) && innovFails k tr m.a m.b v gate
    if misses then
      let w := w.testFailed i 5 now
      let w := w.onRef i fun r => { r with innovFails := r.innovFails + 1, weakAt := some now }
      if s.paramN 0x10010003 ≤ (w.core.ref i).innovFails then w.onRef i fun r => r.reject now 5 else w
    else
      let nu2 := innovSquare k e.cls m pred
      let value : Int × Int × Int :=
        match x.meas with
        | .motion _ _ heave _ _ _ => (m.a, m.b, heave)
        | _ => (m.a, m.b, 0)
      let md : Nat × Bool :=
        match x.meas with
        | .gnss _ mode antB _ _ => (mode, antB)
        | _ => (0, false)
      let w := if e.cls = 3 then w.targetSample e x m (s.vMaxCov e.cls) else w
      w.onRef i fun r =>
        let r :=
          { r with
            innovFails := 0
            reportedVar := reported r x
            mode := md.1
            antB := md.2
            innovations := (x.tm, nu2) :: r.innovations.filter fun p => x.tm < p.1 + 60 * secNs }
        let tr := if e.cls = 3 then Track.start x.tm 0 0 0 0 else trackStep k e (s.vMaxCov e.cls) { r with restart := pred.isNone } m x.tm
        r.applied now x.arrival m x.tm tr value x.retro

/-- The measurement a sample gives, with the fixed point it keeps (R205, R206, R216, R218, R222). -/
def Core.reading (c : Core) (b : Bank) (e : RefEntry) (x : RefSample) : Option (Ready × Option (Int × Int)) :=
  if e.cls = 3 then
    let p := c.targetPoint b e x
    let v0 := sampleVar (c.ref x.ref) e x
    let v := if x.timeSuspect then v0 * (b.leggett e.leggett).tsFactor / 16 else v0
    some ({ a := p.1, b := p.2.1, var := v, sats := p.2.2 }, none)
  else
    let pt :=
      match x.meas with
      | .polar _ _ _ | .wire _ _ => c.fixPoint x.ref e (b.leggett e.leggett) x
      | _ => none
    (c.measure b x.ref e x).map fun m => (m, pt)

/-- One sample put through the tests of R223 and applied to its track (R220). -/
def Work.applySample (s : State) (w : Work) (now : Nat) (x : RefSample) : Work :=
  let b := s.config.active
  match b.ref? x.ref with
  | none => w
  | some e =>
    let i := x.ref
    let w :=
      match x.meas with
      | .gnss _ _ _ rem _ => w.epochRemovals s now rem
      | _ => w
    if x.bad ∨ epochFailed x.meas then w.testFailed i 0 now
    else if x.calibrating then w
    else if e.on 0 ∧ lowQuality x.meas then w.testFailed i 0 now
    else
      match w.core.reading b e x with
      | none => w
      | some (m, pt) =>
        (w.onRef i fun r => { r with fixedPoint := if pt.isSome then pt else r.fixedPoint }).testAndApply s now e x m

/-- Insertion of a sample by measurement time, after equal times (R220). -/
def insertSample (x : RefSample) : List RefSample → List RefSample
  | [] => [x]
  | y :: t => if x.tm < y.tm then x :: y :: t else y :: insertSample x t

/-- Samples in order of measurement time, equal times in arrival order (R220). -/
def sortSamples (xs : List RefSample) : List RefSample := xs.foldl (fun acc x => insertSample x acc) []

/-- The estimate of a reference at the strobe and its variance (R220). -/
def Work.estimate (s : State) (w : Work) (strobe i : Nat) : Work :=
  match s.config.active.ref? i with
  | none => w
  | some e =>
    let k := kindOf e.cls
    let nOver : Nat :=
      match (w.core.ref i).track, (w.core.ref i).restart || decide (e.cls = 7) with
      | some x, false =>
        let y := if k = .filter then x else x.predict k e.q strobe
        overflows (if k = .angle then [y.va] else [y.a, y.b, y.va, y.vb])
      | _, _ => 0
    (w.noteSats nOver).onRef i fun r =>
      match r.track, r.restart with
      | some x, false =>
        if e.cls = 7 then { r with estA := r.value.1, estB := r.value.2.1, var := e.varFloor }
        else
          let x := if k = .filter then x else x.predict k e.q strobe
          let v := if k = .position then divRound x.ca.pp 1000000 else x.ca.pp
          let fit (y : Int) : Int := if k = .angle then y else sat32 y
          let x := { x with a := fit x.a, b := fit x.b, va := sat32 x.va, vb := sat32 x.vb }
          { r with track := some x, estA := x.a, estB := x.b, var := max (max v e.varFloor) 1 }
      | _, _ => r

/-- Product of the variances of the others: weights to a common denominator (R228). -/
def weightNums (fs : List (Nat × Nat)) : List Nat :=
  (List.range fs.length).map fun i =>
    (fs.getD i (0, 1)).1 * ((List.range fs.length).filter (· ≠ i)).foldl (fun p j => p * (fs.getD j (0, 1)).2) 1

/-- One pass of the cap (R229): indices at the cap so far; the share of each other one as a ratio. -/
def shares (cap : Nat) (ws : List Nat) (capped : List Nat) : List (Nat × Nat) :=
  let idx := List.range ws.length
  let rest := idx.filter fun i => !capped.contains i
  let sum := (rest.map fun i => ws.getD i 0).foldl (· + ·) 0
  let left := 100 - capped.length * cap
  idx.map fun i =>
    if capped.contains i then (cap, 100)
    else if sum = 0 then (left, 100 * max 1 rest.length)
    else (left * ws.getD i 0, 100 * sum)

/-- Passes until no weight exceeds the cap (R229). -/
def capPasses (cap : Nat) (ws : List Nat) : Nat → List Nat → List (Nat × Nat)
  | 0, capped => shares cap ws capped
  | n + 1, capped =>
    let sh := shares cap ws capped
    let above := (List.range ws.length).filter fun i =>
      let p := sh.getD i (0, 1)
      !capped.contains i && decide (cap * p.2 < 100 * p.1)
    if above.isEmpty then sh else capPasses cap ws n (capped ++ above)

/-- Normalised weights in Q0.30 for (factor in 0.01, variance) pairs in ascending reference number (R228 to R230). -/
def weights (cap : Nat) (fs : List (Nat × Nat)) : List Nat :=
  let k := fs.length
  let ws := weightNums fs
  let sum := ws.foldl (· + ·) 0
  let ratios : List (Nat × Nat) :=
    if k = 1 then [(1, 1)]
    else if k * cap ≤ 100 then List.replicate k (1, k)
    else if sum = 0 then List.replicate k (1, k)
    else capPasses cap ws k []
  let q := ratios.map fun p => (divRound ((p.1 : Int) * 1073741824) p.2).toNat
  let head := q.take (k - 1)
  if k = 0 then [] else head ++ [1073741824 - head.foldl (· + ·) 0]

/-- Σ W x in Q0.30, rounded once (R231). -/
def weighted (ws : List Nat) (xs : List Int) : Int :=
  shrRound ((ws.zip xs).foldl (fun a p => a + (p.1 : Int) * p.2) 0) 30

/-- Σ W² σ², rounded once and limited to a uint32 (R231). -/
def weightedVar (ws : List Nat) (vs : List Int) : Nat :=
  min 4294967295 (shrRound ((ws.zip vs).foldl (fun a p => a + (p.1 : Int) * p.1 * p.2) 0) 60).toNat

/-- Weight factor and variance of the contributors (R224, R228). -/
def factorsOf (s : State) (f : Fusion) (is_ : List Nat) : List (Nat × Nat) :=
  is_.map fun i =>
    let r := f.refs.getD i .reset
    (if r.shown = 2 then s.paramN 0x10010009 else 100, max 1 r.var.toNat)

/-- The middle value of a sorted list, or the mean of the two middle ones rounded half up (R232). -/
def medianOf (xs : List Int) : Int :=
  let ys := xs.foldl (fun acc x => (acc.filter (· ≤ x)) ++ [x] ++ (acc.filter (x < ·))) []
  let n := ys.length
  if n = 0 then 0
  else if n % 2 = 1 then ys.getD (n / 2) 0
  else divRound (ys.getD (n / 2 - 1) 0 + ys.getD (n / 2) 0) 2

/-- Squared distance in the units of the variances × 100: 0.1 mm squared against mm², or µrad² × 100. -/
def dist2 (pos : Bool) (da db : Int) : Int := if pos then da * da + db * db else 100 * (toUrad da * toUrad da)

/-- The squared limit max(D_MIN, k √σ²) in the same units (R223, R232). -/
def State.divLimit2 (s : State) (pos : Bool) (v : Int) : Int :=
  let k := s.paramI 0x10010006
  let d : Int := if pos then s.paramN 0x10010004 else toUrad (s.paramN 0x10010005)
  max (if pos then d * d else 100 * (d * d)) (k * k * v)

/-- The weighted mean of the contributing references without one of them: value differences from `base` (R223). -/
def othersMean (f : Fusion) (cs : List Nat) (i : Nat) (get : RefState → Int) : Option Int :=
  let os := cs.filter (· ≠ i)
  let sum := (os.map fun j => (f.refs.getD j .reset).weight).foldl (· + ·) 0
  if sum = 0 then none
  else some (divRound ((os.map fun j => ((f.refs.getD j .reset).weight : Int) * get (f.refs.getD j .reset)).foldl (· + ·) 0) sum)

/-- Fused position (R231) and the weights it gives its references. -/
def Work.fusePosition (s : State) (w : Work) : Work :=
  let f := w.core.fusion
  let cs := contributors s.config.active f 0 16
  let ws := weights (s.paramN 0x10010008) (factorsOf s f cs)
  let get (g : RefState → Int) : List Int := cs.map fun i => g (f.refs.getD i .reset)
  let pos : Option (Int × Int × Nat) :=
    if cs.isEmpty then none
    else some (sat32 (weighted ws (get (·.estA))), sat32 (weighted ws (get (·.estB))), weightedVar ws (get (·.var)))
  let refs := (cs.zip ws).foldl (fun rs p => setAt rs p.1 fun (r : RefState) => { r with weight := p.2 })
    (f.refs.map fun (r : RefState) => { r with weight := 0 })
  let nOver := if cs.isEmpty then 0 else overflows [weighted ws (get (·.estA)), weighted ws (get (·.estB))]
  (w.setFusion { f with refs := refs, fused := { f.fused with pos := pos, nPos := cs.length } }).noteSats nOver

/-- Fused heading (R231): weighted differences from the lowest-numbered heading. -/
def Work.fuseHeading (s : State) (w : Work) : Work :=
  let f := w.core.fusion
  let cs := contributors s.config.active f 16 4
  let ws := weights (s.paramN 0x10010010) (factorsOf s f cs)
  let h0 := ((cs.head?.map fun i => (f.refs.getD i .reset).estA).getD 0).toNat
  let ds := cs.map fun i => angleDiff ((f.refs.getD i .reset).estA % 4294967296).toNat h0
  let hdg : Option (Nat × Nat) :=
    if cs.isEmpty then none
    else some (angleAdd h0 (weighted ws ds), weightedVar ws (cs.map fun i => (f.refs.getD i .reset).var))
  let refs := (cs.zip ws).foldl (fun rs p => setAt rs p.1 fun (r : RefState) => { r with weight := p.2 }) f.refs
  w.setFusion { f with refs := refs, fused := { f.fused with hdg := hdg, nHdg := cs.length } }

/-- The differences of a reference from the voted or fused value, before saturation (DIFF_A, DIFF_B of R203). -/
def Fusion.difference (f : Fusion) (b : Bank) (i : Nat) : Int × Int :=
  let r := f.refs.getD i .reset
  match b.ref? i, r.restart with
  | some e, false =>
    if e.cls ≤ 4 ∧ e.cls ≠ 3 then
      match f.fused.pos with
      | some p => (r.estA - p.1, r.estB - p.2.1)
      | none => (0, 0)
    else if e.cls = 5 ∨ e.cls = 6 then
      match f.fused.hdg with
      | some h => (wrap32 (r.estA - h.1), 0)
      | none => (0, 0)
    else if e.cls = 7 then (wrap32 (r.estA - f.fused.roll), wrap32 (r.estB - f.fused.pitch))
    else if e.cls = 8 then
      match f.fused.wind with
      | some v => (r.estA - v.1, r.estB - v.2)
      | none => (0, 0)
    else (0, 0)
  | _, _ => (0, 0)

/-- The differences of every reference, saturated (R10, R203). -/
def Work.differences (s : State) (w : Work) : Work :=
  let f := w.core.fusion
  let ds := (List.range f.refs.length).map fun i => f.difference s.config.active i
  let refs := (f.refs.zip ds).map fun p => { p.1 with diffA := sat32 p.2.1, diffB := sat32 p.2.2 }
  (w.setFusion { f with refs := refs }).noteSats (overflows (ds.flatMap fun d => [d.1, d.2]))

/-- Divergence bookkeeping of one reference against the voted value: whether it has failed for T_VOTE (R223, R232). -/
def RefState.divStep (r : RefState) (fails : Bool) (now : Nat) : RefState :=
  if fails then { r with divSince := some (r.divSince.getD now) } else { r with divSince := none }

/-- Voting over positions or headings (R232, R233). -/
def Work.vote (s : State) (w : Work) (now : Nat) (pos : Bool) : Work :=
  let f := w.core.fusion
  let b := s.config.active
  let lo := if pos then 0 else 16
  let n := if pos then 16 else 4
  let cs := contributors b f lo n
  let tv := s.paramN 0x10010007 * msNs
  let on (i : Nat) : Bool := ((b.ref? i).map fun e => e.on 6).getD false
  let r (i : Nat) : RefState := f.refs.getD i .reset
  let fa : Int := if pos then ((f.fused.pos.map (·.1)).getD 0) else ((f.fused.hdg.map fun h => (h.1 : Int)).getD 0)
  let fb : Int := if pos then ((f.fused.pos.map (·.2.1)).getD 0) else 0
  let da (i : Nat) (v : Int) : Int := if pos then (r i).estA - v else wrap32 ((r i).estA - v)
  let va : Int :=
    if cs.length ≤ 2 then fa
    else if pos then medianOf (cs.map fun i => (r i).estA)
    else fa + medianOf (cs.map fun i => wrap32 ((r i).estA - fa))
  let vb : Int := if cs.length ≤ 2 then fb else if pos then medianOf (cs.map fun i => (r i).estB) else 0
  let d2 (i : Nat) : Int := dist2 pos (da i va) ((r i).estB - vb)
  let near := cs.filter fun i => decide (d2 i ≤ s.divLimit2 pos (r i).var)
  let pool := if near.isEmpty then cs else near
  let sv : Int := (pool.map fun i => (r i).var).foldl min ((pool.head?.map fun i => (r i).var).getD 0)
  let fails (i : Nat) : Bool :=
    on i && !cs.isEmpty && decide (s.divLimit2 pos ((r i).var + sv) < d2 i)
  -- two references
  let pairOut : Bool :=
    match cs with
    | [i, j] =>
      on i && on j && decide (s.divLimit2 pos ((r i).var + (r j).var)
        < dist2 pos (if pos then (r i).estA - (r j).estA else wrap32 ((r i).estA - (r j).estA)) ((r i).estB - (r j).estB))
    | _ => false
  let since := if pos then f.twoSince else f.hdgSince
  let since' := if pairOut then some (since.getD now) else none
  let pairDue := pairOut && decide ((since'.getD now) + tv ≤ now)
  let weak := cs.filter fun i => decide ((r i).weakAt.isSome ∧ now ≤ (r i).weakAt.getD 0 + 10 * secNs)
  let w := w.setFusion (if pos then { f with twoSince := since' } else { f with hdgSince := since' })
  let w :=
    if pairDue then
      match weak with
      | [i] => (w.testFailed i 6 now).onRef i fun r => r.reject now 6
      | _ =>
        let w := cs.foldl (fun w i => (w.testFailed i 6 now).onRef i fun r => r.doubt now 6) w
        w.raiseIf (!(if pos then f.twoSeen else f.hdgTwoSeen)) 0x1004 [lo]
    else w
  let seen := pairDue && decide (weak.length ≠ 1)
  let w := w.setFusion (if pos then { w.core.fusion with twoSeen := seen } else { w.core.fusion with hdgTwoSeen := seen })
  -- three or more
  let rejected := ((List.range n).map (lo + ·)).filter fun i => decide ((r i).shown = 3) && !(r i).restart
  let watch := (if 3 ≤ cs.length then cs else []) ++ rejected
  let w := watch.foldl (fun w i =>
    let w := w.onRef i fun r => r.divStep (fails i) now
    if fails i then w.onRef i fun r => { r with passSince := now } else w) w
  let late (i : Nat) : Bool :=
    match (w.core.ref i).divSince with
    | none => false
    | some t0 => decide (t0 + tv ≤ now)
  let out := if 3 ≤ cs.length then cs.filter late else []
  let passing := cs.filter fun i => !fails i
  let note (w : Work) (b : Bool) : Work :=
    w.setFusion (if pos then { w.core.fusion with majoritySeen := b } else { w.core.fusion with hdgMajoritySeen := b })
  if out.isEmpty then note w false
  else if cs.length < 2 * passing.length then
    let worst := out.foldl (fun m i => if d2 m < d2 i then i else m) (out.headD 0)
    (note w false).testFailed worst 6 now |>.onRef worst fun r => r.reject now 6
  else
    let w := out.foldl (fun w i => (w.testFailed i 6 now).onRef i fun r => r.doubt now 6) w
    note (w.raiseIf (!(if pos then f.majoritySeen else f.hdgMajoritySeen)) 0x1005 [lo]) true

/-- One degree as a binary angle difference (R233). -/
def oneDegree : Int := 11930465

/-- Motion reference units voted per axis (R233): a unit beyond 1° for T_VOTE is REJECTED where the two others pass, else all that
fail become SUSPECT, with event 0x1004 for two and 0x1005 for three, once per episode (R232, R253). -/
def Work.voteMru (s : State) (w : Work) (now : Nat) : Work :=
  let f := w.core.fusion
  let cs := contributors s.config.active f 20 3
  let r (i : Nat) : RefState := f.refs.getD i .reset
  let ax (g : RefState → Int) : Int := medianOf (cs.map fun i => g (r i))
  let roll := ax (·.value.1)
  let pitch := ax (·.value.2.1)
  let heave := ax (·.value.2.2)
  let far (i : Nat) (a p : Int) : Bool :=
    decide (oneDegree < ((r i).value.1 - a).natAbs ∨ oneDegree < ((r i).value.2.1 - p).natAbs)
  let on (i : Nat) : Bool := ((s.config.active.ref? i).map fun e => e.on 6).getD false
  let bad (i : Nat) : Bool :=
    match cs with
    | [x, y] => on x && on y && far x (r y).value.1 (r y).value.2.1 && (i = x || i = y)
    | [_, _, _] => on i && far i roll pitch
    | _ => false
  let lost := ([20, 21, 22].filter fun i => decide ((r i).shown = 3) && on i && !cs.isEmpty && far i roll pitch)
  let tv := s.paramN 0x10010007 * msNs
  let w := w.setFusion { f with fused := { f.fused with nMru := cs.length, roll := roll, pitch := pitch, heave := heave } }
  let w := lost.foldl (fun w i => w.onRef i fun r => { r with passSince := now }) w
  let w := cs.foldl (fun w i => w.onRef i fun r => r.divStep (bad i) now) w
  let due := cs.filter fun i =>
    match (w.core.ref i).divSince with
    | none => false
    | some t0 => decide (t0 + tv ≤ now)
  let alone : Bool := cs.length = 3 && (cs.filter bad).length = 1
  let w := due.foldl (fun w i =>
    (w.testFailed i 6 now).onRef i fun r => if alone then r.reject now 6 else r.doubt now 6) w
  let seen := !due.isEmpty && !alone
  let w := w.raiseIf (seen && !f.mruSeen) (if cs.length = 2 then 0x1004 else 0x1005) [20]
  w.setFusion { w.core.fusion with mruSeen := seen }

/-- Wind sensors voted (R233). -/
def Work.voteWind (s : State) (w : Work) : Work :=
  let f := w.core.fusion
  let cs := contributors s.config.active f 23 3
  let r (i : Nat) : RefState := f.refs.getD i .reset
  let n := medianOf (cs.map fun i => (r i).estA)
  let e := medianOf (cs.map fun i => (r i).estB)
  let apart : Bool :=
    match cs with
    | [i, j] =>
      let a := (r i).estA - (r j).estA
      let b := (r i).estB - (r j).estB
      decide (25000000000000 < a * a + b * b)
    | _ => false
  let wind := if cs.isEmpty ∨ apart then none else some (sat32 n, sat32 e)
  let w := w.setFusion { f with windSeen := apart, fused := { f.fused with nWind := cs.length, wind := wind } }
  let w := w.noteSats (if wind.isSome then overflows [n, e] else 0)
  w.raiseIf (apart && !f.windSeen) 0x1004 [23]

/-- The VARIANCE condition of a reference: reported variance, or innovation variance of the last 60 s, above VAR_LIMIT (R223). -/
def RefState.varianceOver (r : RefState) (e : RefEntry) : Bool :=
  let n := r.innovations.length
  let sum := (r.innovations.map (·.2)).foldl (· + ·) 0
  let unit : Int := if kindOf e.cls = .position then 1000000 else 1
  decide ((r.reportedVar.getD 0) > e.varLimit) || (decide (0 < n) && decide ((e.varLimit : Int) * unit * n < sum))

/-- DRIFT: the difference from the others over T_DRIFT (R223). -/
def Work.driftStep (s : State) (w : Work) (now i : Nat) (e : RefEntry) : Work :=
  let f := w.core.fusion
  let span := s.paramN 0x1001000C * secNs
  let cs := contributors s.config.active f (if kindOf e.cls = .angle then 16 else 0) (if kindOf e.cls = .angle then 4 else 16)
  let r := f.refs.getD i .reset
  let h : Int := (f.fused.hdg.map fun h => (h.1 : Int)).getD 0
  let get (x : RefState) : Int := if kindOf e.cls = .angle then wrap32 (x.estA - h) else x.estA
  match othersMean f cs i get, othersMean f cs i (·.estB) with
  | some ma, some mb =>
    if !r.restart then
      w.onRef i fun r => { r with drift := (now, get r - ma, r.estB - mb) :: r.drift.filter fun d => now < d.1 + span }
    else w
  | _, _ => if r.drift.isEmpty then w else w.onRef i fun r => { r with drift := [] }

/-- DRIFT fails: the window is full and a mean exceeds L_DRIFT, or 0.5° for headings. -/
def RefState.drifted (r : RefState) (span limit : Nat) (now : Nat) (angle : Bool) : Bool :=
  match r.drift.getLast? with
  | none => false
  | some d =>
    let n : Int := r.drift.length
    let sa := (r.drift.map (·.2.1)).foldl (· + ·) 0
    let sb := (r.drift.map (·.2.2)).foldl (· + ·) 0
    let l : Int := limit
    decide (d.1 + span ≤ now + 1000000000) &&
      (decide (l * n < sa.natAbs) || (!angle && decide (l * n < sb.natAbs)))

/-- TIMEOUT: no applied sample for the time of the reference; ACCEPTED, TIME-SUSPECT and SUSPECT become STALE (R223, R226). -/
def Work.timeoutCheck (s : State) (w : Work) (now i : Nat) : Work :=
  match s.config.active.ref? i with
  | none => w
  | some e =>
    let r := w.core.ref i
    if e.on 8 ∧ r.appliedAt + e.timeout * msNs ≤ now ∧ r.stale = false ∧ r.deselected = false ∧ r.rejected = false then
      (w.testFailed i 8 now).onRef i fun r =>
        { r with stale := true, suspect := false, track := none, restart := true, fixedPoint := none, last := none,
                 varSince := none, divSince := none, drift := [], innovations := [], cause := 8 }
    else if e.on 8 ∧ r.appliedAt + e.timeout * msNs ≤ now ∧ r.rejected then w.onRef i fun r => { r with passSince := now }
    else w

/-- SUSPECT ends after the recovery time without a SUSPECT condition (R226). -/
def Work.recoveryCheck (s : State) (w : Work) (now i : Nat) : Work :=
  let r := w.core.ref i
  if r.suspect ∧ r.code = 2 ∧ r.restart = false ∧ r.suspectAt + s.paramN 0x1001000A * secNs ≤ now then
    w.onRef i fun r => { r with suspect := false, cause := 19 }
  else w

/-- REJECTED ends after the re-acceptance time with every enabled test passing, with AUTO_REACCEPT set (R226). -/
def Work.reacceptCheck (s : State) (w : Work) (now i : Nat) : Work :=
  match s.config.active.ref? i with
  | none => w
  | some e =>
    let r := w.core.ref i
    if r.rejected ∧ e.auto ∧ r.passSince + s.paramN 0x1001000B * secNs ≤ now then
      w.onRef i fun r => { r with rejected := false, suspect := true, suspectAt := now, innovFails := 0, cause := 20 }
    else w

/-- The state a reference shows, with event 0x1001 at a change (R226). -/
def Work.showState (w : Work) (i : Nat) : Work :=
  let r := w.core.ref i
  if r.code = r.shown then w
  else (w.raise 0x1001 [i, r.shown, r.code, r.cause]).onRef i fun r => { r with shown := r.code }

/-- A soft spoofing indicator, bits 0, 1 and 4 of the SPOOF word of the latest epoch, is set (R238). -/
def LaneGnss.spoofSoft (g : LaneGnss) : Bool := [0, 1, 4].any fun i => bit g.spoof i
/-- A hard indicator, bits 2, 3 and 5, is set. -/
def LaneGnss.spoofHard (g : LaneGnss) : Bool := [2, 3, 5].any fun i => bit g.spoof i

/-- State changes at the end of the fusion phase (R226, R238). -/
def Work.endOfFusion (s : State) (w : Work) (now p i : Nat) : Work :=
  match s.config.active.ref? i with
  | none => w
  | some e =>
    let lg := s.config.active.leggett e.leggett
    let gn := e.cls = 1 ∨ e.cls = 6
    let w := w.onRef i fun r =>
      let bad := lg.timeField && !(r.clock.good now (p * msNs))
      { r with clockBad := bad, cause := if bad = r.clockBad then r.cause else 9 }
    let w := if e.on 9 && (w.core.ref i).clockBad then w.testFailed i 9 now else w
    let w := if e.cls ≤ 6 ∧ e.cls ≠ 3 then w.driftStep s now i e else w
    let r := w.core.ref i
    let wide := e.on 4 && r.varianceOver e
    let w :=
      if wide then
        let w := (w.testFailed i 4 now).onRef i fun r =>
          { r.doubt now 4 with varSince := some (r.varSince.getD now), weakAt := some now }
        if r.varSince.getD now + 30 * secNs ≤ now then w.onRef i fun r => r.reject now 4 else w
      else w.onRef i fun r => { r with varSince := none }
    let ang := kindOf e.cls = .angle
    let lim := if ang then 5965232 else s.paramN 0x1001000D
    let w :=
      if e.on 7 && r.drifted (s.paramN 0x1001000C * secNs) lim now ang then
        (w.testFailed i 7 now).onRef i fun r => { r.doubt now 7 with weakAt := some now }
      else w
    let w := if gn ∧ w.core.gnss.spoofSoft then w.onRef i fun r => r.doubt now 21 else w
    let w := if gn ∧ w.core.gnss.spoofHard then w.onRef i fun r => { r.reject now 21 with passSince := now } else w
    let w := w.timeoutCheck s now i
    let w := w.recoveryCheck s now i
    let w := w.reacceptCheck s now i
    w.showState i

/-- The states of a target track that time brings (R222); a COASTING or LOST track is only predicted. An INITIATING track without a sample
for the track timeout is COASTING too (DESIGN CHOICE, log 116: the conditions overlap). -/
def Work.targetCheck (s : State) (w : Work) (now i : Nat) : Work :=
  let g := w.core.fusion.targets.getD i { st := 0, track := none, samples := 0, lastAt := 0 }
  let set (x : Target) : Work := w.setFusion { w.core.fusion with targets := setAt w.core.fusion.targets i fun _ => x }
  if g.st = 0 ∨ g.st = 4 then w
  else if g.lastAt + s.paramN 0x10040002 * secNs ≤ now then
    (set { g with st := 4, samples := 0 }).raise 0x1009 [i]
  else if g.lastAt + s.paramN 0x10040001 * msNs ≤ now then set { g with st := 3 }
  else w

/-- Targets predicted to the strobe. -/
def Work.targetsPredict (s : State) (w : Work) (strobe : Nat) : Work :=
  let q (i : Nat) : Nat :=
    match ((List.range 16).filterMap fun k => s.config.active.ref? k).find? fun e => e.cls = 3 ∧ e.track = i with
    | none => 0
    | some e => e.q
  let step (i : Nat) : Target :=
    let g := w.core.fusion.targets.getD i { st := 0, track := none, samples := 0, lastAt := 0 }
    if g.st = 0 ∨ g.st = 4 then g
    else { g with track := g.track.map fun x => x.predict .position (q i) strobe }
  w.setFusion { w.core.fusion with targets := (List.range 8).map step }

/-- Bars that have run out are lifted (R237). -/
def Work.barExpiry (w : Work) (now : Nat) : Work :=
  w.setFusion { w.core.fusion with barred := w.core.fusion.barred.filter fun b => now < b.2.2 }

/-- Events of the count of contributing position references (R232). -/
def Work.countEvents (w : Work) (before : Nat) : Work :=
  let n := w.core.fusion.fused.nPos
  let w := w.raiseIf (decide (n = 1 ∧ 1 < before)) 0x1002 []
  w.raiseIf (decide (n = 0 ∧ 0 < before)) 0x1003 []

/-- A track moved with the origin. -/
def Track.shift (x : Track) (dn de : Int) : Track := { x with a := x.a - dn, b := x.b - de }

/-- Fusion moved with the origin (R4): position tracks, fixed points, targets, fused position. -/
def Fusion.shift (f : Fusion) (b : Bank) (dn de : Int) : Fusion :=
  let move (i : Nat) : RefState :=
    let r := f.refs.getD i .reset
    match b.ref? i with
    | none => r
    | some e =>
      if e.cls ≤ 4 ∧ e.cls ≠ 3 then
        { r with
          track := r.track.map fun x => x.shift dn de
          last := r.last.map fun l => (l.1 - dn, l.2.1 - de, l.2.2)
          fixedPoint := r.fixedPoint.map fun p => (p.1 - dn, p.2 - de)
          estA := r.estA - dn
          estB := r.estB - de }
      else r
  let moveTarget (g : Target) : Target := { g with track := g.track.map fun x => x.shift dn de }
  { f with
    refs := (List.range f.refs.length).map move
    targets := f.targets.map moveTarget
    fused := { f.fused with pos := f.fused.pos.map fun p => (p.1 - dn, p.2.1 - de, p.2.2) } }

/-- A pair of data words moved. -/
def Engine.shiftPair (e : Engine) (a : Nat) (dn de : Int) : Engine :=
  (e.setInt a (e.int a - dn)).setInt (a + 1) (e.int (a + 1) - de)

/-- Every Earth-frame state of a lane moved by the difference of two origins, exactly in 0.1 mm (R4). -/
def Core.shift (c : Core) (b : Bank) (dn de : Int) : Core :=
  { c with
    fusion := c.fusion.shift b dn de
    engine := ((c.engine.shiftPair 0x1306 dn de).shiftPair 0x1110 dn de).shiftPair 0x1100 dn de
    ctl := { c.ctl with tn := c.ctl.tn - dn, te := c.ctl.te - de, fromN := c.ctl.fromN - dn, fromE := c.ctl.fromE - de }
    rewind := c.rewind.map fun (e : RewindEntry) =>
      { e with
        fusion := e.fusion.shift b dn de
        observer := e.observer.map fun p =>
          if p.1 = 0x1306 then (p.1, BitVec.ofInt 32 (p.2.toInt - dn))
          else if p.1 = 0x1307 then (p.1, BitVec.ofInt 32 (p.2.toInt - de))
          else p } }

/-- Whether a reference with a geodetic position contributes (R4). -/
def geoContributes (b : Bank) (f : Fusion) : Bool :=
  (contributors b f 0 16).any fun i => ((b.ref? i).map fun e => decide (e.cls ≤ 1)).getD false

/-- The origin fixed at the present VRP estimate: position at that estimate, states shifted, geodetic position kept only when a
geodetic reference contributes (R3, R4). -/
def Core.fixOrigin (c : Core) (b : Bank) (site : Bool) : Core :=
  let p := c.vrp
  let geo :=
    if geoContributes b c.fusion then
      c.origin.geo.map fun o => fromEarth o p.1 p.2 c.fusion.fused.height
    else none
  let d : Int × Int :=
    match c.origin.geo, geo with
    | some o, some g => let q := toEarth o g; (q.1, q.2.1)
    | _, _ => p
  let c := c.shift b d.1 d.2
  { c with origin := { geo := geo, fixed := true, site := site } }

/-- The provisional origin of STANDBY (R4): fixed in the first frame in which a position reference contributes, moved whenever the VRP
estimate lies more than 1 km from it. -/
def Work.provisionalOrigin (s : State) (w : Work) : Work :=
  let c := w.core
  let p := c.vrp
  if c.ctl.mode ≠ .standby then w
  else if c.origin.fixed = false then
    if c.fusion.fused.nPos = 0 then w else w.setCore (c.fixOrigin s.config.active false)
  else if 10000000 * 10000000 < p.1 * p.1 + p.2 * p.2 then w.setCore (c.fixOrigin s.config.active false)
  else w

/-- Before any origin, the first geodetic sample of the frame stands in for one, so that positions can be formed at all. -/
def Core.seedOrigin (c : Core) (xs : List RefSample) : Core :=
  match c.origin.geo, c.origin.fixed with
  | none, false =>
    match xs.findSome? fun x =>
        match x.meas with
        | .geo p _ _ => some p
        | .gnss p _ _ _ _ => some p
        | _ => none with
    | none => c
    | some p => { c with origin := { c.origin with geo := some p } }
  | _, _ => c

/-- The ellipsoidal height of the VRP after the geodetic samples of a frame: that of the antenna less the height of the antenna above the
VRP (R4, R216). -/
def Core.heightOf (c : Core) (b : Bank) (xs : List RefSample) : Int :=
  xs.foldl (fun h x =>
    let below (up : Int) (antB : Bool) : Int :=
      match b.ref? x.ref with
      | none => up
      | some e =>
        let lg := b.leggett (if antB then e.leggett + 1 else e.leggett)
        let (psi, th, ph) := c.attitude x.tm
        up + (leverArm psi th ph lg.x lg.y lg.z).2.2
    match x.meas with
    | .geo p _ _ => if x.bad then h else below p.height false
    | .gnss p _ antB _ failed => if failed then h else below p.height antB
    | _ => h) c.fusion.fused.height

/-- The samples of a frame put through their tests in order; in a rewind, only the tests of the samples it inserts are counted (R220, R223,
R243). -/
def Work.applyAll (s : State) (w : Work) (strobe : Nat) (rewound : Bool) (xs : List RefSample) : Work :=
  xs.foldl (fun w x =>
    let v := w.applySample s strobe x
    if rewound && !x.retro then { v with counts := w.counts } else v) w

/-- Fusion of one frame from its samples (R220 to R240); `now` is the strobe. -/
def Work.fuse (s : State) (w : Work) (strobe p : Nat) (rewound : Bool) (xs : List RefSample) : Work :=
  let before := w.core.fusion.fused.nPos
  let w := w.setCore (w.core.seedOrigin xs)
  let w := w.applyAll s strobe rewound xs
  let counted := w.counts
  let w := (List.range 26).foldl (fun w i => w.estimate s strobe i) w
  let h := w.core.heightOf s.config.active xs
  let w := w.setFusion { w.core.fusion with fused := { w.core.fusion.fused with height := h } }
  let w := (w.fusePosition s).fuseHeading s
  let w := (w.voteMru s strobe).voteWind s
  let w := (w.vote s strobe true).vote s strobe false
  let w := w.differences s
  let w := w.targetsPredict s strobe
  let w := (List.range 8).foldl (fun w i => w.targetCheck s strobe i) w
  let w := (List.range 26).foldl (fun w i => w.endOfFusion s strobe p i) w
  let w := (w.barExpiry strobe).countEvents before
  if rewound then { w with counts := counted } else w

/-- Module time less monotonic time at a monotonic time, ns, from the strobes of the snapshots: between two of them without a step the
line through both, else the earlier one (R209; DEDUCED, log 115). -/
def offsetAt (hs : List (Nat × Int × Bool)) (t : Nat) : Int :=
  match hs.find? fun h => h.1 ≤ t with
  | none => (hs.getLast?.map (·.2.1)).getD 0
  | some a =>
    match (hs.filter fun h => t < h.1).getLast? with
    | none => a.2.1
    | some b => if a.2.2 = b.2.2 then lerp a.1 b.1 a.2.1 (b.2.1 - a.2.1) t else a.2.1

/-- UTC at a monotonic time, ns (R209). -/
def State.utcAtMono (s : State) (c : Core) (t : Nat) : Int := (t : Int) + offsetAt c.offsets t - s.taiMinusUtc * secNs

/-- A reference's sample out of a snapshot, timed and flagged (R208 to R211, R223); `pn` is the frame period in ns. -/
def RefSample.make (s : State) (c : Core) (i : Nat) (e : RefEntry) (pn strobe : Nat) (sm : Sample) (pr : Option Parsed) :
    RefSample :=
  let lg := s.config.active.leggett e.leggett
  let gn := e.cls = 1 ∨ e.cls = 6
  let ta : Int := (sm.portTs : Int) - (if gn then 0 else lg.latencyUs * 1000)
  let clk := (c.ref i).clock.recent strobe
  let good := clk.good strobe pn
  let tod := pr.bind fun x => x.tod
  let timed : Int × Bool :=
    match lg.timeField && !gn, tod with
    | true, some t =>
      let ts := (sm.portTs : Int) - todAge (s.utcAtMono c sm.portTs) t
      if good then (ts + clk.fit ts, false) else (ta, true)
    | true, none => (ta, !good)
    | _, _ => (ta, false)
  { ref := i, arrival := sm.arrival, portTs := sm.portTs, tm := min timed.1 sm.portTs, timeSuspect := timed.2,
    bad := bit sm.sflags.toNat 1 || ((pr.map fun x => !x.ok).getD true), calibrating := bit sm.sflags.toNat 2,
    variance := pr.bind fun x => x.variance, retro := false,
    meas := (pr.map fun x => x.meas).getD (.heading 0) }

/-- The samples of a source in the sections a frame takes, oldest first, numbered. -/
def samplesOf (secs : List Section) (source : Nat) : List (Nat × Sample) :=
  let xs := (secs.filter fun x => x.source = source).flatMap fun x => x.samples
  (List.range xs.length).zip xs

/-- The source a reference takes its samples from; the internal GNSS takes the epochs (R205, R240). -/
def RefEntry.sources (e : RefEntry) : List Nat := if e.cls = 1 ∨ e.cls = 6 then [] else [e.source]

/-- The sample formats a class accepts (R205). -/
def Meas.accepted (m : Meas) (cls : Nat) : Bool :=
  match m with
  | .geo .. | .gst .. => decide (cls = 0)
  | .gnss .. => decide (cls = 1)
  | .polar .. => decide (cls = 2 ∨ cls = 3)
  | .wire .. => decide (cls = 4)
  | .heading .. => decide (cls = 5)
  | .baseline .. => decide (cls = 6)
  | .motion .. => decide (cls = 7)
  | .wind .. => decide (cls = 8)

/-- The parsed contents of a sample; GST sentences are no samples of a position (R720). -/
def parsedOf (ps : List Parsed) (source index : Nat) : Option Parsed :=
  ps.find? fun x => x.source = source ∧ x.index = index

/-- The contents of a sample: a binary message through its descriptors (R551), anything else as the command's operand parses it; a format
that the class does not accept fails its parser check (R205). -/
def State.contents (s : State) (e : RefEntry) (ps : List Parsed) (source index : Nat) (sm : Sample) : Option Parsed :=
  let ds := s.config.active.sourceDescs source
  let p : Option Parsed :=
    if ds.isEmpty then parsedOf ps source index
    else
      let d := decodeMessage ds (messageBytes source sm.data)
      let v (k : Nat) : Int := (assoc d.values k).getD 0
      let meas : Meas :=
        if e.cls = 7 then .motion (v 0) (v 1) (v 2) (v 3) (v 4) (v 5)
        else if e.cls = 5 then .heading (v 0 % 4294967296).toNat
        else .polar (v 0) (v 1 % 4294967296).toNat (v 2 ≠ 0)
      some { source := source, index := index, ok := d.ok, tod := d.time, variance := none, meas := meas }
  p.map fun x => { x with ok := x.ok && x.meas.accepted e.cls }

/-- Decode saturations of a sample of a binary source (R549). -/
def State.decodeSaturations (s : State) (source : Nat) (sm : Sample) : Nat :=
  (decodeMessage (s.config.active.sourceDescs source) (messageBytes source sm.data)).saturated

/-- δ of the samples of a sensor with a time field learned, and its GST sentences noted (R209, R720). -/
def Work.learnClocks (s : State) (w : Work) (secs : List Section) (ps : List Parsed) : Work :=
  (List.range 26).foldl (fun w i =>
    match s.config.active.ref? i with
    | none => w
    | some e =>
      let lg := s.config.active.leggett e.leggett
      let items := e.sources.flatMap fun src => (samplesOf secs src).map fun x => (x.2, s.contents e ps src x.1 x.2)
      let w := e.sources.foldl (fun (w : Work) src =>
        (samplesOf secs src).foldl (fun w x => w.countN (ctrDecode src) (s.decodeSaturations src x.2)) w) w
      items.foldl (fun w x =>
        match x.2 with
        | none => w
        | some pr =>
          let w :=
            match pr.meas with
            | .gst a b tod => w.onRef i fun r => { r with gst := ((tod, max (a * a) (b * b)) :: r.gst).take 16 }
            | _ => w
          match lg.timeField, pr.tod with
          | true, some t =>
            let d := todAge (s.utcAtMono w.core x.1.portTs) t - lg.latencyUs * 1000
            w.onRef i fun r => { r with clock := r.clock.learn x.1.portTs d }
          | _, _ => w) w) w

/-- The CLOCK test of every reference with a time field (R212); `p` is the frame period in ns. -/
def Work.clockJumps (s : State) (w : Work) (now p : Nat) : Work :=
  (List.range 26).foldl (fun w i =>
    match s.config.active.ref? i with
    | none => w
    | some e =>
      if e.on 9 ∧ (w.core.ref i).clock.jumped p then
        let w := (w.testFailed i 9 now).onRef i fun r => { r.reject now 9 with clock := { bins := [] } }
        w.raise 0x1006 [i]
      else w) w

/-- The samples of the internal GNSS and of its heading in the epochs of some sections; an epoch that restarts or has no records gives
none (R205, R234, R239, R240). -/
def State.epochSamples (s : State) (c : Core) (i : Nat) (e : RefEntry) (pn strobe : Nat) (es : List GnssEpoch) : List RefSample :=
  es.filterMap fun x =>
    let offset := offsetAt c.offsets x.nav.portTs
    let meas : Option Meas :=
      if x.a.isEmpty && x.b.isEmpty then none
      else if e.cls = 1 then s.gnssPosition c x offset
      else some (s.gnssBaseline c x offset)
    meas.map fun m =>
      RefSample.make s c i e pn strobe x.nav (some { source := e.source, index := 0, ok := true, tod := none, variance := none, meas := m })

/-- The samples of every reference in a snapshot's sections, in source order of the references (R205). -/
def Work.collect (s : State) (w : Work) (secs : List Section) (ps : List Parsed) (pn strobe : Nat) : List RefSample :=
  (List.range 26).flatMap fun i =>
    match s.config.active.ref? i with
    | none => []
    | some e =>
      if e.cls = 1 ∨ e.cls = 6 then s.epochSamples w.core i e pn strobe (epochsOf secs)
      else
        (e.sources.flatMap fun src => (samplesOf secs src).map fun x => (x.2, s.contents e ps src x.1 x.2)).filterMap fun x =>
          match x.2 with
          | some { meas := .gst _ _ _, .. } => none
          | pr => some (RefSample.make s w.core i e pn strobe x.1 pr)

/-- The effective rewind depth of a frame (R101, R245). -/
def effectiveDepth (p : Nat) (replay : Bool) (computed : Nat) : Nat :=
  let w := if replay then (if p < 14 then 0 else p - 14) else p - 9
  min (min 32 (w * 4)) computed

/-- Depth of a sample whose tm lies before the window that starts at `cut` (R241). -/
def sampleDepth (cut tm : Int) (p : Nat) : Nat := ((cut - tm - 1) / (p * msNs) + 2).toNat

/-- Samples beyond the rewind window: each is discarded and counted for its reference, with event 0x1008 at most once a minute (R101,
R241). -/
def Work.discardLate (w : Work) (now : Nat) (xs : List RefSample) : Work :=
  xs.foldl (fun w x =>
    let w := w.count (ctrLate x.ref)
    let quiet :=
      match (w.core.ref x.ref).lateEvent with
      | none => true
      | some t0 => t0 + 60 * secNs ≤ now
    if quiet then (w.raise 0x1008 [x.ref]).onRef x.ref fun r => { r with lateEvent := some now } else w) w

/-- Late samples held for rewind, or discarded beyond the effective depth (R241). -/
def Work.takeLate (w : Work) (now depth p : Nat) (cut : Int) (xs : List RefSample) : Work :=
  xs.foldl (fun w x =>
    if sampleDepth cut x.tm p ≤ depth then w.setCore { w.core with late := w.core.late ++ [{ x with retro := true }] }
    else w.discardLate now [x]) w

/-- A satellite put in its place in ascending order of system and SVID. -/
def insertSat (acc : List (Nat × Nat)) (v : Nat × Nat) : List (Nat × Nat) :=
  let key (u : Nat × Nat) : Nat := u.1 * 256 + u.2
  acc.filter (fun u => key u ≤ key v) ++ [v] ++ acc.filter fun u => key v < key u

/-- The fusion part of the record (R203). -/
def fusionRecord (b : Bank) (c : Core) (now : Nat) : FusionRec :=
  let f := c.fusion
  let g := f.fused
  let o := c.origin
  let refRec (i : Nat) : RefRec :=
    let r := c.ref i
    if (b.ref? i).isSome then
      { st := r.shown, mode := r.mode, conds := r.conds, weight := r.weight, diffA := r.diffA, diffB := r.diffB }
    else { st := 0xFF, mode := 0, conds := 0, weight := 0, diffA := 0, diffB := 0 }
  let targetRec (x : Target) : TargetRec :=
    match x.track with
    | none => { st := x.st, tn := 0, te := 0, tvn := 0, tve := 0, age := 0 }
    | some t => { st := x.st, tn := sat32 t.a, te := sat32 t.b, tvn := sat32 t.va, tve := sat32 t.vb,
                  age := min 4294967295 ((now - x.lastAt) / msNs) }
  { fflags := b2n g.pos.isSome + 2 * b2n g.hdg.isSome + 4 * b2n (decide (0 < g.nMru)) + 8 * b2n g.wind.isSome
      + 16 * b2n o.geo.isSome + 32 * b2n o.site + 64 * b2n (decide (32 < f.barred.length)),
    nPos := g.nPos, nHdg := g.nHdg, nMru := g.nMru, nWind := g.nWind,
    posN := (g.pos.map (·.1)).getD 0, posE := (g.pos.map (·.2.1)).getD 0, varPos := (g.pos.map (·.2.2)).getD 0,
    heading := (g.hdg.map (·.1)).getD 0, varHdg := (g.hdg.map (·.2)).getD 0,
    roll := g.roll, pitch := g.pitch, heave := g.heave,
    windN := (g.wind.map (·.1)).getD 0, windE := (g.wind.map (·.2)).getD 0,
    originLat := (o.geo.map (·.lat)).getD (-2147483648), originLon := (o.geo.map (·.lon)).getD 0,
    originH := (o.geo.map (·.height)).getD 0,
    refs := (List.range 26).map refRec, tracks := f.targets.map targetRec,
    barred := ((f.barred.map fun b => (b.1, b.2.1)).foldl insertSat []).take 32 }

/-- The fusion part as bytes (R203). -/
def FusionRec.bytes (f : FusionRec) : List Byte :=
  le 2 1 ++ le 2 f.fflags ++ le 1 f.nPos ++ le 1 f.nHdg ++ le 1 f.nMru ++ le 1 f.nWind
    ++ leInt 4 f.posN ++ leInt 4 f.posE ++ le 4 f.varPos ++ le 4 f.heading ++ le 4 f.varHdg
    ++ leInt 4 f.roll ++ leInt 4 f.pitch ++ leInt 4 f.heave ++ leInt 4 f.windN ++ leInt 4 f.windE
    ++ leInt 4 f.originLat ++ le 4 f.originLon ++ leInt 4 f.originH ++ le 4 0
    ++ f.refs.flatMap (fun r => le 1 r.st ++ le 1 r.mode ++ le 2 r.conds ++ le 4 r.weight ++ leInt 4 r.diffA ++ leInt 4 r.diffB)
    ++ f.tracks.flatMap (fun t => le 1 t.st ++ le 3 0 ++ leInt 4 t.tn ++ leInt 4 t.te ++ leInt 4 t.tvn ++ leInt 4 t.tve ++ le 4 t.age)
    ++ (List.range 32).flatMap fun i =>
      match f.barred[i]? with
      | some v => le 1 v.1 ++ le 1 v.2
      | none => le 2 0xFFFF

end Sys2Proof.Machine
end

