-- ==== Sys2Proof/Machine/Solver.lean ====
section
/-!
DEFINITION. The active-set solver of allocation and of consequence analysis, operation by operation (R332 to R336, R340, R341).
Rows of A are lists of (variable, entry) in ascending variable; entries that are zero by the problem's form are left out,
which changes no inner product of R340.
-/

namespace Sys2Proof.Machine

/-- A sparse row. -/
abbrev SRow := List (Nat × F64)

/-- An inequality a·x ≤ b: a row, or a bound of a variable; the list position is its index (R311). -/
structure Con where
  id : ConId
  row : SRow
  b : F64
deriving DecidableEq, Repr

/-- A problem: diagonal of H, c, the three equality rows with τ, and the inequalities in ascending index. -/
structure Problem where
  h : List F64
  c : List F64
  eqs : List SRow
  cons : List Con
  rows : Nat
  x0 : List F64
  cap : Nat

/-- How a solve ends. -/
inductive SolveEnd where
  | optimal
  | capped
  | numeric
deriving DecidableEq, Repr

/-- The result of a solve. -/
structure Solved where
  x : List F64
  ending : SolveEnd
  iter : Nat
  /-- Final working set without its equality rows, and the three equality multipliers of the last evaluation. -/
  working : List ConId
  lambda : List F64

/-- 2^-40. -/
def eps40 : F64 := .ofIntExp 1 (-40)

/-- 1. -/
def F64.one : F64 := .ofInt 1

/-- Inner product of a sparse row and a dense vector (rule 2 of R340). -/
def SRow.dot (r : SRow) (x : List F64) : F64 := r.foldl (fun acc p => F64.fma p.2 (x.getD p.1 .zero) acc) .zero

/-- A sparse row as a dense vector. -/
def SRow.dense (r : SRow) (n : Nat) : List F64 := (List.range n).map fun v => (assoc r v).getD .zero

/-- The largest absolute value of a list. -/
def maxAbs (xs : List F64) : F64 := xs.foldl (fun m x => m.max x.abs) .zero

/-- Element by element. -/
def zip2 (f : F64 → F64 → F64) (a b : List F64) : List F64 := (a.zip b).map fun p => f p.1 p.2

/-- Forward substitution L y = r. -/
def forwardSub : List (List F64) → List F64 → List F64
  | l, r => (l.zip r).foldl (fun y p => y ++ [(p.2.sub (F64.dot p.1 y)).div (p.1.getD y.length .zero)]) []

/-- Back substitution Lᵀ z = y: from the last row up, each sum in ascending index. -/
def backSub (l : List (List F64)) (y : List F64) : List F64 :=
  (List.range l.length).reverse.foldl (fun z i =>
    let col := (l.drop (i + 1)).map fun r => r.getD i .zero
    (((y.getD i .zero).sub (F64.dot col z)).div ((l.getD i []).getD i .zero)) :: z) []

/-- The solver at work: x, the working set (its rows, in order) with the positions of its inequalities, the factor, marked constraints. -/
structure Solver where
  x : List F64
  eqs : List SRow
  active : List (Nat × Con)
  l : List (List F64)
  marked : List Nat
  lambda : List F64
  /-- A NaN or an infinite value has been computed. -/
  bad : Bool

/-- The rows of the working set. -/
def Solver.rows (s : Solver) : List SRow := s.eqs ++ s.active.map fun p => p.2.row

/-- The row of L a constraint would get, and K_ii with its pivot (R341). -/
def Solver.newRow (s : Solver) (hinv : List F64) (a : SRow) : List F64 × F64 × F64 :=
  let n := hinv.length
  let u := SRow.dense (a.map fun p => (p.1, p.2.mul (hinv.getD p.1 .zero))) n
  let k := s.rows.map fun r => r.dot u
  let kii := a.dot u
  let l := forwardSub s.l k
  (l, kii, kii.sub (F64.dot l l))

/-- A row appended to the factor. -/
def Solver.append (s : Solver) (l : List F64) (d : F64) : Solver :=
  { s with l := s.l ++ [l ++ [d.sqrt]], bad := s.bad || !(l.all F64.finite) || !d.sqrt.finite }

/-- An equality row joins the working set. -/
def Solver.addEq (s : Solver) (hinv : List F64) (a : SRow) : Solver :=
  let r := s.newRow hinv a
  { s.append r.1 r.2.2 with eqs := s.eqs ++ [a] }

/-- An inequality joins the working set if its pivot allows, else it is marked (R333). -/
def Solver.addCon (s : Solver) (hinv : List F64) (i : Nat) (c : Con) : Solver :=
  let r := s.newRow hinv c.row
  if (eps40.mul r.2.1).lt r.2.2 then
    { s.append r.1 r.2.2 with active := s.active ++ [(i, c)], marked := [] }
  else { s with marked := i :: s.marked, bad := s.bad || !r.2.2.finite }

/-- One Givens rotation of columns i and i + 1 over the rows from i on (R341). -/
def givens (l : List (List F64)) (i : Nat) : List (List F64) :=
  let row := l.getD i []
  let a := row.getD i .zero
  let b := row.getD (i + 1) .zero
  let rho := ((a.mul a).add (b.mul b)).sqrt
  let c := a.div rho
  let s := b.div rho
  (List.range l.length).map fun r =>
    let x := l.getD r []
    if r < i then x
    else if r = i then setAt (setAt x i fun _ => rho) (i + 1) fun _ => .zero
    else
      let u := x.getD i .zero
      let v := x.getD (i + 1) .zero
      setAt (setAt x i fun _ => (c.mul u).add (s.mul v)) (i + 1) fun _ => (c.mul v).sub (s.mul u)

/-- The factor after the row at position q is removed (R341). -/
def removeRow (l : List (List F64)) (q : Nat) : List (List F64) :=
  let m := l.length
  let l1 := l.take q ++ l.drop (q + 1)
  let l2 := (List.range (m - 1 - q)).foldl (fun l k => givens l (q + k)) l1
  (List.range (m - 1)).map fun r => (l2.getD r []).take (r + 1)

/-- The inequality at position k of the working set removed. -/
def Solver.drop (s : Solver) (k : Nat) : Solver :=
  let l := removeRow s.l (s.eqs.length + k)
  { s with active := s.active.take k ++ s.active.drop (k + 1), l := l, marked := []
           bad := s.bad || !(l.all fun r => r.all F64.finite) }

/-- The most negative multiplier below the threshold; its position, the lowest constraint index on a tie. -/
def pickNegative (thr : F64) (xs : List (Nat × Nat × F64)) : Option Nat :=
  (xs.foldl (fun (best : Option (Nat × Nat × F64)) x =>
    if x.2.2.lt thr then
      match best with
      | none => some x
      | some b => if x.2.2.lt b.2.2 ∨ (x.2.2 = b.2.2 ∧ x.2.1 < b.2.1) then some x else some b
    else best) none).map fun x => x.1

/-- One pass (R332); the second result tells that the solve is OPTIMAL. -/
def Solver.pass (s : Solver) (p : Problem) (hinv : List F64) : Solver × Bool :=
  let hx := zip2 F64.mul p.h s.x
  let g := zip2 F64.add hx p.c
  let w := zip2 F64.mul hinv g
  let rows := s.rows
  let y := forwardSub s.l (rows.map fun r => (r.dot w).neg)
  let lam := backSub s.l y
  let at_ := (rows.zip lam).foldl (fun acc q => q.1.foldl (fun acc e =>
    setAt acc e.1 fun t => F64.fma e.2 q.2 t) acc) (p.h.map fun _ => F64.zero)
  let d := (zip2 F64.mul hinv (zip2 F64.add g at_)).map F64.neg
  let s := { s with lambda := lam.take 3
                    bad := s.bad || !(g.all F64.finite) || !(lam.all F64.finite) || !(d.all F64.finite) }
  if s.bad then (s, false)
  else if (d.zip s.x).all fun q => q.1.abs.le (eps40.mul (F64.one.add q.2.abs)) then
    let thr := (eps40.mul (F64.one.add (maxAbs g))).neg
    let cand := ((List.range s.active.length).zip (s.active.zip (lam.drop s.eqs.length))).map fun q =>
      (q.1, q.2.1.1, q.2.2)
    match pickNegative thr cand with
    | none => (s, true)
    | some k => (s.drop k, false)
  else
    let mp := maxAbs d
    let inW := s.active.map (·.1)
    let step := ((List.range p.cons.length).zip p.cons).foldl
      (fun (acc : F64 × Option (Nat × Con) × Bool) q =>
        if inW.contains q.1 ∨ s.marked.contains q.1 then acc
        else
          let ap := q.2.row.dot d
          if ((eps40.mul (maxAbs (q.2.row.map (·.2)))).mul mp).lt ap then
            let r := (F64.max .zero (q.2.b.sub (q.2.row.dot s.x))).div ap
            let bad := acc.2.2 || !r.finite
            if r.lt acc.1 then (r, some (q.1, q.2), bad) else (acc.1, acc.2.1, bad)
          else (acc.1, acc.2.1, acc.2.2 || !ap.finite)) (F64.one, none, false)
    let x := (d.zip s.x).map fun q => F64.fma step.1 q.1 q.2
    let s := { s with x := x, bad := step.2.2 || !(x.all F64.finite) }
    match step.2.1 with
    | none => (s, false)
    | some (i, c) => (s.addCon hinv i c, false)

/-- Passes until OPTIMAL, the cap or a numeric stop. -/
def Solver.go (p : Problem) (hinv : List F64) (s : Solver) (iter : Nat) : Nat → Solver × SolveEnd × Nat
  | 0 => (s, .capped, iter)
  | k + 1 =>
    let r := s.pass p hinv
    if r.1.bad then (r.1, .numeric, iter + 1)
    else if r.2 then (r.1, .optimal, iter + 1)
    else Solver.go p hinv r.1 (iter + 1) k

/-- A solve from the start point and a previous working set (R332 to R336). -/
def Problem.solve (p : Problem) (prev : List ConId) : Solved :=
  let hinv := p.h.map fun v => F64.one.div v
  let s0 : Solver :=
    { x := p.x0, eqs := [], active := [], l := [], marked := [], lambda := [],
      bad := !(hinv.all F64.finite) || !(p.x0.all F64.finite) || !(p.c.all F64.finite) }
  let s1 := p.eqs.foldl (fun s a => s.addEq hinv a) s0
  let s2 := ((List.range p.cons.length).zip p.cons).foldl (fun s q =>
    if prev.contains q.2.id ∧
        ((q.2.b.sub (q.2.row.dot p.x0)).abs.le (eps40.mul (F64.one.add q.2.b.abs))) = true then
      s.addCon hinv q.1 q.2
    else s) s1
  let r := if s2.bad then (s2, SolveEnd.numeric, 0) else s2.go p hinv 0 p.cap
  if r.2.1 = .numeric then
    { x := p.x0, ending := .numeric, iter := r.2.2, working := [], lambda := [.zero, .zero, .zero] }
  else
    { x := r.1.x, ending := r.2.1, iter := r.2.2, working := r.1.active.map fun q => q.2.id, lambda := r.1.lambda }

end Sys2Proof.Machine
end

