-- ==== Sys2Proof/Machine/Problem.lean ====
section
/-!
DEFINITION. The allocation problem: variables, cost, rows, bounds and start point (R308 to R316, R323 to R329).
-/

namespace Sys2Proof.Machine

/-- What the problem takes of one actuator. -/
structure ActIn where
  num : Nat
  e : ActEntry
  /-- Points of the power model; none without one. -/
  pts : List (Nat × Nat)
  st : ActSt
  astern : Bool
  tCap : F64
  tRev : F64
  /-- Edges of the wedge of the direction rows. -/
  dirs : Option (Nat × Nat)
  theta : Nat
  bias : Int × Int
  prev : Int × Int
  /-- Largest change in one frame; none where no rate bounds apply. -/
  rate : Option Int

/-- Two-variable types (R312). -/
def ActIn.two (a : ActIn) : Bool := a.e.typ = 0 ∨ a.e.typ = 2

/-- Number of force variables. -/
def ActIn.nf (a : ActIn) : Nat := if a.two then 2 else 1

/-- Whether the power variables exist. -/
def ActIn.hasP (a : ActIn) : Bool := !a.pts.isEmpty

/-- Number of variables. -/
def ActIn.nv (a : ActIn) : Nat := a.nf + if a.hasP then 2 else 0

/-- Bounded to zero force: UNAVAILABLE or in TRANSIT. -/
def ActIn.still (a : ActIn) : Bool := a.st = .unavailable ∨ a.st = .transit

/-- Each actuator with the index of its first variable (R308). -/
def place (as_ : List ActIn) : List (ActIn × Nat) :=
  (as_.foldl (fun (acc : List (ActIn × Nat) × Nat) a => (acc.1 ++ [(a, acc.2)], acc.2 + a.nv)) ([], 0)).1

/-- Variables before the slack variables. -/
def varCount (as_ : List ActIn) : Nat := (as_.map (·.nv)).sum

/-- SINCOS cosine of a binary angle as a binary64 value. -/
def cosF (a : Nat) : F64 := .ofIntExp (cosQ30 a) (-30)

/-- SINCOS sine of a binary angle. -/
def sinF (a : Nat) : F64 := .ofIntExp (sinQ30 a) (-30)

/-- Number of polygon sides, and its directions (R313). -/
def polyAngle (n j : Nat) : Nat := (2 * j * 4294967296 + n) / (2 * n) % 4294967296

/-- κ of a polygon (R313). -/
def kappa (n : Nat) : F64 := cosF ((4294967296 + n) / (2 * n))

/-- w_i (R309). -/
def ActIn.weight (a : ActIn) : F64 :=
  ((F64.ofInt a.e.wRel).div (.ofInt 65536)).div ((F64.ofInt a.e.tFwd).mul (.ofInt a.e.tFwd))

/-- P_8 in kW. -/
def ActIn.topKw (a : ActIn) : F64 := (F64.ofInt ((a.pts.getD 8 (0, 1)).2 : Nat)).div (.ofInt 1000)

/-- Diagonal of H for the actuator's variables (R309). -/
def ActIn.hDiag (a : ActIn) : List F64 :=
  let w2 := (F64.ofInt 2).mul a.weight
  let t20 : F64 := .ofIntExp 1 (-20)
  List.replicate a.nf w2 ++
    if a.hasP then [w2.mul t20, ((F64.ofInt 2).mul t20).div (a.topKw.mul a.topKw)] else []

/-- Entries of c for the actuator's variables (R309). -/
def ActIn.cVec (a : ActIn) (wp : Nat) : List F64 :=
  let w2 := (F64.ofInt 2).mul a.weight
  let f (b : Int) : F64 := (w2.neg).mul (.ofInt b)
  let fs := if a.two then [f a.bias.1, f a.bias.2] else [f a.bias.1]
  fs ++ if a.hasP then [.zero, ((F64.ofInt wp).div (.ofInt 1000)).div ((F64.ofInt 1000).mul a.topKw)] else []

/-- Columns of B, one (surge, sway, yaw) for each force variable (R310). -/
def ActEntry.columns (e : ActEntry) : List (F64 × F64 × F64) :=
  let x := F64.ofInt e.x
  let y := F64.ofInt e.y
  let hk := F64.ofInt 100000
  let c := cosF e.dir
  let s := sinF e.dir
  let along := (c, s, ((x.mul s).sub (y.mul c)).div hk)
  if e.typ = 0 then [(F64.one, .zero, (F64.ofInt (-e.y)).div hk), (.zero, F64.one, x.div hk)]
  else if e.typ = 2 then [along, (s.neg, c, ((x.mul c).add (y.mul s)).div hk)]
  else [along]

/-- r_i; a T_REV of 0 leaves no reverse thrust, and the row is formed with 0 (R312). -/
def ActIn.ratio (a : ActIn) : F64 :=
  if a.e.tRev = 0 then .zero else (F64.ofInt a.e.tFwd).div (.ofInt a.e.tRev)

/-- Slope of segment k of the power model, kW per N (R328). -/
def segSlope (pts : List (Nat × Nat)) (k : Nat) : F64 :=
  let p := pts.getD k (0, 0)
  let q := pts.getD (k - 1) (0, 0)
  (F64.ofInt ((p.2 : Int) - q.2)).div ((F64.ofInt 1000).mul (.ofInt ((p.1 : Int) - q.1)))

/-- Right-hand side of the row of segment k (R328). -/
def segRhs (pts : List (Nat × Nat)) (k : Nat) : F64 :=
  let q := pts.getD (k - 1) (0, 0)
  let p0 := (pts.getD 0 (0, 0)).2
  ((segSlope pts k).mul (.ofInt q.1)).sub ((F64.ofInt ((q.2 : Int) - p0)).div (.ofInt 1000))

/-- Left side of direction rows over two force variables: lower edge, upper edge (R315). -/
def dirRow (upper : Bool) (edge : Nat) : F64 × F64 :=
  if upper then ((sinF edge).neg, cosF edge) else (sinF edge, (cosF edge).neg)

/-- Magnitude rows without their m entry: one (coefficients) each (R312, R313). -/
def ActIn.magForms (a : ActIn) : List (List F64) :=
  if a.e.typ = 0 then
    (List.range a.e.polyN).map fun j => [cosF (polyAngle a.e.polyN j), sinF (polyAngle a.e.polyN j)]
  else [[F64.one], [a.ratio.neg]]

/-- Entries placed at consecutive variables from v. -/
def rowAt (v : Nat) (cs : List F64) : SRow := (List.range cs.length).zip cs |>.map fun p => (v + p.1, p.2)

/-- The rows of one actuator from its first variable (R311 to R315, R328). -/
def ActIn.rows (a : ActIn) (v : Nat) : List Con :=
  let con (k : RowKind) (i : Nat) (row : SRow) (b : F64) : Con := { id := { kind := k, act := a.num, idx := i }, row := row, b := b }
  let m := v + a.nf
  let k := kappa a.e.polyN
  let forms := (List.range a.magForms.length).zip a.magForms
  let mag :=
    if a.hasP then forms.map fun f =>
      con .magnitude f.1 (rowAt v f.2 ++ [(m, if a.e.typ = 0 then k.neg else F64.one.neg)]) .zero
    else if a.e.typ = 0 then forms.map fun f => con .magnitude f.1 (rowAt v f.2) (k.mul a.tCap)
    else []
  let dir :=
    match a.dirs with
    | none => []
    | some (lo, hi) =>
      let l := dirRow false lo
      let h := dirRow true hi
      [con .direction 0 (rowAt v [l.1, l.2]) .zero, con .direction 1 (rowAt v [h.1, h.2]) .zero]
  let pow :=
    if a.hasP then (List.range 8).map fun i =>
      con .power i [(m, segSlope a.pts (i + 1)), (m + 1, F64.one.neg)] (segRhs a.pts (i + 1))
    else []
  mag ++ dir ++ pow

/-- Bounds of the force variables of R312, R318 and R322; none means no bound. -/
def ActIn.capBounds (a : ActIn) : List (Option F64 × Option F64) :=
  if a.still then List.replicate a.nf (some .zero, some .zero)
  else if a.e.typ = 0 then [(none, none), (none, none)]
  else if a.e.typ = 2 then
    if a.astern then [(some a.tRev.neg, some .zero), (some .zero, some .zero)]
    else [(some .zero, some a.tCap), (none, none)]
  else [(some a.tRev.neg, some a.tCap)]

/-- Previous force of each force variable. -/
def ActIn.prevs (a : ActIn) : List F64 :=
  if a.two then [.ofInt a.prev.1, .ofInt a.prev.2] else [.ofInt a.prev.1]

/-- Magnitude of a force by its rows, the smallest m that meets them (R312, R313). -/
def ActIn.magnitude (a : ActIn) (f : List F64) : F64 :=
  let vals := a.magForms.map fun r => F64.dot r f
  let m := vals.foldl F64.max .zero
  if a.e.typ = 0 then m.div (kappa a.e.polyN) else m

/-- The smallest p that meets its rows at a magnitude (R328). -/
def powerAt (pts : List (Nat × Nat)) (m : F64) : F64 :=
  ((List.range 8).map fun i => ((segSlope pts (i + 1)).mul m).sub (segRhs pts (i + 1))).foldl F64.max .zero

/-- A force vector scaled. -/
def scaleF (k : F64) (f : List F64) : List F64 := f.map fun v => v.mul k

/-- f0 of R324, before the section step. -/
def ActIn.f0 (a : ActIn) : List F64 :=
  if a.still then List.replicate a.nf .zero
  else
    let p := a.prevs
    let x := p.getD 0 .zero
    let y := p.getD 1 .zero
    let f :=
      if a.e.typ = 0 then p
      else if a.e.typ = 2 then
        if a.astern then [F64.min .zero (F64.max x a.tRev.neg), .zero] else [F64.max .zero x, y]
      else [F64.min a.tCap (F64.max x a.tRev.neg)]
    let f :=
      match a.dirs with
      | none => f
      | some (lo, hi) =>
        let l := dirRow false lo
        let h := dirRow true hi
        let bad := F64.zero.lt (F64.dot [l.1, l.2] f) ∨ F64.zero.lt (F64.dot [h.1, h.2] f)
        if bad then
          let d := [cosF a.theta, sinF a.theta]
          let t := F64.dot d f
          if t.lt .zero then [.zero, .zero] else scaleF t d
        else f
    let m := a.magnitude f
    if a.tCap.lt m then scaleF (a.tCap.div m) f else f

/-- Rate bounds of each force variable, widened to include f0 (R323, R325); the second result tells of a widening. -/
def ActIn.rateBounds (a : ActIn) (f0 : List F64) : List (Option F64 × Option F64) × Bool :=
  match a.rate with
  | none => (List.replicate a.nf (none, none), false)
  | some d =>
    if a.still then (List.replicate a.nf (none, none), false)
    else
      let ps := if a.two then [a.prev.1, a.prev.2] else [a.prev.1]
      let one (p : Int × F64) : (Option F64 × Option F64) × Bool :=
        let lo := F64.ofInt (p.1 - d)
        let hi := F64.ofInt (p.1 + d)
        ((some (F64.min lo p.2), some (F64.max hi p.2)), p.2.lt lo || hi.lt p.2)
      let r := (ps.zip f0).map one
      (r.map (·.1), r.any (·.2))

/-- The tighter of two lower bounds. -/
def tightLo (a b : Option F64) : Option F64 :=
  match a, b with
  | none, b => b
  | a, none => a
  | some x, some y => some (x.max y)

/-- The tighter of two upper bounds. -/
def tightHi (a b : Option F64) : Option F64 :=
  match a, b with
  | none, b => b
  | a, none => a
  | some x, some y => some (x.min y)

/-- Bounds of every variable of the actuator: those of forces, m ≥ 0, m ≤ T_cap for an AZIMUTH, p ≥ 0 (R312). -/
def ActIn.bounds (a : ActIn) (f0 : List F64) : List (Option F64 × Option F64) :=
  let force := (a.capBounds.zip (a.rateBounds f0).1).map fun q => (tightLo q.1.1 q.2.1, tightHi q.1.2 q.2.2)
  force ++ if a.hasP then [(some .zero, if a.e.typ = 0 then some a.tCap else none), (some .zero, none)] else []

/-- The constraints of one variable's bounds: lower, then upper (R311). -/
def boundCons (act idx v : Nat) (b : Option F64 × Option F64) : List Con :=
  let lo := match b.1 with
    | none => []
    | some x => [{ id := { kind := .lower, act := act, idx := idx }, row := [(v, F64.one.neg)], b := x.neg : Con }]
  let hi := match b.2 with
    | none => []
    | some x => [{ id := { kind := .upper, act := act, idx := idx }, row := [(v, F64.one)], b := x : Con }]
  lo ++ hi

/-- Sections that an entry in use names, in ascending number (R311). -/
def namedSections (as_ : List ActIn) : List Nat := [1, 2, 3, 4].filter fun s => as_.any fun a => a.e.section_ = s

/-- Idle power of a section in W: its actuators that are not UNAVAILABLE (R329). -/
def idleW (as_ : List ActIn) (sec : Nat) : Nat :=
  ((as_.filter fun a => a.e.section_ = sec ∧ a.hasP ∧ a.st ≠ .unavailable).map fun a => (a.pts.getD 0 (0, 0)).2).sum

/-- Budget G_s for a limit in kW (R329). -/
def budget (as_ : List ActIn) (sec limit : Nat) : F64 :=
  F64.max .zero ((F64.ofInt limit).sub ((F64.ofInt (idleW as_ sec)).div (.ofInt 1000)))

/-- Start of an actuator: forces, m and p (R324). -/
structure ActStart where
  f : List F64
  m : F64
  p : F64

/-- Start of an actuator from its forces. -/
def ActIn.startAt (a : ActIn) (f : List F64) : ActStart :=
  let m := a.magnitude f
  { f := f, m := m, p := if a.hasP then powerAt a.pts m else .zero }

/-- Sections whose power exceeds their budget start at zero (R324). -/
def sectionStep (as_ : List ActIn) (budgets : List (Nat × F64)) (st : List ActStart) : List ActStart :=
  budgets.foldl (fun st b =>
    let sum := F64.sum ((as_.zip st).filterMap fun q => if q.1.e.section_ = b.1 ∧ q.1.hasP then some q.2.p else none)
    if b.2.lt sum then
      (as_.zip st).map fun q =>
        if q.1.e.section_ = b.1 then { f := List.replicate q.1.nf .zero, m := .zero, p := .zero } else q.2
    else st) st

/-- Q of a degree of freedom at priority level L and scale S (R309). -/
def slackQ (level scale : Nat) : F64 := (F64.ofInt (10 ^ (2 * (5 - level)) : Nat)).div ((F64.ofInt scale).mul (.ofInt scale))

/-- What the problem takes of parameters and demand. -/
structure Demand where
  tau : Int × Int × Int
  /-- Priority levels of surge, sway and yaw, S_F, S_N, W_P, the iteration cap. -/
  levels : List Nat
  sF : Nat
  sN : Nat
  wp : Nat
  cap : Nat

/-- The problem of a list of actuators, and its start (R308 to R329). A case starts from zero (R355). -/
def buildProblem (as_ : List ActIn) (d : Demand) (limits : List Nat) (zeroStart : Bool) :
    Problem × List ActStart × List (Nat × F64) :=
  let named := namedSections as_
  let budgets := named.map fun s => (s, budget as_ s (limits.getD (s - 1) 0))
  let starts0 := as_.map fun a =>
    if zeroStart then { f := List.replicate a.nf .zero, m := .zero, p := .zero : ActStart } else a.startAt a.f0
  let starts := if zeroStart then starts0 else sectionStep as_ budgets starts0
  let n := varCount as_
  let pl := place as_
  let qf := (List.range 3).map fun k => (F64.ofInt 2).mul (slackQ (d.levels.getD k 1) (if k = 2 then d.sN else d.sF))
  let cols := pl.map fun p => (p.2, p.1.e.columns)
  let col (k : Nat) (c : F64 × F64 × F64) : F64 := if k = 0 then c.1 else if k = 1 then c.2.1 else c.2.2
  let eqForce (k : Nat) : SRow := cols.flatMap fun p => rowAt p.1 (p.2.map (col k))
  let eqs := (List.range 3).map fun k => eqForce k ++ [(n + k, F64.one)]
  let xs := (as_.zip starts).flatMap fun q => q.2.f ++ if q.1.hasP then [q.2.m, q.2.p] else []
  let taus := [F64.ofInt d.tau.1, F64.ofInt d.tau.2.1, F64.ofInt d.tau.2.2]
  let slack := (List.range 3).map fun k => (taus.getD k .zero).sub ((eqForce k).dot xs)
  let rows := pl.flatMap fun p => p.1.rows p.2
  let secRows := budgets.map fun b =>
    { id := { kind := .sectionPower, act := 24, idx := b.1 }
      row := pl.filterMap fun p => if p.1.e.section_ = b.1 ∧ p.1.hasP then some (p.2 + p.1.nf + 1, F64.one) else none
      b := b.2 : Con }
  let bnds := (pl.zip starts).flatMap fun q =>
    let f0 := q.2.f
    let bs := q.1.1.bounds f0
    ((List.range bs.length).zip bs).flatMap fun b => boundCons q.1.1.num b.1 (q.1.2 + b.1) b.2
  ({ h := (as_.flatMap fun a => a.hDiag) ++ qf
     c := (as_.flatMap fun a => a.cVec d.wp) ++ [.zero, .zero, .zero]
     eqs := eqs
     cons := rows ++ secRows ++ bnds
     rows := rows.length + secRows.length
     x0 := xs ++ slack
     cap := d.cap }, starts, budgets)

/-- Cycles of a solve: C_S + ITER × C_I + C_O (R337). -/
def solveCycles (n r iter : Nat) : Nat := 2000 + 20 * (n + r) + iter * (200 + n * n) + 500 + 10 * n

/-- Modelled power of a section at given forces, W above and with idle: the idle of its available actuators and the smallest p (R372). -/
def sectionPower (as_ : List ActIn) (forces : List (Int × Int)) (sec : Nat) : F64 :=
  let ps := as_.filterMap fun a =>
    if a.e.section_ = sec ∧ a.hasP then
      let f := forces.getD a.num (0, 0)
      let v := if a.two then [F64.ofInt f.1, F64.ofInt f.2] else [F64.ofInt f.1]
      some (powerAt a.pts (a.magnitude v))
    else none
  ((F64.ofInt (idleW as_ sec)).div (.ofInt 1000)).add (F64.sum ps)

/-- The next whole number not below a value. -/
def F64.ceil (v : F64) : Nat :=
  let r := v.toInt32
  ((if (F64.ofInt r).lt v then r + 1 else r)).toNat

end Sys2Proof.Machine
end

