-- ==== Sys2Proof/Machine/Actuators.lean ====
section
/-!
DEFINITION. Actuator availability, directions, forbidden-sector crossings and rudder modes (R314 to R322, R345, R350, R550).
-/

namespace Sys2Proof.Machine

/-- 0.5° as an angle. -/
def halfDegree : Nat := 5965232

/-- The difference of two binary angles modulo a turn, clockwise from b. -/
def cw (a b : Nat) : Nat := (a + 4294967296 - b % 4294967296) % 4294967296

/-- Strictly inside a forbidden sector (R316). -/
def inSector (f : Nat × Nat) (a : Nat) : Bool := 0 < cw a f.1 ∧ cw a f.1 < f.2

/-- A sector put in its place by START. -/
def insertSector (x : Nat × Nat) : List (Nat × Nat) → List (Nat × Nat)
  | [] => [x]
  | y :: t => if x.1 ≤ y.1 then x :: y :: t else y :: insertSector x t

/-- Sectors by START. -/
def sortSectors (fs : List (Nat × Nat)) : List (Nat × Nat) := fs.foldl (fun acc x => insertSector x acc) []

/-- The allowed arcs in their order: lower edge and width (R316); none without sectors. -/
def arcs (fs : List (Nat × Nat)) : List (Nat × Nat) :=
  let ss := sortSectors fs
  (List.range ss.length).map fun k =>
    let x := ss.getD k (0, 0)
    let y := ss.getD ((k + 1) % ss.length) (0, 0)
    let lo := (x.1 + x.2) % 4294967296
    (lo, cw y.1 lo)

/-- The arc that contains a direction. -/
def arcOf (fs : List (Nat × Nat)) (a : Nat) : Option (Nat × Nat × Nat) :=
  (((List.range (arcs fs).length).zip (arcs fs)).find? fun p => cw a p.2.1 ≤ p.2.2).map fun p => (p.1, p.2.1, p.2.2)

/-- The nearer edge of a sector moved 0.5° into the arc next to it (R321); in the middle it is START (DESIGN CHOICE, log 52). -/
def nearerEdge (f : Nat × Nat) (a : Nat) : Nat :=
  if 2 * cw a f.1 ≤ f.2 then angleAdd f.1 (-(halfDegree : Int)) else angleAdd (f.1 + f.2) halfDegree

/-- ω_i: the reach of one frame (R315). -/
def ActEntry.reach (e : ActEntry) (p : Nat) : Nat := (e.rateDir * p + 500) / 1000

/-- ΔF_i (R323). -/
def ActEntry.stepN (e : ActEntry) (p : Nat) : Int := ((e.rateT * p + 500) / 1000 : Nat)

/-- The wedge of the direction rows and the arc edges it ends at: angle, upper (R315). -/
def ActEntry.wedge (e : ActEntry) (a : ActState) (p : Nat) : Option (Nat × Nat) × List (Nat × Bool) :=
  let w := e.reach p
  let cut (lo width : Nat) (named : Bool) : Option (Nat × Nat) × List (Nat × Bool) :=
    let pos := min (cw a.theta lo) width
    let dl := min w pos
    let dh := min w (width - pos)
    let at_ := (lo + pos) % 4294967296
    (some (cw at_ dl, (at_ + dh) % 4294967296),
     if named then (if pos ≤ w then [(lo, false)] else []) ++ (if width - pos ≤ w then [((lo + width) % 4294967296, true)] else [])
     else [])
  if e.typ = 0 then
    match arcOf e.forb a.theta with
    | none => (some (cw a.theta w, (a.theta + w) % 4294967296), [])
    | some (_, lo, width) => cut lo width true
  else if e.typ = 2 ∧ a.astern = false then
    let lo := cw 0 e.liftMax
    let width := 2 * e.liftMax
    let a' := if cw a.theta lo ≤ width then a.theta else if a.theta < 2147483648 then e.liftMax else lo
    let pos := cw a' lo
    (some (cw a' (min w pos), (a' + min w (width - pos)) % 4294967296), [])
  else (none, [])

/-- The bias of an actuator while its group is enabled (R326). -/
def ActEntry.bias (e : ActEntry) (enable : Nat) : Int × Int :=
  if e.biasGroup ≤ 7 ∧ bit enable e.biasGroup then (e.biasX, if e.typ = 0 ∨ e.typ = 2 then e.biasY else 0) else (0, 0)

/-- f* (R317): bias less B_iᵀ λ / h_i. -/
def ActIn.preferred (a : ActIn) (lam : List F64) : List F64 :=
  let w2 := (F64.ofInt 2).mul a.weight
  let bs := [a.bias.1, a.bias.2]
  ((List.range a.nf).zip a.e.columns).map fun q =>
    (F64.ofInt (bs.getD q.1 0)).sub ((F64.dot [q.2.1, q.2.2.1, q.2.2.2] lam).div w2)

/-- θ* of two force components (R317). -/
def prefAngle (f : List F64) : Nat := direction (f.getD 0 .zero).toInt32 (f.getD 1 .zero).toInt32

/-- Length of a dispatched force vector in binary64 (R319). -/
def forceLength (f : Int × Int) : F64 :=
  (((F64.ofInt f.1).mul (.ofInt f.1)).add ((F64.ofInt f.2).mul (.ofInt f.2))).sqrt

/-- D of a derated tunnel (R314). -/
def derating (e : ActEntry) (u : Int) : Nat :=
  if e.typ ≠ 1 ∨ e.derate = false then 65536
  else
    let v := u.natAbs
    if v ≤ e.derV0 then 65536
    else if e.derV1 ≤ v then e.derF1
    else (65536 - divRound (((v - e.derV0) * (65536 - e.derF1) : Nat)) (e.derV1 - e.derV0)).toNat

/-- T_cap and T_cap,rev (R314, R319). -/
def capsOf (e : ActEntry) (st : ActSt) (d : Nat) (prev : Int × Int) (step : Int) : F64 × F64 :=
  match st with
  | .unavailable | .transit => (.zero, .zero)
  | .rundown =>
    let c := F64.max .zero ((forceLength prev).sub (.ofInt step))
    (c, c)
  | .active =>
    let k := (F64.ofInt d).div (.ofInt 65536)
    ((F64.ofInt e.tFwd).mul k, (F64.ofInt e.tRev).mul k)

/-- The state of an actuator slot. -/
def AllocState.act (a : AllocState) (i : Nat) : ActState := a.acts.getD i .reset

/-- One actuator's state changed. -/
def Work.onAct (w : Work) (i : Nat) (f : ActState → ActState) : Work :=
  w.setCore { w.core with alloc := { w.core.alloc with acts := setAt w.core.alloc.acts i f } }

/-- Direction and previous angle command before any force has been computed, in mode AHEAD (R345). -/
def ActEntry.initial (e : ActEntry) (a : ActState) : ActState :=
  { ActState.reset with
    typ := e.typ
    theta := if e.typ = 0 then e.dir else 0
    disabled := a.disabled
    ready := a.ready
    readyAt := a.readyAt
    fbAngle := a.fbAngle
    lastAlive := a.lastAlive }

/-- θ_i and the previous angle command taken from the fed-back angle (R345). -/
def ActEntry.takeAngle (e : ActEntry) (a : ActState) : ActState :=
  match a.fbAngle with
  | none => a
  | some g => if e.typ = 0 ∧ e.angleFb then { a with theta := angleAdd g e.dir, prevAngle := g } else a

/-- Counter of feedback samples ignored. -/
def ctrFeedback (i : Nat) : Nat := 0x21F00000 + i

/-- A feedback sample decoded into a ready indication, which counts from its arrival, and an angle, or ignored (R350, R550). -/
def Work.feedback (w : Work) (b : Bank) (i : Nat) (e : ActEntry) (sm : Sample) : Work :=
  let f := (b.entry? 0x40 0x07 i).getD []
  let ds := b.descs (u16 f 0) (u8 f 2)
  let bs := messageBytes e.fbSource sm.data
  let d := decodeMessage ds bs
  let a := w.core.alloc.act i
  let stale := d.alive.isSome ∧ d.alive = a.lastAlive
  let w := if d.alive.isSome then w.onAct i fun (x : ActState) => { x with lastAlive := d.alive } else w
  if ds.isEmpty ∨ !d.ok ∨ stale then w.count (ctrFeedback i)
  else
    let w := w.countN (ctrDecode e.fbSource) d.saturated
    w.onAct i fun (x : ActState) =>
      let first := x.readyAt.isNone
      let r := d.ready.getD false
      let y : ActState :=
        { x with
          ready := r
          readyAt := some sm.arrival
          fbAngle := match d.angle with
            | none => x.fbAngle
            | some g => some g }
      if first ∧ r then e.takeAngle y else y

/-- Every actuator's feedback samples of a snapshot (R550). -/
def Work.feedbacks (w : Work) (b : Bank) (secs : List Section) : Work :=
  b.acts.foldl (fun w p =>
    ((samplesOf secs p.2.fbSource).map (·.2)).foldl (fun w sm => w.feedback b p.1 p.2 sm) w) w

/-- Ready, in time and not disabled (R350). -/
def ActState.fit (a : ActState) (e : ActEntry) (now : Nat) : Bool :=
  a.ready && !a.disabled && (match a.readyAt with
                             | none => false
                             | some t => decide (now ≤ t + e.fbTimeout * msNs))

/-- When a transit across a sector of a width times out (R320). -/
def State.transitLimit (s : State) (e : ActEntry) (width now : Nat) : Nat :=
  now + 2 * width * secNs / e.rateDir + s.paramN 0x2101000B * secNs

/-- An ACTIVE or RUNDOWN azimuth inside a sector enters TRANSIT; a running transit whose target is no longer allowed gets a
new one (R321). -/
def State.sectorRule (s : State) (e : ActEntry) (now : Nat) (a : ActState) : ActState :=
  if e.typ ≠ 0 then a
  else if a.st = .active ∨ a.st = .rundown then
    match e.forb.find? fun f => inSector f a.theta with
    | none => a
    | some f =>
      { a with st := .transit, target := nearerEdge f a.theta, width := f.2
               transitDue := s.transitLimit e f.2 now, metRun := 0, unmetRun := 0 }
  else if a.st = .transit then
    match e.forb.find? fun f => inSector f a.target with
    | none => a
    | some g =>
      let f := (e.forb.find? fun f => inSector f a.theta).getD g
      { a with target := nearerEdge f a.theta }
  else a

/-- Availability of an actuator decided (R318, R350); each change raises event 0x2103. -/
def Work.availability (s : State) (w : Work) (now i : Nat) : Work :=
  match s.config.active.act? i with
  | none => w
  | some e =>
    let a := w.core.alloc.act i
    let a := if a.typ = e.typ then a else e.initial a
    let fit := a.fit e now
    let timed := a.timedOut && fit
    let up := fit && !timed
    let a := { a with timedOut := timed }
    let b :=
      if up ∧ a.st = .unavailable then
        s.sectorRule e now { e.takeAngle a with st := .active, metRun := 0, unmetRun := 0 }
      else if !up ∧ a.st ≠ .unavailable then
        { a with st := .unavailable, metRun := 0, unmetRun := 0, edges := [] }
      else a
    let w := w.onAct i fun _ => { b with wasAvail := up }
    w.raiseIf (decide (up ≠ a.wasAvail)) 0x2103 [i, b2n up]

/-- A transit that has run out makes the actuator UNAVAILABLE (R320). -/
def Work.transitTimeout (s : State) (w : Work) (now i : Nat) : Work :=
  let a := w.core.alloc.act i
  if a.st = .transit ∧ a.transitDue ≤ now then
    (((w.onAct i fun (a : ActState) => { a with timedOut := true }).raise 0x2105 [i]).availability s now i)
  else w

/-- Within 0.5° of the transit target. -/
def ActState.arrived (a : ActState) : Bool := (angleDiff a.theta a.target).natAbs ≤ halfDegree

/-- A TRANSIT moves on: by the fed-back angle, or by ω_i towards the target; it ends within 0.5° (R320). -/
def Work.transitMove (w : Work) (e : ActEntry) (p i : Nat) : Work :=
  w.onAct i fun (a : ActState) =>
    if a.st ≠ .transit then a
    else
      let a :=
        if e.angleFb then (match a.fbAngle with
          | none => a
          | some g => { a with theta := angleAdd g e.dir })
        else { a with theta := angleAdd a.theta (clampInt (-(e.reach p : Int)) (e.reach p) (angleDiff a.target a.theta)) }
      if a.arrived then { a with st := .active, metRun := 0, unmetRun := 0 } else a

/-- Far edge, width and transit target of the sector beyond an edge of an allowed arc (R317). -/
def beyondEdge (fs : List (Nat × Nat)) (edge : Nat × Bool) : Option (Nat × Nat × Nat) :=
  if edge.2 then
    (fs.find? fun f => f.1 = edge.1).map fun f =>
      ((f.1 + f.2) % 4294967296, f.2, angleAdd (f.1 + f.2) halfDegree)
  else
    (fs.find? fun f => (f.1 + f.2) % 4294967296 = edge.1).map fun f => (f.1, f.2, angleAdd f.1 (-(halfDegree : Int)))

/-- The crossing condition of an AZIMUTH: the edge it holds at, with width and target (R317). -/
def crossing (e : ActEntry) (a : ActState) (pref hys : Nat) : Option (Nat × Nat) :=
  (a.edges.filterMap fun ed =>
    match beyondEdge e.forb ed with
    | none => none
    | some (far, width, target) =>
      if (angleDiff pref far).natAbs + hys < (angleDiff pref ed.1).natAbs then some (width, target) else none).head?

/-- The mode condition of a PROP-RUDDER (R322). -/
def rudderCondition (e : ActEntry) (a : ActState) (along : F64) (h : Nat) : Bool :=
  let hr := (F64.ofInt h).div (.ofInt 1000)
  if a.astern then (hr.mul (.ofInt e.tFwd)).lt along else along.lt ((hr.mul (.ofInt e.tRev)).neg)

/-- The persistence counters moved by one frame (R317, R319, R322). -/
def ActState.persist (a : ActState) (met : Bool) : ActState :=
  if met then { a with metRun := a.metRun + 1, unmetRun := 0 } else { a with metRun := 0, unmetRun := a.unmetRun + 1 }

/-- RUNDOWN entered after T_S frames with the condition met, or left after T_S frames without it (R317, R319, R322).
The width and target of a crossing are those of the state. -/
def Work.crossingCheck (s : State) (w : Work) (i : Nat) : Work :=
  match s.config.active.act? i with
  | none => w
  | some e =>
    let a := w.core.alloc.act i
    let ts := s.paramN 0x21010008
    if a.st = .active ∧ ts ≤ a.metRun then
      let w := w.onAct i fun (a : ActState) => { a with st := .rundown, unmetRun := 0 }
      w.raiseIf (decide (e.typ = 0)) 0x2104 [i]
    else if a.st = .rundown ∧ ts ≤ a.unmetRun then
      w.onAct i fun (a : ActState) => { a with st := .active, metRun := 0, unmetRun := 0 }
    else w

/-- RUNDOWN at zero force: TRANSIT, or the change of rudder mode (R319, R322). -/
def Work.rundownEnd (s : State) (w : Work) (now i : Nat) (prev : Int × Int) : Work :=
  match s.config.active.act? i with
  | none => w
  | some e =>
    let a := w.core.alloc.act i
    if a.st ≠ .rundown then w
    else if e.typ = 0 then
      if prev = (0, 0) then
        w.onAct i fun (a : ActState) => { a with st := .transit, transitDue := s.transitLimit e a.width now, metRun := 0, unmetRun := 0 }
      else w
    else if prev.1 = 0 then
      (w.onAct i fun (a : ActState) => { a with st := .active, astern := !a.astern, metRun := 0, unmetRun := 0 }).raise 0x210A
        [i, b2n (!a.astern)]
    else w

/-- What the problem takes of an actuator in its present state (R304, R314, R315, R323, R326). -/
def State.actIn (s : State) (a : ActState) (i : Nat) (e : ActEntry) (p : Nat) (u : Int) (prev : Int × Int) (biasMask : Nat) :
    ActIn :=
  let caps := capsOf e a.st (derating e u) prev (e.stepN p)
  { num := i, e := e, pts := if e.power then s.config.active.power i else [], st := a.st, astern := a.astern,
    tCap := caps.1, tRev := caps.2, dirs := (e.wedge a p).1, theta := a.theta, bias := e.bias biasMask, prev := prev,
    rate := some (e.stepN p) }

/-- The crossing or mode condition of frame n, counted (R317, R322). -/
def Work.conditionStep (s : State) (w : Work) (i : Nat) (e : ActEntry) (x : ActIn) : Work :=
  let f := x.preferred w.core.alloc.lambda
  w.onAct i fun (a : ActState) =>
    if a.st ≠ .active ∧ a.st ≠ .rundown then a
    else if e.typ = 0 then
      match crossing e a (prefAngle f) (s.paramN 0x21010007) with
      | none => a.persist false
      | some (width, target) => { a.persist true with width := width, target := target }
    else if e.typ = 2 then a.persist (rudderCondition e a (f.getD 0 .zero) (s.paramN 0x2101000A))
    else a

/-- The state of every actuator brought to frame n (R317 to R322, R350). -/
def Work.actuatorStates (s : State) (w : Work) (now p : Nat) (prevs : List (Int × Int)) (biasMask : Nat) : Work :=
  s.config.active.acts.foldl (fun w q =>
    let i := q.1
    let prev := prevs.getD i (0, 0)
    let w := w.availability s now i
    let w := w.onAct i (s.sectorRule q.2 now)
    let w := w.transitMove q.2 p i
    let w := w.transitTimeout s now i
    let w := w.conditionStep s i q.2 (s.actIn (w.core.alloc.act i) i q.2 p 0 prev biasMask)
    let w := w.rundownEnd s now i prev
    w.crossingCheck s i) w

end Sys2Proof.Machine
end

