-- ==== Sys2Proof/Machine/Control.lean ====
section
/-!
DEFINITION. Observer, set-point model, control law, operator modes, sea state and gain levels (R280 to R303).
The programs run from the active bank where it holds them; a class without an image runs the default program of the spec,
whose data and coefficient addresses beyond those the spec names are this model's (see the assumption log).
-/

namespace Sys2Proof.Machine

/-- An instruction of a default program. -/
def bi (op dst srca srcb : Nat) : BInstr :=
  { op := op, fmt := 0, acc := false, osh := 0, mod := false, dst := dst, srca := srca, srcb := srcb }

/-- The shape set for the next instruction of a default program. -/
def Engine.shape (e : Engine) (m n : Nat) : Engine := { e with fg := { e.fg with m := m, n := n, k := 1 } }

/-- Instructions of one shape run in order. -/
def Engine.run (e : Engine) (r : RunAs) (m n : Nat) (is_ : List BInstr) : Engine :=
  is_.foldl (fun e i => e.operate r i) (e.shape m n)

/-- Steps 1 to 4 of the observer: predicted states at 0x1320 (R281). -/
def Engine.observerPredict (e : Engine) : Engine :=
  let r : RunAs := { inertial := false, cls := 3, slot := 0xFE }
  let e := e.run r 6 6 [bi 0x08 0x1320 0x1300 0xC000]
  let e := e.run r 1 1 [{ bi 0x21 0x1350 0x1309 0x1308 with mod := true }, bi 0x05 0x1352 0x130B 0]
  let e := e.run r 3 3 [bi 0x08 0x132C 0x130C 0x0000, { bi 0x08 0x132C 0x1006 0x0060 with acc := true },
                        { bi 0x08 0x132C 0x1350 0x00C0 with acc := true },
                        { bi 0x08 0x132C 0x1550 0x0120 with acc := true }]
  let e := e.run r 2 1 [bi 0x0C 0x1356 0x130C 0x0180]
  let e := e.run r 1 1 [bi 0x21 0x1358 0x1356 0x1308]
  let e := e.run r 2 1 [bi 0x10 0x1326 0x1306 0x1358]
  let e := e.run r 1 1 [bi 0x0C 0x135A 0x130E 0x0182, { bi 0x10 0x1328 0x1308 0x135A with fmt := 1 }]
  e.run r 3 1 [bi 0x05 0x1329 0x1309 0]

/-- Steps 6 to 10: the correction by the fused measurement (R281, R282). -/
def Engine.observerCorrect (e : Engine) : Engine :=
  let r : RunAs := { inertial := false, cls := 3, slot := 0xFE }
  let e := e.run r 1 1 [bi 0x21 0x1360 0x1320 0x1328, { bi 0x10 0x1364 0x1328 0x1322 with fmt := 1 }]
  let e := e.run r 2 1 [bi 0x10 0x1362 0x1326 0x1360, bi 0x11 0x1365 0x1000 0x1362]
  let e := e.run r 1 1 [{ bi 0x11 0x1367 0x1002 0x1364 with fmt := 1 }]
  let e := if e.word 0x1003 = 0 then e.setInts 0x1365 [0, 0] else e
  let e := if e.word 0x1004 = 0 then e.setInt 0x1367 0 else e
  let e := e.run r 1 1 [{ bi 0x21 0x1368 0x1365 0x1328 with mod := true }, bi 0x05 0x136A 0x1367 0]
  let e := e.run r 6 3 [{ bi 0x08 0x1320 0x1368 0xC0C0 with acc := true }]
  let e := e.run r 2 3 [{ bi 0x08 0x1326 0x1365 0xC120 with acc := true }]
  let e := e.run r 1 3 [{ bi 0x08 0x1328 0x1365 0xC122 with acc := true, fmt := 1 }]
  let e := e.run r 3 3 [{ bi 0x08 0x1329 0x1365 0xC180 with acc := true }]
  let e := e.run r 2 3 [{ bi 0x08 0x132C 0x1368 0xC1E0 with acc := true }]
  let e := if e.word 0x1005 = 0 then e.setWord 0x1018 (e.word 0x132E) else e
  let e := e.run r 1 1 [bi 0x11 0x136B 0x1018 0x132E, { bi 0x0C 0x132E 0x136B 0x0183 with acc := true }]
  e.run r 15 1 [{ bi 0x05 0x1300 0x1320 0 with fmt := 1 }]

/-- The data words of the observer region. -/
def Engine.observerWords (e : Engine) : List (Nat × Word) := e.data.filter fun p => 0x1300 ≤ p.1 ∧ p.1 < 0x1500

/-- The observer region restored. -/
def Engine.restoreObserver (e : Engine) (ws : List (Nat × Word)) : Engine :=
  let rest := e.data.filter fun p => p.1 < 0x1300 ∨ 0x1500 ≤ p.1
  { e with data := ws.foldl (fun m p => dataSet m p.1 p.2) rest }

/-- The observer's prediction: the default program's steps 1 to 4, or nothing when an image does the whole. -/
def Engine.predictStep (e : Engine) : Engine :=
  if (e.programOf 3).isSome then e else e.observerPredict

/-- The rest of the OBSERVER program. -/
def Engine.correctStep (e : Engine) : Engine :=
  match e.programOf 3 with
  | some p => e.runProgram false p
  | none => e.observerCorrect

/-- Set-point model of one axis with a fraction kept: command, limited change, advance (R296).
`num` and `den` give the advance of the set-point for a rate v over P ms as v × P × num / den. -/
def spAxis (vcmd vd step p : Int) (num den rem : Int) : Int × Int × Int :=
  let v := vd + clampInt (-step) step (vcmd - vd)
  let total := v * p * num + rem
  (v, total / den, total % den)

/-- The default SETPOINT program (R296). Words: targets 0x1100, direct-rate flags 0x1103, direct rates and feed-forward 0x1106,
limits of the command 0x1109 (speed, speed, heading rate), KR 0x110C, acceleration 0x110D and 0x110E, P 0x110F,
set-point 0x1110, rates 0x1113, accelerations 0x1116, fractions 0x1120. -/
def Engine.setpointProgram (e : Engine) : Engine :=
  let r : RunAs := { inertial := false, cls := 2, slot := 0xFE }
  let kr := e.int 0x110C
  let p := e.int 0x110F
  let go (e : Engine) (k : Nat) : Engine :=
    let ang := k = 2
    let gap : Int := if ang then toUrad (wrap32 (e.int (0x1100 + k) - e.int (0x1110 + k))) * kr
      else (e.int (0x1100 + k) - e.int (0x1110 + k)) * kr * 100
    let lim := e.int (0x1109 + k)
    let ff := e.int (0x1106 + k)
    let vcmd := if e.word (0x1103 + k) ≠ 0 then ff else ff + clampInt (-lim) lim (divRound gap 1000)
    let acc := e.int (if ang then 0x110E else 0x110D)
    let old := e.int (0x1113 + k)
    let step := divRound (acc * p) 1000
    let a := if ang then spAxis vcmd old step p 42949673 62831853 (e.int (0x1120 + k))
      else spAxis vcmd old step p 1 100000 (e.int (0x1120 + k))
    let e := e.put r 0 (0x1113 + k) a.1
    let e := e.put r (if ang then 1 else 0) (0x1110 + k) (e.int (0x1110 + k) + a.2.1)
    let e := e.setInt (0x1120 + k) a.2.2
    e.put r 0 (0x1116 + k) (if p = 0 then 0 else divRound ((a.1 - old) * 1000) p.toNat)
  go (go (go e 0) 1) 2

/-- The SETPOINT program of the lane. -/
def Engine.setpointStep (e : Engine) : Engine :=
  match e.programOf 2 with
  | some p => e.runProgram false p
  | none => e.setpointProgram

/-- Wind force of the default CONTROL program at 0x1550: tables over the relative direction, times the squared speed (R287). -/
def Engine.windForce (e : Engine) : Engine :=
  if e.word 0x1014 = 0 then e.setInts 0x1550 [0, 0, 0]
  else
    let r : RunAs := { inertial := false, cls := 4, slot := 0xFE }
    let psi := (e.word 0x1308).toNat
    let own := rotate psi false (e.int 0x130C) (e.int 0x130D)
    let n := e.int 0x1012 - own.1
    let ea := e.int 0x1013 - own.2
    let rel := angleDiff (direction n ea) psi
    let sq := sat32 (divRound (n * n + ea * ea) 1000000)
    let one (e : Engine) (k : Nat) : Engine :=
      let t := e.table (0x0200 + 0x100 * k)
      if t.isEmpty then e.setInt (0x1550 + k) 0
      else e.put r 0 (0x1550 + k) (shrRound ((interpolate t rel).1 * sq) 20)
    one (one (one e 0) 1) 2

/-- The default CONTROL program up to step 2: z at 0x1540 and τ at 0x1500, blended between gain levels (R287, R288, R290). -/
def Engine.controlForce (e : Engine) : Engine :=
  let r : RunAs := { inertial := false, cls := 4, slot := 0xFE }
  let e := e.windForce
  let e := e.run r 2 1 [bi 0x11 0x1560 0x1306 0x1110]
  let e := e.run r 1 1 [{ bi 0x21 0x1540 0x1560 0x1308 with mod := true }, { bi 0x11 0x1542 0x1308 0x1112 with fmt := 1 },
                        { bi 0x21 0x1562 0x1113 0x1308 with mod := true }, bi 0x05 0x1564 0x1115 0]
  let e := e.run r 3 1 [bi 0x11 0x1543 0x130C 0x1562]
  let e := e.run r 1 1 [{ bi 0x21 0x1566 0x1116 0x1308 with mod := true }, bi 0x05 0x1568 0x1118 0]
  let e := e.run r 3 3 [bi 0x08 0x1549 0x1566 0xE1A0]
  let e := e.run r 3 1 [bi 0x11 0x1549 0x1549 0x1550]
  let e := e.run r 3 12 [bi 0x08 0x1500 0x1540 0xE000]
  if e.word 0x1017 = 0 then e
  else
    let e := e.run r 3 12 [{ bi 0x08 0x1504 0x1540 0xE000 with mod := true }]
    e.run r 3 1 [bi 0x19 0x1500 0x1504 0x1016]

/-- Steps 3 to 5: manual axes, limits, integrators; the control status at 0x1510 (R288, R289). -/
def Engine.controlFinish (e : Engine) : Engine :=
  let r : RunAs := { inertial := false, cls := 4, slot := 0xFE }
  let auto (k : Nat) : Bool := e.word (0x100C + k) ≠ 0
  let manual (e : Engine) (k : Nat) : Engine :=
    if auto k then e
    else e.put r 0 (0x1500 + k) (e.int (0x1009 + k) + (if e.word 0x1015 = 0 then 0 else e.int (0x1549 + k)))
  let e := manual (manual (manual e 0) 1) 2
  let before := e.vec 0x1500 3
  let e := e.run r 3 1 [bi 0x15 0x1500 0x1500 0xE180]
  let limited (k : Nat) : Bool := before.getD k 0 ≠ e.int (0x1500 + k)
  let frozen (k : Nat) : Bool := !auto k || limited k || e.word (0x100F + k) ≠ 0
  let integrate (e : Engine) (k : Nat) : Engine :=
    let imax := (e.coef false (0xE190 + k)).value1
    let v := if frozen k then e.int (0x1546 + k) else e.int (0x1546 + k) + e.int 0x110F * e.int (0x1540 + k)
    e.put r 0 (0x1546 + k) (clampInt (-imax) imax v)
  let e := integrate (integrate (integrate e 0) 1) 2
  e.setInt 0x1510 (b2n (limited 0) + 2 * b2n (limited 1) + 4 * b2n (limited 2)
    + 16 * b2n (frozen 0) + 32 * b2n (frozen 1) + 64 * b2n (frozen 2) : Nat)

/-- Integrator of an axis that enters automatic control: the first τ equals the last released force, then limited (R294). -/
def Engine.presetIntegrator (e : Engine) (k : Nat) : Engine :=
  let e := e.setInt (0x1546 + k) 0
  let rest := (e.controlForce).int (0x1500 + k)
  let c := e.coef false (0xE000 + 32 * (6 + k) + k)
  let imax := (e.coef false (0xE190 + k)).value1
  let want := e.int (0x1006 + k) - rest
  let num : Int := if 0 < c.shift then want * (2 ^ c.shift.toNat : Nat) else want
  let den : Int := if 0 < c.shift then c.value else c.value * (2 ^ (-c.shift).toNat : Nat)
  let v := if den = 0 then 0 else divHalfUp num den
  e.setInt (0x1546 + k) (clampInt (-imax) imax v)

/-- The CONTROL program of the lane. -/
def Engine.controlStep (e : Engine) (presets : List Nat) : Engine :=
  match e.programOf 4 with
  | some p => e.runProgram false p
  | none => (presets.foldl (fun e k => e.presetIntegrator k) e).controlForce.controlFinish

/-- The automatic axes of a mode: surge, sway, yaw (R292). -/
def Mode.axes : Mode → List Bool
  | .standby | .joystick | .maintenance => [false, false, false]
  | .autoHeading => [false, false, true]
  | .autoPosition | .followTarget | .track => [true, true, true]

/-- Whether the position set-point, and the heading set-point, follow the estimate (R292). -/
def Mode.followsPosition (m : Mode) : Bool := m = .standby ∨ m = .joystick ∨ m = .autoHeading
/-- Whether the heading set-point follows the estimate. -/
def Mode.followsHeading (m : Mode) : Bool := m = .standby ∨ m = .joystick

/-- The chain that serves an input: the lowest-numbered one (R502, R504). -/
def Bank.chainOf (b : Bank) (input : Nat) : Option Nat :=
  (List.range 24).find? fun k =>
    match b.entry? 0x32 0x02 k with
    | none => false
    | some e => u8 e 0 = input

/-- The latest value of a chain in a snapshot, with its flags (R510). -/
def chainValue (secs : List Section) (chain : Nat) : Option (Int × Nat) :=
  match ((samplesOf secs (0x0200 + chain)).map (·.2)).getLast? with
  | none => none
  | some x =>
    let n := u16 x.data 0
    if n = 0 then none else some (i32 x.data (24 + 4 * (n - 1)), u16 x.data 2)

/-- Millivolts of a chain value of a voltage input, times 8388608 / 10240 (R495): the value is compared in codes. -/
def mvCode (mv : Int) : Int := mv * 8388608

/-- Deflection of a joystick axis in 0.1 % from a chain value (R499). -/
def deflection (v c fp fm : Int) : Int :=
  let x := v * 10240
  let d : Int :=
    if mvCode c ≤ x then divHalfUp (1000 * (x - mvCode c)) (mvCode (fp - c))
    else divHalfUp (1000 * (x - mvCode c)) (mvCode (c - fm))
  clampInt (-1000) 1000 d

/-- The joystick deflections of a frame (R499): an INVALID value or a missing chain gives 0, CALIBRATING keeps the last. -/
def Work.joystick (s : State) (w : Work) (secs : List Section) : Work :=
  let b := s.config.active
  let axis (k : Nat) : Int × Bool :=
    match b.chainOf (0x20 + k) with
    | none => (0, false)
    | some ch =>
      match chainValue secs ch with
      | none => (w.core.ctl.joy.getD k 0, w.core.ctl.joyValid.getD k false)
      | some (v, fl) =>
        if bit fl 1 then (w.core.ctl.joy.getD k 0, w.core.ctl.joyValid.getD k false)
        else if bit fl 0 then (0, false)
        else (deflection v (s.paramI (0x31010011 + k)) (s.paramI (0x31010014 + k)) (s.paramI (0x31010017 + k)), true)
  let vs := (List.range 3).map axis
  w.setCore { w.core with ctl := { w.core.ctl with joy := vs.map (·.1), joyValid := vs.map (·.2) } }

/-- A deflection beyond the deadband scaled to a full value, rounded half up (R294, R295). -/
def beyondDeadband (d dead full : Int) : Int :=
  if (d.natAbs : Int) ≤ dead then 0
  else
    let v := divRound (full * ((d.natAbs : Int) - dead)) (1000 - dead).toNat
    if d < 0 then -v else v

/-- The pulse counts delivered with a snapshot (R501). -/
def Work.pulses (w : Work) (secs : List Section) : Work :=
  match ((samplesOf secs 0x0050).map (·.2)).getLast? with
  | none => w
  | some x => w.setCore { w.core with ctl := { w.core.ctl with count1 := u32 x.data 0, count2 := u32 x.data 4 } }

/-- Offsets the pulse inputs add: vessel x, vessel y, heading, along-track (R297). -/
def State.pulseOffsets (s : State) (c : Control) : Int × Int × Int × Int :=
  let v1 := wrap32 ((c.count1 : Int) - c.pulse1) * s.paramI 0x0201000B
  let v2 := wrap32 ((c.count2 : Int) - c.pulse2) * s.paramI 0x0201000D
  let m1 := s.paramN 0x0201000A
  let m2 := s.paramN 0x0201000C
  let take (k : Nat) : Int := (if m1 = k then v1 else 0) + (if m2 = k then v2 else 0)
  (take 1, take 2, take 3, take 4)

/-- The course of a moving target, held below 0.2 m/s (R299). -/
def courseOf (held : Nat) (vn ve : Int) : Nat :=
  if vn * vn + ve * ve < 200000 * 200000 then held else direction vn ve

/-- A leg of the route: waypoint position, speed, acceptance radius, heading, STOP (R300, R301). -/
def State.waypoint (s : State) (i : Nat) : Option Waypoint := s.config.active.route[i]?

/-- Route waypoints in the Earth frame about the origin (R301). -/
def Core.convertRoute (c : Core) (b : Bank) : List (Int × Int) :=
  match c.origin.geo with
  | none => []
  | some o => b.route.map fun p => let q := toEarth o { lat := p.lat, lon := p.lon, height := o.height }; (q.1, q.2.1)

/-- The next leg begins, or the last waypoint holds (R301). -/
def Work.passWaypoint (w : Work) (stop : Bool) : Work :=
  let c := w.core.ctl
  if c.route.length ≤ c.leg + 1 then
    let w1 := w.setCore { w.core with ctl := { c with held := .last, lastSeen := true } }
    w1.raiseIf (!c.lastSeen) 0x0204 []
  else if stop then w.setCore { w.core with ctl := { c with held := .stop } }
  else
    let p := c.route.getD c.leg (0, 0)
    w.setCore { w.core with ctl := { c with leg := c.leg + 1, fromN := p.1, fromE := p.2, held := .none } }

/-- TRACK: targets and direct rates along the leg; a waypoint is passed when the set-point has reached it and the estimate lies
within ACCEPT (R301). -/
def Work.trackTargets (s : State) (w : Work) (along : Int) : Work :=
  let c := w.core
  let p := c.ctl.route.getD c.ctl.leg (c.engine.int 0x1110, c.engine.int 0x1111)
  let wp := s.waypoint c.ctl.leg
  let sn := c.engine.int 0x1110
  let se := c.engine.int 0x1111
  let dn := p.1 - sn
  let de := p.2 - se
  let course := direction (p.1 - c.ctl.fromN) (p.2 - c.ctl.fromE)
  let hdg : Nat := match wp with
    | none => c.ctl.th
    | some x => if x.heading = 0xFFFFFFFF then course else x.heading
  let kr := s.paramI 0x02010005
  let vsp := s.paramI 0x02010001
  let speed : Int := match wp with
    | none => vsp
    | some x => x.speed
  let leg := rotate course true dn de
  let va := clampInt (-speed) speed (divRound ((leg.1 + along) * kr * 100) 1000)
  let vc := clampInt (-vsp) vsp (divRound (leg.2 * kr * 100) 1000)
  let v := rotate course false va vc
  let rate := if c.ctl.held = .none then v else (clampInt (-vsp) vsp (divRound (dn * kr * 100) 1000),
    clampInt (-vsp) vsp (divRound (de * kr * 100) 1000))
  let e := (c.engine.setInts 0x1100 [p.1, p.2, (hdg : Int)]).setInts 0x1103 [1, 1, 0, rate.1, rate.2, 0]
  let w := w.setCore { c with engine := e, ctl := { c.ctl with th := hdg } }
  let en := c.engine.int 0x1306 - p.1
  let ee := c.engine.int 0x1307 - p.2
  let accept : Int := match wp with
    | none => 0
    | some x => x.accept
  let reached := dn * dn + de * de ≤ 100
  if c.ctl.held = .none ∧ reached ∧ en * en + ee * ee ≤ accept * accept then
    w.passWaypoint ((wp.map (·.stop)).getD false)
  else w

/-- The targets of the frame written for the SETPOINT program, those of position saturated as its results are (R10). -/
def Engine.setTargets (e : Engine) (n ea th : Int) : Engine :=
  let r : RunAs := { inertial := false, cls := 2, slot := 0xFE }
  (e.puts r 0 0x1100 [n, ea]).setInt 0x1102 th

/-- FOLLOW-TARGET: targets from the track and the pulse inputs, the target's velocity fed forward (R297, R299). In heading mode BEARING
a commanded heading stands until the next frame forms the bearing again (DESIGN CHOICE, log 117). -/
def Work.followTargets (w : Work) (off : Int × Int × Int) : Work :=
  let c := w.core
  let g := (c.fusion.targets.getD c.ctl.follow { st := 0, track := none, samples := 0, lastAt := 0 })
  match g.track with
  | none => w
  | some x =>
    let course := courseOf c.ctl.course x.va x.vb
    let o := if c.ctl.offMode = 1 then rotate course false c.ctl.oN c.ctl.oE else (c.ctl.oN, c.ctl.oE)
    let th := if c.ctl.hdgMode = 1
      then angleAdd (direction (x.a - c.engine.int 0x1306) (x.b - c.engine.int 0x1307)) c.ctl.bearing else c.ctl.th
    let ctl := { c.ctl with tn := x.a + o.1, te := x.b + o.2, th := th, course := course }
    let e := (c.engine.setTargets (x.a + o.1 + off.1) (x.b + o.2 + off.2.1) (angleAdd th off.2.2)).setInts 0x1103 [0, 0, 0, x.va, x.vb, 0]
    w.setCore { c with engine := e, ctl := ctl }

/-- A LOST track ends FOLLOW-TARGET: AUTO-POSITION with the set-point held (R33, R299). -/
def Work.followLost (w : Work) : Work :=
  let c := w.core
  let g := (c.fusion.targets.getD c.ctl.follow { st := 0, track := none, samples := 0, lastAt := 0 })
  if c.ctl.mode = .followTarget ∧ (g.st = 4 ∨ g.st = 0) then
    let ctl :=
      { c.ctl with
        mode := .autoPosition
        tn := c.engine.int 0x1110
        te := c.engine.int 0x1111
        th := (c.engine.word 0x1112).toNat
        pulse1 := c.ctl.count1
        pulse2 := c.ctl.count2 }
    ((w.setCore { c with ctl := ctl }).raise 0x0201 [4, 3]).raise 0x0203 []
  else w

/-- Targets, creep and direct rates of the frame written for the SETPOINT program (R292, R295, R297 to R301). -/
def Work.setpointInputs (s : State) (w : Work) (p : Nat) : Work :=
  let w := w.followLost
  let c := w.core
  let m := c.ctl.mode
  let off := s.pulseOffsets c.ctl
  let e := c.engine
  let e := e.setInts 0x1109 [s.paramI 0x02010001, s.paramI 0x02010001, s.paramI 0x02010003, s.paramI 0x02010005,
    s.paramI 0x02010002, s.paramI 0x02010004, p]
  let spH := (e.word 0x1112).toNat
  let v := rotate spH false off.1 off.2.1
  let e := (e.setTargets (c.ctl.tn + v.1) (c.ctl.te + v.2) (angleAdd c.ctl.th off.2.2.1)).setInts 0x1103 [0, 0, 0, 0, 0, 0]
  let w := w.setCore { c with engine := e }
  let w := if m = .followTarget then w.followTargets (v.1, v.2, off.2.2.1) else w
  if m = .track then w.trackTargets s off.2.2.2
  else
    let c := w.core
    let axes := m.axes
    let dead := s.paramI 0x02010008
    let en := s.paramN 0x02010009
    let lim := s.paramI 0x02010006
    let rate (k : Nat) (full : Int) : Int :=
      if axes.getD k false && bit en k then beyondDeadband (c.ctl.joy.getD k 0) dead full else 0
    let cx := rate 0 lim
    let cy := rate 1 lim
    let cz := rate 2 (s.paramI 0x02010007)
    let e := c.engine
    let w :=
      if cx ≠ 0 ∨ cy ≠ 0 then
        let u := rotate spH false cx cy
        let e := (e.setInts 0x1103 [1, 1]).setInts 0x1106 [u.1, u.2]
        w.setCore { c with engine := e, ctl := { c.ctl with tn := e.int 0x1110 - v.1, te := e.int 0x1111 - v.2 } }
      else w
    if cz ≠ 0 then
      let c := w.core
      let e := (c.engine.setInt 0x1105 1).setInt 0x1108 cz
      w.setCore { c with engine := e, ctl := { c.ctl with th := angleAdd spH (-off.2.2.1) } }
    else w

/-- The set-point follows the estimate on the axes where the mode says so (R292). -/
def Core.followEstimate (c : Core) : Core :=
  let m := c.ctl.mode
  let c :=
    if m.followsPosition then
      let n := c.engine.int 0x1306
      let e := c.engine.int 0x1307
      { c with engine := ((c.engine.setInts 0x1110 [n, e]).setInts 0x1113 [0, 0]).setInts 0x1116 [0, 0],
               ctl := { c.ctl with tn := n, te := e } }
    else c
  if m.followsHeading then
    { c with engine := ((c.engine.setWord 0x1112 (c.engine.word 0x1308)).setInt 0x1115 0).setInt 0x1118 0,
             ctl := { c.ctl with th := (c.engine.word 0x1308).toNat } }
  else c

/-- The offset of FOLLOW-TARGET that makes its target (n, e) (R299). -/
def Control.offsetTo (c : Control) (x : Track) (n e : Int) : Control :=
  let o := if c.offMode = 1 then rotate c.course true (n - x.a) (e - x.b) else (n - x.a, e - x.b)
  { c with oN := o.1, oE := o.2 }

/-- Targets, pulse offsets included, held equal to the set-point that a creep has moved; in FOLLOW-TARGET by the offset and the bearing
offset its targets are formed from (R295, R297, R299). -/
def Core.holdCreep (s : State) (c : Core) : Core :=
  let e := c.engine
  let off := s.pulseOffsets c.ctl
  let v := rotate (e.word 0x1112).toNat false off.1 off.2.1
  let n := e.int 0x1110 - v.1
  let ea := e.int 0x1111 - v.2
  let th := angleAdd (e.word 0x1112).toNat (-off.2.2.1)
  let c1 := if e.word 0x1103 = 0 then c else { c with ctl := { c.ctl with tn := n, te := ea } }
  let c2 := if e.word 0x1105 = 0 then c1 else { c1 with ctl := { c1.ctl with th := th } }
  match c.ctl.mode, (c.fusion.targets.getD c.ctl.follow { st := 0, track := none, samples := 0, lastAt := 0 }).track with
  | .followTarget, some x =>
    let c3 := if e.word 0x1103 = 0 then c2 else { c2 with ctl := c2.ctl.offsetTo x n ea }
    if e.word 0x1105 = 0 then c3
    else
      let brg := direction (x.a - e.int 0x1306) (x.b - e.int 0x1307)
      { c3 with ctl := { c3.ctl with bearing := angleDiff th brg } }
  | _, _ => c2

/-- An axis that enters automatic control takes its set-point from the estimate at that frame, with velocity zero; its target goes
with it unless a command has moved it (R294). -/
def Core.enterAxis (c : Core) (k : Nat) : Core :=
  let e := c.engine
  let old := e.int (0x1110 + k)
  let new := e.int (0x1306 + k)
  let ctl := c.ctl
  let ctl :=
    if k = 0 then (if ctl.tn = old then { ctl with tn := new } else ctl)
    else if k = 1 then (if ctl.te = old then { ctl with te := new } else ctl)
    else if ctl.th = (e.word 0x1112).toNat then { ctl with th := (e.word 0x1308).toNat } else ctl
  { c with engine := ((e.setInt (0x1110 + k) new).setInt (0x1113 + k) 0).setInt (0x1116 + k) 0, ctl := ctl }

/-- Force of the dispatched forces of a snapshot on the vessel: surge, sway, yaw (R281, R305, R310). -/
def dispatchedForce (b : Bank) (fs : List (Int × Int)) : Int × Int × Int :=
  b.acts.foldl (fun acc a =>
    let f := fs.getD a.1 (0, 0)
    let v := if a.2.typ = 0 then f else rotate a.2.dir false f.1 f.2
    (acc.1 + v.1, acc.2.1 + v.2, acc.2.2 + divRound (a.2.x * v.2 - a.2.y * v.1) 100000)) (0, 0, 0)

/-- The DISPATCHED section of a snapshot (R305). -/
def dispatchedOf (secs : List Section) : List (Int × Int) :=
  match ((samplesOf secs 0x0020).map (·.2)).getLast? with
  | none => List.replicate 24 (0, 0)
  | some x => (List.range 24).map fun i => (i32 x.data (8 * i), i32 x.data (8 * i + 4))

/-- Mean yaw rate over the latest eight sub-frames (R281). -/
def meanRate (as_ : List Attitude) : Int :=
  let xs := (as_.take 8).map fun (a : Attitude) => a.rate
  if xs.isEmpty then 0 else divRound (xs.foldl (· + ·) 0) xs.length

/-- Inputs written for the observer and control programs (R275, R281, R282, R288). -/
def Work.controlInputs (s : State) (w : Work) (force : Int × Int × Int) : Work :=
  let c := w.core
  let g := c.fusion.fused
  let m := c.ctl.mode
  let dead := s.paramI 0x02010008
  let jf (k : Nat) : Int := if m = .standby then 0 else beyondDeadband (c.ctl.joy.getD k 0) dead (s.paramI (0x02010011 + k))
  let slack (k : Nat) : Int := b2n (bit c.allocRec.astatus (5 + k))
  let nb := s.paramN 0x2001000B
  let k : Nat := if c.ctl.blend = 0 then 65536 else min 65536 (65536 * c.ctl.blend / nb)
  let e := c.engine
  let e := e.setInts 0x1000 [(g.pos.map (·.1)).getD 0, (g.pos.map (·.2.1)).getD 0, (g.hdg.map fun h => (h.1 : Int)).getD 0,
    b2n g.pos.isSome, b2n g.hdg.isSome, g.nMru, force.1, force.2.1, force.2.2, jf 0, jf 1, jf 2]
  let e := e.setInts 0x100C (m.axes.map fun a => (b2n a : Int))
  let e := e.setInts 0x100F [slack 0, slack 1, slack 2, (g.wind.map (·.1)).getD 0, (g.wind.map (·.2)).getD 0,
    b2n g.wind.isSome, s.paramI 0x02010010, k, b2n (decide (c.ctl.blend ≠ 0)), meanRate c.attitudes]
  w.setCore { c with engine := e }

/-- A request for a gain level (R290, R291): a blend starts, or the request waits for the running one. -/
def Work.requestLevel (w : Work) (level : Nat) : Work :=
  let c := w.core
  if c.ctl.blend ≠ 0 then w.setCore { c with ctl := { c.ctl with heldLevel := some level } }
  else if level = c.engine.level then w
  else
    (w.setCore { c with engine := { c.engine with prevLevel := c.engine.level, level := level },
                        ctl := { c.ctl with blend := 1 } }).raise 0x2003 [c.engine.level, level]

/-- The blend over at frame NB: the previous level equals the new one and a held request starts (R290, R291). -/
def Work.endBlend (s : State) (w : Work) : Work :=
  let c := w.core
  if c.ctl.blend ≤ s.paramN 0x2001000B then w
  else
    let w1 := w.setCore { c with engine := { c.engine with prevLevel := c.engine.level },
                                 ctl := { c.ctl with blend := 0, heldLevel := none } }
    match c.ctl.heldLevel with
    | none => w1
    | some l => w1.requestLevel l

/-- h² of the corrected wave states (R284). -/
def Engine.waves (e : Engine) : Nat := (e.int 0x1300 * e.int 0x1300 + e.int 0x1301 * e.int 0x1301).toNat

/-- A counted frame of the sea-state measure; every 64th takes a sample of its wave states (R284). -/
def Control.countFrame (c : Control) (waves : Nat) : Control :=
  let n := c.counted + 1
  { c with counted := n, sampleDue := if n % 64 = 0 then some waves else c.sampleDue }

/-- Threshold T_k of the bins: T0 is 0 (R285, R302). -/
def State.binThreshold (s : State) (k : Nat) : Nat := if k = 0 then 0 else if 7 < k then 4294967296 else s.paramN (0x20010001 + k)

/-- The measure H: the rounded root of the mean of the samples, once 16 exist (R284). -/
def seaMeasure (samples : List Nat) : Option Nat :=
  if samples.length < 16 then none
  else
    let sum := samples.foldl (· + ·) 0
    some ((isqrt (4 * sum / samples.length) + 1) / 2)

/-- One sample of the waves and what it does to the bin (R284, R285); the bin changes at the next strobe (R286). -/
def Core.seaSample (s : State) (c : Core) : Core :=
  match c.ctl.sampleDue with
  | none => c
  | some x =>
    let samples := (x :: c.ctl.samples).take 256
    let ctl := { c.ctl with samples := samples, sampleDue := none }
    match seaMeasure samples with
    | none => { c with ctl := ctl }
    | some h =>
      let b := ctl.nextBin
      let up := if b < 7 ∧ s.binThreshold (b + 1) < h then ctl.up + 1 else 0
      let down := if 0 < b ∧ 10 * h < 9 * s.binThreshold b then ctl.down + 1 else 0
      if s.paramN 0x20010001 ≠ 0xFF then { c with ctl := { ctl with up := 0, down := 0 } }
      else if 48 ≤ up then { c with ctl := { ctl with nextBin := b + 1, up := 0, down := 0 } }
      else if 240 ≤ down then { c with ctl := { ctl with nextBin := b - 1, up := 0, down := 0 } }
      else { c with ctl := { ctl with up := up, down := down } }

/-- The bin in force from a strobe on (R285, R286). -/
def Work.applyBin (s : State) (w : Work) : Work :=
  let c := w.core
  let want := if s.paramN 0x20010001 = 0xFF then c.ctl.nextBin else s.paramN 0x20010001
  if want = c.engine.bin then w.setCore { c with ctl := { c.ctl with nextBin := want } }
  else (w.setCore { c with engine := { c.engine with bin := want }, ctl := { c.ctl with nextBin := want } }).raise 0x2002
    [c.engine.bin, want]

/-- The observer's prediction kept in the frame's rewind entry, step 5 of R281. -/
def Core.keepPrediction (c : Core) : Core :=
  match c.rewind with
  | [] => c
  | r :: rest => { c with rewind := { r with observer := c.engine.observerWords } :: rest }

/-- The observer and control phase of one lane (R281, R288, R292, R296). -/
def Work.observerControl (s : State) (w : Work) (secs : List Section) (p : Nat) : Work :=
  if w.core.ctl.mode = .maintenance then w.setCore { w.core with tau := (0, 0, 0) }
  else
    let w := (w.joystick s secs).pulses secs
    let was := w.core.ctl.autoAxes
    let axes := w.core.ctl.mode.axes
    let presets := (List.range 3).filter fun k => axes.getD k false && !(was.getD k false)
    let force := dispatchedForce s.config.active (dispatchedOf secs)
    let w := w.controlInputs s force
    let w := w.setpointInputs s p
    let m := w.core.ctl.mode
    let w := if m = .standby then w else w.setCore { w.core with engine := w.core.engine.setpointStep }
    let w := if m = .standby ∨ m = .track then w else w.setCore (w.core.holdCreep s)
    let w := w.setCore ({ w.core with engine := w.core.engine.predictStep }).keepPrediction
    let w := w.setCore { w.core with engine := w.core.engine.correctStep }
    let w := if m = .followTarget ∨ m = .track then w else w.setCore (presets.foldl Core.enterAxis w.core)
    let w := w.setCore w.core.followEstimate
    let e := if w.core.ctl.mode = .standby
      then ((w.core.engine.windForce).setInts 0x1500 [0, 0, 0]).setInt 0x1510 0x70
      else w.core.engine.controlStep presets
    let tau := (e.int 0x1500, e.int 0x1501, e.int 0x1502)
    let ctl := w.core.ctl.countFrame e.waves
    let nb := s.paramN 0x2001000B
    let ctl :=
      { ctl with
        autoAxes := axes
        status := (e.word 0x1510).toNat
        blend := if ctl.blend = 0 then 0 else min (ctl.blend + 1) (nb + 1) }
    w.setCore { w.core with engine := e, ctl := ctl, tau := tau }

end Sys2Proof.Machine
end

