-- ==== Sys2Proof/Machine/Allocation.lean ====
section
/-!
DEFINITION. Section limits, the primary solve, the CONVERSION program and the allocation part of the record
(R324 to R349, R365, R372 to R375).
-/

namespace Sys2Proof.Machine

/-- An episode of an event: it begins with the first frame met and ends after 100 frames without; the second result tells of a beginning. -/
def episodeStep (ep : Episode) (met : Bool) : Episode × Bool :=
  if met then (some 0, ep.isNone)
  else
    match ep with
    | none => (none, false)
    | some k => (if 99 ≤ k then none else some (k + 1), false)

/-- The first byte of the LSHED section of a snapshot: the contacts applied at its cut-off (R370). -/
def appliedOf (secs : List Section) : Bool × Bool :=
  match ((samplesOf secs 0x0021).map (·.2)).getLast? with
  | none => (false, false)
  | some x => (bit (u8 x.data 0) 0, bit (u8 x.data 0) 1)

/-- The headroom input k as the snapshot shows it (R374, R375, R502); the power of its section is at the dispatched forces. -/
def Work.headroom (s : State) (w : Work) (secs : List Section) (as_ : List ActIn) (forces : List (Int × Int)) (k : Nat) : Work :=
  let c := w.core.cases
  let h := if k = 0 then c.head1 else c.head2
  let put (w : Work) (h : Headroom) : Work :=
    w.setCore { w.core with cases := if k = 0 then { w.core.cases with head1 := h } else { w.core.cases with head2 := h } }
  match s.config.active.chainOf (0x28 + k) with
  | none => w
  | some ch =>
    match chainValue secs ch with
    | none => w
    | some (v, fl) =>
      if bit fl 1 then w
      else if bit fl 0 then
        (put w { h with valid := false, seen := true }).raiseIf (h.valid || !h.seen) 0x2209 [k + 1, 0]
      else
        let sec := s.paramN (0x22040005 + 2 * k)
        let kw := divRound ((v - 1310720) * s.paramI (0x22040004 + 2 * k)) 5242880
        let lim := (sectionPower as_ forces sec).ceil + (max 0 (kw - s.paramI 0x22040008)).toNat
        (put w { valid := true, seen := true, limit := if sec = 0 then none else some lim }).raiseIf (!h.valid && h.seen) 0x2209
          [k + 1, 1]

/-- The shed and release limits of a section (R372, R373). -/
def Work.shedStep (s : State) (w : Work) (as_ : List ActIn) (forces : List (Int × Int)) (app : Bool × Bool) (p sec : Nat) :
    Work :=
  let b := s.config.active
  let covered := (app.1 && bit (b.shedSections 0) (sec - 1)) || (app.2 && bit (b.shedSections 1) (sec - 1))
  let l := w.core.cases.sections.getD (sec - 1) .reset
  let put (w : Work) (l : SectionLimit) : Work :=
    w.setCore { w.core with cases := { w.core.cases with sections := setAt w.core.cases.sections (sec - 1) fun _ => l } }
  let plim := b.pLimit sec
  if covered then
    match l.shed with
    | some _ => w
    | none => put w { l with shed := some (sectionPower as_ forces sec).ceil, release := none }
  else
    match l.shed, l.release with
    | some v, _ => put w { l with shed := none, release := some (v * 1000) }
    | none, some r =>
      let r' := r + (divRound ((plim * s.paramN 0x22040003 * p : Nat) : Int) 1000).toNat
      if plim * 1000 ≤ r' then (put w { l with release := none }).raise 0x220A [sec] else put w { l with release := some r' }
    | none, none => w

/-- The limit of a section in force (R365). -/
def State.limitInForce (s : State) (c : CaseState) (sec : Nat) : Nat :=
  let l := c.sections.getD (sec - 1) .reset
  let head (k : Nat) (h : Headroom) : Option Nat := if s.paramN (0x22040005 + 2 * k) = sec then h.limit else none
  let all := [l.shed, l.release.map fun r => r / 1000, head 0 c.head1, head 1 c.head2].filterMap id
  all.foldl min (s.config.active.pLimit sec)

/-- The section limits of frame n from its snapshot (R365, R372 to R375). -/
def Work.sectionLimits (s : State) (w : Work) (secs : List Section) (as_ : List ActIn) (p : Nat) : Work :=
  let forces := dispatchedOf secs
  let app := appliedOf secs
  let w := (w.headroom s secs as_ forces 0).headroom s secs as_ forces 1
  let w := [1, 2, 3, 4].foldl (fun w sec => w.shedStep s as_ forces app p sec) w
  let c := w.core.cases
  let secs' := (List.range 4).map fun k =>
    { c.sections.getD k .reset with inForce := s.limitInForce c (k + 1) }
  w.setCore { w.core with cases := { c with sections := secs', shown1 := app.1, shown2 := app.2 } }

/-- Priority level of a degree of freedom 0 to 2 (R351). -/
def State.levels (s : State) : List Nat := (List.range 3).map fun k => bits (s.paramN 0x21010002) (2 * k + 1) (2 * k)

/-- The demand of a solve with the parameters in force. -/
def State.allocDemand (s : State) (tau : Int × Int × Int) (capId : Nat) : Demand :=
  { tau := tau, levels := s.levels, sF := s.paramN 0x21010003, sN := s.paramN 0x21010004, wp := s.paramN 0x21010006,
    cap := s.paramN capId }

/-- Words of an actuator for the CONVERSION program (R343). -/
def Engine.conversionInput (e : Engine) (i : Nat) (fx fy : Int) (transit : Bool) (hold : Nat) : Engine :=
  let z : Bool := fx = 0 ∧ fy = 0
  e.setInts (0x1700 + 8 * i)
    [fx, fy, if z then 1 else fx, if z then 0 else fy, b2n (z || transit), (hold : Int), max fx 1, 0]

/-- The default CONVERSION program for one actuator (R344). Scratch at 0x1880. A PROP-RUDDER without a CMD2 table keeps CMD2 at 0
(DESIGN CHOICE, log 52). -/
def Engine.convertAct (e : Engine) (i : Nat) (a : ActEntry) : Engine :=
  let r : RunAs := { inertial := false, cls := 5, slot := 0xFE }
  let src := 0x1700 + 8 * i
  let cmd1 := 0x1800 + 4 * i
  let cmd2 := cmd1 + 1
  if a.typ = 0 then
    let e := e.run r 2 1 [{ bi 0x12 0x1880 src src with osh := 10 }]
    let e := e.run r 1 1 [bi 0x10 0x1880 0x1880 0x1881, { bi 0x23 0x1880 0x1880 0 with osh := 10 },
                          bi 0x24 cmd1 0x1880 a.cmd1Tbl, bi 0x25 cmd2 (src + 2) 0,
                          { bi 0x16 cmd2 (src + 5) (src + 4) with fmt := 1 }]
    (e.setInt 0x1882 a.dir).run r 1 1 [{ bi 0x11 cmd2 cmd2 0x1882 with fmt := 1 }]
  else if a.typ = 2 then
    let e := e.run r 1 1 [bi 0x24 cmd1 src a.cmd1Tbl, { bi 0x22 0x1880 (src + 1) (src + 6) with osh := 16 }]
    if a.cmd2Tbl = 0xFFFF then e.setInt cmd2 0 else e.run r 1 1 [bi 0x24 cmd2 0x1880 a.cmd2Tbl]
  else (e.run r 1 1 [bi 0x24 cmd1 src a.cmd1Tbl]).setInt cmd2 0

/-- The CONVERSION program of the lane (R344). -/
def Engine.conversionStep (e : Engine) (acts : List (Nat × ActEntry)) : Engine :=
  match e.programOf 5 with
  | some p => e.runProgram false p
  | none => acts.foldl (fun e q => e.convertAct q.1 q.2) e

/-- State code (R318). -/
def ActSt.code : ActSt → Nat
  | .unavailable => 0
  | .active => 1
  | .rundown => 2
  | .transit => 3

/-- ARC of the record (R346); for a direction inside a forbidden sector, the arc of the transit target. -/
def ActState.arc (a : ActState) (e : ActEntry) : Nat :=
  if e.typ = 2 then b2n a.astern
  else if e.typ = 0 then
    match arcOf e.forb a.theta with
    | some x => x.1
    | none => ((arcOf e.forb a.target).map (·.1)).getD 0
  else 0

/-- The limits of an actuator that are in a working set: caps, direction, rate (AFLAGS bits 0 to 2 of R346). -/
def ActIn.limitFlags (a : ActIn) (f0 : List F64) (ids : List ConId) : Nat :=
  let mine := ids.filter fun c => c.act = a.num
  let rate := (a.rateBounds f0).1
  let caps := a.capBounds
  let cap := mine.any fun c =>
    match c.kind with
    | .magnitude => !a.hasP
    | .upper =>
      if c.idx < a.nf then
        match (caps.getD c.idx (none, none)).2, (rate.getD c.idx (none, none)).2 with
        | some x, some y => x.le y
        | some _, none => true
        | none, _ => false
      else true
    | .lower =>
      if c.idx < a.nf then
        match (caps.getD c.idx (none, none)).1, (rate.getD c.idx (none, none)).1 with
        | some x, some y => y.le x
        | some _, none => true
        | none, _ => false
      else false
    | _ => false
  let rt := mine.any fun c =>
    match c.kind with
    | .upper =>
      match (rate.getD c.idx (none, none)).2, (caps.getD c.idx (none, none)).2 with
      | some y, some x => y.le x
      | some _, none => true
      | none, _ => false
    | .lower =>
      match (rate.getD c.idx (none, none)).1, (caps.getD c.idx (none, none)).1 with
      | some y, some x => x.le y
      | some _, none => true
      | none, _ => false
    | _ => false
  let dir := mine.any fun c => c.kind = .direction
  b2n cap + 2 * b2n dir + 4 * b2n rt

/-- Whether the bias is not zero. -/
def ActIn.biased (a : ActIn) : Bool := a.bias.1 ≠ 0 ∨ a.bias.2 ≠ 0

/-- Modelled power of an actuator with idle, W (R346). -/
def ActIn.watts (a : ActIn) (p : F64) : F64 :=
  (F64.ofInt ((a.pts.getD 0 (0, 0)).2 : Nat)).add ((F64.ofInt 1000).mul p)

/-- SEC_P of a section, kW (R346). -/
def secPower (as_ : List (ActIn × F64)) (sec : Nat) : Int :=
  let ws := as_.filterMap fun q =>
    if q.1.e.section_ = sec ∧ q.1.hasP ∧ q.1.st ≠ .unavailable then some (q.1.watts q.2) else none
  ((F64.sum ws).div (.ofInt 1000)).toInt32

/-- Nothing allocated: the record of MAINTENANCE (R339), or of an aborted solve (R336). -/
def Work.noAllocation (w : Work) (fault : Bool) : Work :=
  w.setCore { w.core with allocRec := { AllocRec.zero with astatus := if fault then 512 else 0 } }

/-- The set of actuators or their types changed since the lane's allocation state was stored (R334). -/
def actsChanged (acts : List (Nat × ActEntry)) (a : AllocState) : Bool :=
  (List.range 24).any fun i =>
    let t := ((assoc acts i).map fun e => e.typ).getD 0xFF
    (a.act i).typ ≠ t

/-- Entries no longer in use leave no state behind; new ones start afresh (R334, R345). -/
def Work.matchActs (w : Work) (acts : List (Nat × ActEntry)) : Work :=
  (List.range 24).foldl (fun w i =>
    w.onAct i fun (a : ActState) =>
      match assoc acts i with
      | none => ActState.reset
      | some e => if a.typ = e.typ then a else e.initial a) w

/-- The directions, edges and preferred directions an actuator keeps for the next frame (R306, R317, R345). -/
def ActState.afterSolve (a : ActState) (x : ActIn) (edges : List (Nat × Bool)) (ids : List ConId) (lam : List F64)
    (fx fy cmd2 : Int) : ActState :=
  let held (u : Bool) : Bool := ids.any fun c => c.act = x.num ∧ c.kind = .direction ∧ c.idx = b2n u
  let f := x.preferred lam
  { a with
    theta := if fx = 0 ∧ fy = 0 then a.theta else direction fx fy
    prevAngle := (cmd2 % 4294967296).toNat
    edges := edges.filter fun e => held e.2
    pref := prefAngle f }

/-- The primary solve, conversion and record of frame n (R338). -/
def Work.solveFrame (s : State) (w : Work) (secs : List Section) (now p : Nat) : Work :=
  let standby : Bool := w.core.ctl.mode = .standby
  let acts := s.config.active.acts
  let fresh := w.core.alloc.fresh || actsChanged acts w.core.alloc
  let w := w.matchActs acts
  let prevs := if standby || fresh then List.replicate 24 (0, 0) else dispatchedOf secs
  let mask := if standby then 0 else w.core.alloc.biasMask
  let unheld := w.core.alloc.acts.map fun (a : ActState) => { a with edges := [] }
  let w :=
    if fresh then w.setCore { w.core with alloc := { w.core.alloc with acts := unheld } } else w
  let w := w.actuatorStates s now p prevs mask
  let u := w.core.engine.int 0x130C
  let as_ := acts.map fun q => s.actIn (w.core.alloc.act q.1) q.1 q.2 p u (prevs.getD q.1 (0, 0)) mask
  let w := w.sectionLimits s secs as_ p
  let limits := w.core.cases.sections.map (·.inForce)
  let tau := if standby then (0, 0, 0) else w.core.tau
  let pr := buildProblem as_ (s.allocDemand tau 0x21010001) limits false
  let sol := pr.1.solve (if fresh then [] else w.core.alloc.working)
  let n := varCount as_
  let pl := place as_
  let fxy (q : ActIn × Nat) : Int × Int :=
    ((sol.x.getD q.2 .zero).toInt32, if q.1.two then (sol.x.getD (q.2 + 1) .zero).toInt32 else 0)
  let eng := pl.foldl (fun (e : Engine) q =>
    let f := fxy q
    let a := w.core.alloc.act q.1.num
    let hold := if a.st = .transit then a.target else angleAdd a.prevAngle q.1.e.dir
    e.conversionInput q.1.num f.1 f.2 (decide (a.st = .transit)) hold) w.core.engine
  let eng := eng.conversionStep acts
  let pOf (q : ActIn × Nat) : F64 := if q.1.hasP then sol.x.getD (q.2 + q.1.nf + 1) .zero else .zero
  let relaxedOf (q : (ActIn × Nat) × ActStart) : Bool := (q.1.1.rateBounds q.2.f).2
  let both := pl.zip pr.2.1
  let recs := both.map fun q =>
    let x := q.1.1
    let a := w.core.alloc.act x.num
    let f := fxy q.1
    { num := x.num, fx := f.1, fy := f.2, cmd1 := eng.int (0x1800 + 4 * x.num), cmd2 := eng.int (0x1801 + 4 * x.num),
      pKw := if x.hasP ∧ x.st ≠ .unavailable then ((x.watts (pOf q.1)).div (.ofInt 1000)).toInt32 else 0,
      st := a.st.code, arc := a.arc x.e,
      aflags := x.limitFlags q.2.f sol.working + 8 * b2n (relaxedOf q) + 16 * b2n (decide (derating x.e u < 65536))
        + 32 * b2n x.biased : ActRec }
  let slack (k : Nat) : F64 := sol.x.getD (n + k) .zero
  let thr (k : Nat) : F64 :=
    ((F64.ofInt (s.paramN 0x21010005)).mul (.ofInt (s.paramN (if k = 2 then 0x21010004 else 0x21010003)))).div (.ofInt 10000)
  let flag (k : Nat) : Bool := (thr k).lt (slack k).abs
  let below := (namedSections as_).any fun sec =>
    (F64.ofInt (limits.getD (sec - 1) 0)).lt ((F64.ofInt (idleW as_ sec)).div (.ofInt 1000))
  let relaxed := both.any relaxedOf
  let capped : Bool := sol.ending = .capped
  let numeric : Bool := sol.ending = .numeric
  let moving := as_.any fun x => x.st = .rundown ∨ x.st = .transit
  let status := b2n (decide (sol.ending = .optimal)) + 2 * b2n moving + 4 * b2n capped + 8 * b2n relaxed + 16 * b2n below
    + 32 * b2n (flag 0) + 64 * b2n (flag 1) + 128 * b2n (flag 2) + 256 * b2n numeric
  let powers := pl.map fun q => (q.1, pOf q)
  let rec_ : AllocRec :=
    { astatus := status, iter := sol.iter, sx := (slack 0).toInt32, sy := (slack 1).toInt32, sn := (slack 2).toInt32,
      secP := [1, 2, 3, 4].map fun sec => if (namedSections as_).contains sec then secPower powers sec else 0,
      cycles := solveCycles (n + 3) pr.1.rows sol.iter, acts := recs }
  let al := w.core.alloc
  let capE := episodeStep al.capEp capped
  let slackE := (List.range 3).map fun k => episodeStep (al.slackEp.getD k none) (flag k)
  let relE := episodeStep al.relaxed relaxed
  let belE := episodeStep al.below below
  let numE := episodeStep al.numeric numeric
  let states := (List.range 24).map fun i =>
    let a := al.act i
    match pl.find? fun q => q.1.num = i with
    | none => a
    | some q =>
      let f := fxy q
      a.afterSolve q.1 (q.1.e.wedge a p).2 sol.working sol.lambda f.1 f.2 (eng.int (0x1801 + 4 * i))
  let alloc : AllocState :=
    { acts := states, working := sol.working, lambda := sol.lambda, fresh := false, biasMask := al.biasMask, capEp := capE.1,
      slackEp := slackE.map (·.1), relaxed := relE.1, below := belE.1, numeric := numE.1 }
  let w := w.setCore { w.core with engine := eng, alloc := alloc, allocRec := rec_ }
  let w := w.raiseIf capE.2 0x2101 []
  let w := (List.range 3).foldl (fun w k => w.raiseIf (slackE.getD k (none, false)).2 0x2102 [k]) w
  let w := w.raiseIf relE.2 0x2106 []
  let w := w.raiseIf belE.2 0x2107 []
  w.raiseIf numE.2 0x2108 []

/-- The allocation phase of one lane (R338, R339). -/
def Work.allocate (s : State) (w : Work) (secs : List Section) (now p : Nat) : Work :=
  if w.lane.solverFault then w.noAllocation true
  else if w.core.ctl.mode = .maintenance then
    let w := w.matchActs s.config.active.acts
    let w := s.config.active.acts.foldl (fun w q => w.availability s now q.1) w
    let as_ := s.config.active.acts.map fun q => s.actIn (w.core.alloc.act q.1) q.1 q.2 p 0 (0, 0) 0
    (w.sectionLimits s secs as_ p).noAllocation false
  else w.solveFrame s secs now p

/-- The allocation part as bytes (R346). -/
def AllocRec.bytes (r : AllocRec) : List Byte :=
  le 2 r.astatus ++ le 1 r.iter ++ le 1 r.acts.length ++ leInt 4 r.sx ++ leInt 4 r.sy ++ leInt 4 r.sn
    ++ r.secP.flatMap (leInt 4) ++ le 4 r.cycles ++ le 12 0
    ++ r.acts.flatMap fun a =>
      leInt 4 a.fx ++ leInt 4 a.fy ++ leInt 4 a.cmd1 ++ leInt 4 a.cmd2 ++ leInt 4 a.pKw ++ le 1 a.st ++ le 1 a.arc
        ++ le 2 a.aflags ++ le 8 0

end Sys2Proof.Machine
end

