-- ==== Sys2Proof/Machine/Consequence.lean ====
section
/-!
DEFINITION. Failure cases, their schedule, results and alarms (R353 to R364).
-/

namespace Sys2Proof.Machine

/-- 178° as an angle. -/
def deg178 : Nat := 2123622902

/-- The nearest integer of a value, half up, not below 0. -/
def F64.halfUp (v : F64) : Nat :=
  let r := v.ratio
  (divRound r.1 (2 ^ r.2)).toNat

/-- The wedge of a case inside one allowed arc (R356); half its width rounds down (DESIGN CHOICE, log 56). -/
def caseWedge (lo width pref : Nat) : Nat × Nat :=
  let w := min width deg178
  let h := w / 2
  let l := (lo + h) % 4294967296
  let u := (lo + width - h) % 4294967296
  let pos := cw pref lo
  let c :=
    if pos ≤ width then (lo + max h (min pos (width - h))) % 4294967296
    else if (angleDiff pref l).natAbs ≤ (angleDiff pref u).natAbs then l else u
  ((cw c h), (c + h) % 4294967296)

/-- Direction rows of an actuator in a case (R355, R356). -/
def caseDirs (e : ActEntry) (a : ActState) : Option (Nat × Nat) :=
  if e.typ = 0 then
    if e.forb.isEmpty then none
    else
      match arcOf e.forb (if a.st = .transit then a.target else a.theta) with
      | none => none
      | some (_, lo, width) => some (caseWedge lo width a.pref)
  else if e.typ = 2 ∧ a.astern = false then some (cw 0 e.liftMax, e.liftMax)
  else none

/-- Lost in a case (R354). -/
def CaseEntry.loses (c : CaseEntry) (i : Nat) (e : ActEntry) : Bool :=
  bit c.actMask i || (decide (1 ≤ e.section_) && bit c.secMask (e.section_ - 1))

/-- An actuator in a case problem (R355). -/
def State.caseIn (s : State) (c : CaseEntry) (a : ActState) (i : Nat) (e : ActEntry) (u : Int) : ActIn :=
  let st : ActSt := if c.loses i e ∨ a.st = .unavailable then .unavailable else .active
  let caps := capsOf e st (derating e u) (0, 0) 0
  { num := i, e := e, pts := if e.power then s.config.active.power i else [], st := st, astern := a.astern,
    tCap := caps.1, tRev := caps.2, dirs := caseDirs e a, theta := a.theta, bias := (0, 0), prev := (0, 0), rate := none }

/-- The enabled cases in ascending number. -/
def Bank.enabledCases (b : Bank) : List Nat :=
  (List.range 32).filter fun i => ((b.case? i).map fun c => c.enabled).getD false

/-- The case after a pointer, round the enabled ones (R358). -/
def nextCase (cs : List Nat) (p : Nat) : Nat :=
  match cs.find? fun c => p < c with
  | some c => c
  | none => cs.head?.getD p

/-- Whether cases run in a mode (R358). -/
def State.casesRun (s : State) (m : Mode) : Bool :=
  decide (s.paramN 0x22010001 = 1) && m.isDp && !(s.config.active.enabledCases).isEmpty

/-- Achievable fraction of a degree of freedom, limited to 0 to 1 (R360). -/
def achievable (slack : F64) (tau : Int) (floor : F64) : F64 :=
  let v := F64.one.sub (slack.abs.div (F64.max (F64.ofInt tau).abs floor))
  F64.min F64.one (F64.max .zero v)

/-- Utilisation of one actuator (R360); an actuator whose cap is 0 has none. -/
def ActIn.utilisation (a : ActIn) (f : List F64) : F64 :=
  if a.st = .unavailable then .zero
  else if a.e.typ = 0 then
    if a.tCap.isZero then .zero
    else (((a.magForms.map fun r => F64.dot r f).foldl F64.max .zero)).div ((kappa a.e.polyN).mul a.tCap)
  else
    let x := f.getD 0 .zero
    if F64.zero.lt x then (if a.tCap.isZero then .zero else x.div a.tCap)
    else if x.lt .zero then (if a.tRev.isZero then .zero else x.neg.div a.tRev)
    else .zero

/-- A fraction in 0.01 %, rounded half up, at most 10 000. -/
def hundredths (v : F64) : Nat := min 10000 (v.mul (.ofInt 10000)).halfUp

/-- The result of a solved case (R360 to R362). -/
def State.classify (s : State) (c : Nat) (as_ : List ActIn) (budgets : List (Nat × F64)) (tau : Int × Int × Int)
    (shed : Bool) (sol : Solved) : CaseResult :=
  let n := varCount as_
  let base : CaseResult :=
    { CaseResult.none with case_ := c, iter := sol.iter, frame := s.frame.number, cflags := 8 * b2n shed }
  if sol.ending = .numeric then { base with result := 3, cflags := base.cflags + 2 }
  else
    let fl := (F64.ofInt (s.paramI 0x22010006)).div (.ofInt 1000)
    let sf := fl.mul (.ofInt (s.paramI 0x21010003))
    let sn := fl.mul (.ofInt (s.paramI 0x21010004))
    let slack (k : Nat) : F64 := sol.x.getD (n + k) .zero
    let ax := achievable (slack 0) tau.1 sf
    let ay := achievable (slack 1) tau.2.1 sf
    let an := achievable (slack 2) tau.2.2 sn
    let pl := place as_
    let acts := (pl.filter fun q => q.1.st ≠ .unavailable).map fun q =>
      (q.1.num, q.1.utilisation ((List.range q.1.nf).map fun k => sol.x.getD (q.2 + k) .zero))
    let secs := budgets.filterMap fun b =>
      if F64.zero.lt b.2 then
        let ps := pl.filterMap fun q =>
          if q.1.e.section_ = b.1 ∧ q.1.hasP then some (sol.x.getD (q.2 + q.1.nf + 1) .zero) else none
        some (0x80 + b.1, (F64.sum ps).div b.2)
      else none
    let best := (acts ++ secs).foldl (fun (b : Nat × F64) x => if b.2.lt x.2 then x else b)
      ((acts.head?.map (·.1)).getD 0, F64.zero)
    let lowest := F64.min ax (F64.min ay an)
    let k10 (v : F64) : F64 := v.mul (.ofInt 10000)
    let capped : Bool := sol.ending = .capped
    let res :=
      if (k10 lowest).lt (.ofInt (s.paramI 0x22010004)) then 3
      else if (k10 lowest).lt (.ofInt (s.paramI 0x22010003)) ∨ (F64.ofInt (s.paramI 0x22010005)).lt (k10 best.2) ∨ capped then 2
      else 1
    { base with result := res, cflags := base.cflags + b2n capped, achX := hundredths ax, achY := hundredths ay,
                achN := hundredths an, util := hundredths best.2, utilSrc := best.1 }

/-- Frames in T seconds at period P, rounded up (R364). -/
def framesOf (t p : Nat) : Nat := (t * 1000 + p - 1) / p

/-- Frames from a frame number to the present one. -/
def framesSince (cur from_ : Nat) : Nat := cw cur from_

/-- The start of a series kept while a condition holds. -/
def series (cur : Nat) (old : Option Nat) (met : Bool) : Option Nat := if met then some (old.getD cur) else none

/-- Whether a series has lasted. -/
def lasted (cur n : Nat) (since : Option Nat) : Bool :=
  match since with
  | none => false
  | some f => n ≤ framesSince cur f

/-- The FAIL alarm of a case: set, cleared or as it is (R364). -/
def Work.failAlarm (s : State) (w : Work) (p c : Nat) : Work :=
  let k := w.core.cases
  let h := k.cases.getD c (.reset c)
  let cur := s.frame.number.toNat
  let on := bit k.failAlm.toNat c
  let put (w : Work) (v : Word) : Work := w.setCore { w.core with cases := { w.core.cases with failAlm := v } }
  if !on && lasted cur (framesOf (s.paramN 0x22010007) p) h.failSince then
    (put w (k.failAlm ||| BitVec.ofNat 32 (2 ^ c))).raise 0x2201 [c]
  else if on && lasted cur (framesOf (s.paramN 0x22010008) p) h.clearSince then
    (put w (k.failAlm &&& ~~~BitVec.ofNat 32 (2 ^ c))).raise 0x2202 [c]
  else w

/-- The MARGINAL warning of a case (R364). -/
def Work.marginalAlarm (s : State) (w : Work) (p c : Nat) : Work :=
  let k := w.core.cases
  let h := k.cases.getD c (.reset c)
  let cur := s.frame.number.toNat
  let on := bit k.margAlm.toNat c
  let put (w : Work) (v : Word) : Work := w.setCore { w.core with cases := { w.core.cases with margAlm := v } }
  if !on && lasted cur (framesOf (s.paramN 0x22010007) p) h.badSince then
    (put w (k.margAlm ||| BitVec.ofNat 32 (2 ^ c))).raise 0x2203 [c]
  else if on && lasted cur (framesOf (s.paramN 0x22010008) p) h.okSince then
    (put w (k.margAlm &&& ~~~BitVec.ofNat 32 (2 ^ c))).raise 0x2204 [c]
  else w

/-- A result taken into its case's history (R361, R362, R364). -/
def Work.takeResult (s : State) (w : Work) (r : CaseResult) : Work :=
  let k := w.core.cases
  let cur := s.frame.number.toNat
  let h := k.cases.getD r.case_ (.reset r.case_)
  let capped := bit r.cflags 0
  let h' : CaseHistory :=
    { result := r, failSince := series cur h.failSince (r.result = 3), clearSince := series cur h.clearSince (r.result ≠ 3),
      badSince := series cur h.badSince (r.result ≠ 1), okSince := series cur h.okSince (r.result = 1),
      capped := capped || (h.capped && bit r.cflags 1) }
  let w := w.setCore { w.core with cases := { k with cases := setAt k.cases r.case_ fun _ => h', last := r } }
  w.raiseIf (capped && !h.capped) 0x2206 [r.case_]

/-- The case at the pointer run in one lane; the pointer moves on (R355 to R364). -/
def Work.runCase (s : State) (w : Work) (p : Nat) : Work :=
  if s.casesRun w.core.ctl.mode = false then w
  else
    let k := w.core.cases
    let b := s.config.active
    let cs := b.enabledCases
    let c := if cs.contains k.pointer then k.pointer else nextCase cs k.pointer
    if w.lane.auxFault then
      (w.setCore { w.core with cases := { k with pointer := c, last := { CaseResult.none with cflags := 4 } } }).raise 0x2205 [c]
    else
      match b.case? c with
      | none => w
      | some ce =>
        let u := w.core.engine.int 0x130C
        let as_ := b.acts.map fun q => s.caseIn ce (w.core.alloc.act q.1) q.1 q.2 u
        let limits := (List.range 4).map fun i =>
          let l := (k.sections.getD i .reset).inForce
          let o := ce.secLim.getD i 0xFFFFFFFF
          if o = 0xFFFFFFFF then l else min l o
        let shed := (List.range 4).any fun i => (k.sections.getD i .reset).inForce < b.pLimit (i + 1)
        let pr := buildProblem as_ (s.allocDemand w.core.tau 0x22010002) limits true
        let sol := pr.1.solve []
        let w := w.takeResult s (s.classify c as_ pr.2.2 w.core.tau shed sol)
        let w := w.setCore { w.core with cases := { w.core.cases with pointer := nextCase cs c } }
        (w.failAlarm s p c).marginalAlarm s p c

/-- Every result back to NOT_EVALUATED, alarms cleared, the pointer at the lowest enabled case (R359). -/
def Work.restartCases (s : State) (w : Work) : Work :=
  let k := w.core.cases
  let b := s.config.active
  let clear (w : Work) (alm : Word) (code : Nat) : Work :=
    (List.range 32).foldl (fun w c => w.raiseIf (bit alm.toNat c) code [c]) w
  let w := clear (clear w k.failAlm 0x2202) k.margAlm 0x2204
  w.setCore { w.core with cases :=
    { k with pointer := b.enabledCases.head?.getD 0, cases := CaseState.reset.cases, failAlm := 0, margAlm := 0,
             last := .none } }

/-- The consequence part of the record of this frame (R362); the result it carries is given away. -/
def Work.consequencePart (s : State) (w : Work) : Work :=
  let k := w.core.cases
  let cs := s.config.active.enabledCases
  let r : ConseqRec :=
    { failAlm := k.failAlm, margAlm := k.margAlm, secLim := k.sections.map (·.inForce),
      lsState := b2n k.shown1 + 2 * b2n k.shown2 + 4 * b2n (k.head1.seen && !k.head1.valid)
        + 8 * b2n (k.head2.seen && !k.head2.valid),
      next := if s.casesRun w.core.ctl.mode && !s.frame.katWindow then nextCase cs k.pointer else k.pointer, last := k.last }
  w.setCore { w.core with conseq := r, cases := { k with last := .none } }

/-- A result record as bytes (R362). -/
def CaseResult.bytes (r : CaseResult) : List Byte :=
  le 1 r.case_ ++ le 1 r.result ++ le 2 r.cflags ++ le 2 r.achX ++ le 2 r.achY ++ le 2 r.achN ++ le 2 r.util
    ++ le 1 r.utilSrc ++ le 1 r.iter ++ le 2 0 ++ le 4 r.frame.toNat ++ le 4 0

/-- The consequence part as bytes (R362). -/
def ConseqRec.bytes (r : ConseqRec) : List Byte :=
  le 4 r.failAlm.toNat ++ le 4 r.margAlm.toNat ++ r.secLim.flatMap (le 4) ++ le 1 r.lsState ++ le 1 r.next ++ le 2 0
    ++ r.last.bytes ++ le 4 0

end Sys2Proof.Machine
end

