-- ==== Sys2Proof/Machine/LaneCommands.lean ====
section
/-!
DEFINITION. What the commands that act on the lanes' computation do to one lane: modes, set-points, references, actuators
(R3, R4, R226, R227, R290, R293 to R301, R350, R359).
-/

namespace Sys2Proof.Machine

/-- References at the start of a DP mode, and after a bring-up: SUSPECT with SELECTED_AT_START, else DESELECTED (R226). Fixed points are
fixed anew (R206); a track restarts where the reference was STALE or DESELECTED (R221). -/
def Work.referencesAtStart (s : State) (w : Work) (now : Nat) : Work :=
  (List.range 26).foldl (fun w i =>
    match s.config.active.ref? i with
    | none => w
    | some e =>
      let w := w.onRef i fun (r : RefState) =>
        let anew : Bool := r.deselected || r.stale || r.restart
        let r :=
          if anew then { r with restart := true, track := none, last := none, appliedAt := now, drift := [], innovations := [] }
          else r
        { r with
          deselected := !e.atStart
          selectPending := false
          stale := false
          rejected := false
          suspect := e.atStart
          suspectAt := now
          fixedPoint := none
          innovFails := 0
          passSince := now
          cause := 16 }
      w.showState i) w

/-- The module is in STANDBY-TWIN with the peer link up and the peer in DUTY (R400). -/
def State.followsPeer (s : State) : Bool := s.paramN 0x71010001 = 1 && s.peer.duty = .twin && s.peer.up && s.peer.state.any fun x => decide (x.duty = 1)

/-- The peer's site origin taken over; of one without a geodetic position the lane fixes its own (R400; DESIGN CHOICE, log 63). -/
def Work.takePeerOrigin (s : State) (w : Work) (d : PeerData) : Work :=
    if d.originLat = -2147483648 then w.setCore { w.core with originDue := true }
    else
      let g : Geodetic := { lat := d.originLat, lon := d.originLon, height := w.core.fusion.fused.height }
      let sh : Int × Int :=
        match w.core.origin.geo with
        | none => w.core.vrp
        | some o => let q := toEarth o g; (q.1, q.2.1)
      w.setCore { w.core.shift s.config.active sh.1 sh.2 with origin := { geo := some g, fixed := true, site := true } }

/-- At entry into DP from STANDBY the site origin is due at the estimate of this frame, unless the peer's is taken (R3, R4, R400). -/
def Work.siteOrigin (s : State) (w : Work) : Work :=
  if s.followsPeer then w else w.setCore { w.core with originDue := true }

/-- The site origin fixed at the VRP estimate of the strobe, in the frame of the entry into DP (R3, R4). -/
def Work.fixSiteOrigin (s : State) (w : Work) : Work :=
  if w.core.originDue then w.setCore { w.core.fixOrigin s.config.active true with originDue := false } else w

/-- FOLLOW-TARGET entered: offset, modes and bearing offset fixed (R299). -/
def Core.enterFollow (c : Core) (track offMode hdgMode : Nat) : Core :=
  match (c.fusion.targets.getD track { st := 0, track := none, samples := 0, lastAt := 0 }).track with
  | none => c
  | some x =>
    let dn := c.engine.int 0x1306 - x.a
    let de := c.engine.int 0x1307 - x.b
    let course := courseOf 0 x.va x.vb
    let o := if offMode = 1 then rotate course true dn de else (dn, de)
    let brg := direction (-dn) (-de)
    let ctl :=
      { c.ctl with
        follow := track
        offMode := offMode
        hdgMode := hdgMode
        oN := o.1
        oE := o.2
        course := course
        bearing := angleDiff c.ctl.th brg }
    { c with ctl := ctl }

/-- TRACK entered: the route converted, the first leg from the set-point (R301). -/
def Core.enterTrack (c : Core) (b : Bank) : Core :=
  let ctl :=
    { c.ctl with
      route := c.convertRoute b
      leg := 0
      fromN := c.engine.int 0x1110
      fromE := c.engine.int 0x1111
      held := .none
      lastSeen := false }
  { c with ctl := ctl }

/-- The operator mode changed (R292 to R294, R299, R301, R359). -/
def Work.changeMode (s : State) (w : Work) (m : Mode) (track offMode hdgMode : Nat) : Work :=
  let old := w.core.ctl.mode
  let starts : Bool := old = .standby && m.isDp
  let w := if starts then w.siteOrigin s else w
  let w := if starts then w.referencesAtStart s s.now else w
  let c := w.core
  let origin := if !m.isDp then { c.origin with site := false } else c.origin
  let wasAuto (k : Nat) : Bool := (old.axes).getD k false
  let e := c.engine
  let keeps (k : Nat) : Bool := wasAuto k && old ≠ .track
  let sp (k : Nat) : Int := if wasAuto k then e.int (0x1110 + k) else e.int (0x1306 + k)
  let e := e.setInts 0x1110 [sp 0, sp 1, sp 2]
  let zero (e : Engine) (k : Nat) : Engine := if wasAuto k then e else (e.setInt (0x1113 + k) 0).setInt (0x1116 + k) 0
  let e := zero (zero (zero e 0) 1) 2
  let ctl :=
    { c.ctl with
      mode := m
      tn := if keeps 0 then c.ctl.tn else sp 0
      te := if keeps 1 then c.ctl.te else sp 1
      th := if keeps 2 then c.ctl.th else (sp 2 % 4294967296).toNat
      pulse1 := c.ctl.count1
      pulse2 := c.ctl.count2
      held := .none
      depthFrames := if starts then 0 else c.ctl.depthFrames }
  let alloc := { c.alloc with fresh := c.alloc.fresh || starts }
  let c := { c with origin := origin, engine := e, ctl := ctl, alloc := alloc }
  let c := if m = .followTarget then c.enterFollow track offMode hdgMode else c
  let c := if m = .track then c.enterTrack s.config.active else c
  let w := (w.setCore c).raise 0x0201 [old.code, m.code]
  if starts then w.restartCases s else w

/-- The set-point command (R298). -/
def Work.changeSetpoint (w : Work) (offset : Bool) (axes : Nat) (a b hdg : Int) : Work :=
  let c := w.core
  let auto (k : Nat) : Bool := c.ctl.mode.axes.getD k false && bit axes k
  let psi := (c.engine.word 0x1112).toNat
  let v := rotate psi false (if auto 0 then a else 0) (if auto 1 then b else 0)
  let th :=
    if auto 2 then (if offset then angleAdd c.ctl.th hdg else (hdg % 4294967296).toNat) else c.ctl.th
  let ctl :=
    if c.ctl.mode = .followTarget then
      match (c.fusion.targets.getD c.ctl.follow { st := 0, track := none, samples := 0, lastAt := 0 }).track with
      | none => { c.ctl with th := th }
      | some x =>
        let o := if c.ctl.offMode = 1 then rotate c.ctl.course false c.ctl.oN c.ctl.oE else (c.ctl.oN, c.ctl.oE)
        let n := if offset then o.1 + v.1 else if auto 0 then a - x.a else o.1
        let e := if offset then o.2 + v.2 else if auto 1 then b - x.b else o.2
        let o' := if c.ctl.offMode = 1 then rotate c.ctl.course true n e else (n, e)
        { c.ctl with th := th, oN := sat32 o'.1, oE := sat32 o'.2 }
    else
      let n := if offset then c.ctl.tn + v.1 else if auto 0 then a else c.ctl.tn
      let e := if offset then c.ctl.te + v.2 else if auto 1 then b else c.ctl.te
      { c.ctl with tn := sat32 n, te := sat32 e, th := th }
  (w.setCore { c with ctl := ctl }).raise 0x0202 []

/-- A set-point held at a STOP waypoint goes on to the next leg (R301). -/
def Work.continueTrack (w : Work) : Work :=
  if w.core.ctl.held = .stop then
    (w.setCore { w.core with ctl := { w.core.ctl with held := .none } }).passWaypoint false
  else w

/-- A reference deselected (R226, R227). -/
def Work.deselect (s : State) (w : Work) (i : Nat) : Work :=
  let b := s.config.active
  let had := !(contributors b w.core.fusion 0 16).isEmpty
  let w := w.onRef i fun (r : RefState) => { r with deselected := true, selectPending := false, fixedPoint := none, cause := 17 }
  w.raiseIf (had && (contributors b w.core.fusion 0 16).isEmpty) 0x1003 []

/-- The effect of a command on one lane. -/
def Work.applyCmd (s : State) (w : Work) : LaneCmd → Work
  | .mode m track off hdg => w.changeMode s m track off hdg
  | .setpoint offset axes a b hdg => w.changeSetpoint offset axes a b hdg
  | .trackContinue => w.continueTrack
  | .refSelect i => w.onRef i fun (r : RefState) =>
      { r with selectPending := true, restart := true, track := none, last := none, fixedPoint := none, drift := [], innovations := [] }
  | .refDeselect i => w.deselect s i
  | .refReaccept i => w.onRef i fun (r : RefState) =>
      { r with rejected := false, suspect := true, suspectAt := s.now, innovFails := 0, cause := 17 }
  | .actDisable i => (w.onAct i fun (a : ActState) => { a with disabled := true }).availability s s.now i
  | .actEnable i => (w.onAct i fun (a : ActState) => { a with disabled := false }).availability s s.now i
  | .gain level => w.requestLevel level
  | .restartCases => w.restartCases s

/-- A command taken by every running lane that holds the snapshot, and kept for a restored state; a lane without one takes it at the
start of its next frame (R79, R87, R382). -/
def State.laneCommand (s : State) (c : LaneCmd) : State :=
  s.lanesWork fun s w =>
    if w.lane.held.isSome then
      let w := w.applyCmd s c
      { w with lane := { w.lane with journal := w.lane.journal ++ [c] } }
    else { w with lane := { w.lane with missed := w.lane.missed ++ [c] } }

end Sys2Proof.Machine
end

