-- ==== Sys2Proof/Machine/LaneFrames.lean ====
section
/-!
DEFINITION. The phases of one lane: the start of a frame, fusion, inertial sub-frames, rewind, refinement
(R88, R216, R241 to R250, R262, R277).
-/

namespace Sys2Proof.Machine

/-- A state restored, with the inertial region and its status kept: the foreground reads no later slot (R278); the program and
coefficient banks follow the configuration (R255); the sub-frames since then belong to the next frame's word (R262). -/
def Core.restoredFrom (saved cur : Core) : Core :=
  let keep := cur.engine.data.filter fun p => 0x7000 ≤ p.1 ∧ p.1 < 0x8000
  let rest := saved.engine.data.filter fun p => p.1 < 0x7000
  let e : Engine :=
    { saved.engine with
      programs := cur.engine.programs
      coefs := cur.engine.coefs
      data := rest ++ keep
      inertial := cur.engine.inertial
      inertialWaits := cur.engine.inertialWaits
      inertialSub := cur.engine.inertialSub
      nextStatus := cur.engine.nextStatus
      stagedPrograms := cur.engine.stagedPrograms
      stagedCoefs := cur.engine.stagedCoefs }
  { saved with engine := e }

/-- Commands taken a second time: their events went out and were counted the first time (R382). -/
def Work.again (s : State) (w : Work) (cs : List LaneCmd) : Work :=
  { cs.foldl (fun w c => w.applyCmd s c) w with events := w.events, counts := w.counts }

/-- The state a lane stores at the start of a frame, with a new sea-state bin: what a replay starts from (R94, R286, R306). The commands
a restore undid stay in the journal; those of earlier frames leave it. -/
def Work.storeState (s : State) (w : Work) : Work :=
  let w1 := (w.setCore { w.core with attitudes := w.lane.attitudes }).applyBin s
  let again := if w1.lane.reapply then w1.lane.journal else []
  { w1 with lane := { w1.lane with saved := w1.core, journal := again, replaying := false } }

/-- The lane begins a frame: its state is stored, commands a restore undid are taken again, then those decided in a frame for which it
held no snapshot (R94, R382). -/
def Work.beginFrame (s : State) (w : Work) : Work :=
  let w1 := w.storeState s
  let w2 := w1.again s w1.lane.journal
  let w3 := w2.lane.missed.foldl (fun w c => w.applyCmd s c) w2
  { w3 with lane := { w3.lane with journal := w3.lane.journal ++ w3.lane.missed, missed := [], reapply := false } }

/-- The lane begins the replay of the previous frame from its stored state, with the commands of that frame (R94). -/
def Work.beginReplay (s : State) (w : Work) : Work :=
  let c := w.lane.saved.restoredFrom w.core
  let cmds := w.lane.journal ++ w.lane.missed
  let w1 : Work :=
    { w with lane := { w.lane with core := c, replaying := true, reapply := false, journal := cmds, missed := [] } }
  w1.again s cmds

/-- What a snapshot brings a lane before its samples are timed: its module time (R209), the navigation data and the corrections (R140 to
R142). -/
def Work.takeHeader (s : State) (w : Work) (snap : Snapshot) (secs : List Section) : Work :=
  let tai : Int := (snap.taiS * secNs + snap.taiNs : Nat)
  let h : Nat × Int × Bool := (snap.strobeMono, tai - snap.strobeMono, snap.timeStatus.toNat.testBit 10)
  let c := w.core
  (w.setCore { c with offsets := (h :: c.offsets).take 33, gnss := c.gnss.takeNav secs }).rtcmStep s.config.active secs

/-- Fusion of one lane over its inputs of a frame: those of stored snapshots first (R205 to R245). The window of the first frame at a new
period is one old period long; from the next frame on a sample dated before that strobe is beyond the rewind window (R73). -/
def Work.fusionPhase (s : State) (w : Work) (snap : Snapshot) (subs : List Snapshot) (ps : List Parsed) (replayFrame : Bool) :
    Work :=
  let p := snap.periodMs
  let t0 := snap.strobeMono
  let old := if w.core.periodAt = t0 then w.core.oldPeriod else p
  let cut : Int := (t0 : Int) - old * msNs - 500000
  let gone (x : RefSample) : Bool := decide (w.core.periodAt ≠ t0) && decide (x.tm < w.core.periodAt)
  let secs := w.core.stored.flatMap (·.sections) ++ snap.sections
  let w := w.setCore { w.core with stored := [] }
  let w := (w.feedbacks s.config.active secs).takeHeader s snap secs
  let w := (w.learnClocks s secs ps).clockJumps s t0 (p * msNs)
  let xs := w.collect s secs ps (p * msNs) t0
  let w := w.setCore { w.core with gnss := w.core.gnss.takeEpochs (epochsOf secs) }
  let here := sortSamples (xs.filter fun x => cut ≤ x.tm && !gone x)
  let computed := w.core.ctl.depthFrames
  let w := (w.takeLate t0 (effectiveDepth p replayFrame computed) p cut (xs.filter fun x => x.tm < cut && !gone x)).discardLate t0
    (xs.filter gone)
  let entry : RewindEntry :=
    { frame := snap.frame, strobe := t0, fusion := w.core.fusion, samples := here, observer := w.core.engine.observerWords,
      dispatched := dispatchedForce s.config.active (dispatchedOf snap.sections), snapshot := some snap, subs := subs }
  let w := w.setCore { w.core with rewind := (entry :: w.core.rewind).take 32
                                   ctl := { w.core.ctl with depthFrames := computed + 1 } }
  let w := w.setCore { w.core with attitudes := w.core.attitudes.filter fun a => a.time ≤ t0 }
  ((w.fuse s t0 p false here).fixSiteOrigin s).provisionalOrigin s

/-- The inertial input of a lane: the latest motion sample of its first contributing unit, in vessel terms. -/
def Core.inertialInput (s : State) (c : Core) (secs : List Section) (ps : List Parsed) : Option (Int × Int × Int) :=
  let b := s.config.active
  ([20, 21, 22].filterMap fun i =>
    match b.ref? i with
    | none => none
    | some e =>
      if (c.ref i).contributes e.cls then
        let lg := b.leggett e.leggett
        match ((samplesOf secs e.source).map fun x => s.contents e ps e.source x.1 x.2).getLast? with
        | some (some { meas := .motion roll pitch _ _ _ r, .. }) => some (wrap32 (roll - lg.roll), wrap32 (pitch - lg.pitch), r)
        | _ => none
      else none).head?

/-- The default INERTIAL program for sub-frame k: heading carried on by the yaw rate, roll and pitch of the latest sample.
Slot k of the ring stands at 0x7100 + 32 k: heading, pitch, roll, rate. -/
def Engine.inertialDefault (e : Engine) (k p : Nat) (heading : Nat) : Engine :=
  let rate := e.int 0x7002
  let h := angleAdd heading (ofUrad (divRound (rate * (k * p : Nat)) 8000))
  e.setInts (0x7100 + 32 * k) [(h : Int), e.int 0x7001, e.int 0x7000, rate]

/-- The INERTIAL program of sub-frame k in one lane, and the ring copied for the frame (R277). -/
def Work.inertial (s : State) (w : Work) (k p t0 : Nat) (secs : List Section) (ps : List Parsed) : Work :=
  let c := w.core
  let e :=
    match c.inertialInput s secs ps with
    | none => c.engine
    | some (roll, pitch, r) => c.engine.setInts 0x7000 [roll, pitch, r, 1]
  let e := { e with inertialSub := k }
  let h := (c.fusion.fused.hdg.map (·.1)).getD (c.engine.word 0x1308).toNat
  let e :=
    match e.programOf 0 with
    | some prog => e.runProgram true prog
    | none => e.inertialDefault k p h
  let a : Attitude :=
    { time := t0 + k * p * msNs / 8, heading := (e.word (0x7100 + 32 * k)).toNat, pitch := e.int (0x7101 + 32 * k),
      roll := e.int (0x7102 + 32 * k), rate := e.int (0x7103 + 32 * k) }
  let w := w.setCore { c with engine := e }
  { w with lane := { w.lane with attitudes := (a :: w.lane.attitudes.filter fun b => b.time ≠ a.time).take 280 } }

/-- A CONVERSION program runs in the foreground (R92, R277). -/
def Engine.converting (e : Engine) : Bool :=
  match e.fg.slot with
  | none => false
  | some k => ((e.programAt k).map fun p => decide (p.cls = 5)).getD false

/-- The INERTIAL program of sub-frame k started: at once, or behind a CONVERSION program (R92, R277). -/
def Work.runInertial (s : State) (w : Work) (k p t0 : Nat) (secs : List Section) (ps : List Parsed) : Work :=
  if w.core.engine.converting then w.setCore { w.core with engine := { w.core.engine with inertialWaits := some (k, ps) } }
  else w.inertial s k p t0 secs ps

/-- Stored samples of the frame at position i of the buffer (0 the newest), with the late samples that belong to it. -/
def withLate (late : List (Nat × RefSample)) (entries : List RewindEntry) : List RewindEntry :=
  ((List.range entries.length).zip entries).map fun q =>
    { q.2 with samples := sortSamples (q.2.samples ++ ((late.filter fun x => x.1 = q.1).map (·.2))) }

/-- One stored frame recomputed: fusion from its stored samples, then the observer (R243). The first frame starts from the
stored prediction, a later one predicts from the frame before it. -/
def Work.recompute (s : State) (w : Work) (p : Nat) (first : Bool) (e : RewindEntry) : Work × RewindEntry :=
  let e := { e with fusion := w.core.fusion }
  let w := w.setCore { w.core with attitudes := w.lane.attitudes.filter fun a => a.time ≤ e.strobe }
  let w := w.fuse s e.strobe p true e.samples
  let eng := if first then w.core.engine.restoreObserver e.observer else w.core.engine
  let w := (w.setCore { w.core with engine := eng }).controlInputs s e.dispatched
  let eng := if first then w.core.engine else w.core.engine.predictStep
  let e := { e with observer := eng.observerWords }
  (w.setCore { w.core with engine := eng.correctStep }, e)

/-- A stored fusion state with the clock models and GST sentences learned since: a rewind loses none (R209, R243, R720). -/
def Fusion.withClocks (f now : Fusion) : Fusion :=
  { f with refs := (f.refs.zip now.refs).map fun p => { p.1 with clock := p.2.clock, gst := p.2.gst } }

/-- The changes of reference states a rewind has brought, with their events (R226). -/
def Work.tellChanges (w : Work) (old : Fusion) : Work :=
  (List.range 26).foldl (fun w i =>
    let a := old.refs.getD i .reset
    let b := w.core.ref i
    w.raiseIf (decide (a.shown ≠ b.shown)) 0x1001 [i, a.shown, b.shown, b.cause]) w

/-- The retroactive rewind of the background window: the samples inserted are applied, their failures counted, RETRO_APPLIED shows their
references, and the numeric bits go to the next frame's word (R203, R223, R241 to R244, R262). -/
def Work.rewind (s : State) (w : Work) (p : Nat) : Work :=
  let c := w.core
  if c.late.isEmpty ∨ c.rewind.isEmpty then w
  else
    let head := c.rewind.head?.map (·.strobe) |>.getD 0
    let cut : Int := (head : Int) - p * msNs - 500000
    let late := c.late.map fun x => (min (sampleDepth cut x.tm p - 1) (c.rewind.length - 1), x)
    let k := late.foldl (fun m x => max m x.1) 0
    let entries := withLate late c.rewind
    let todo := (entries.take (k + 1)).reverse
    let f0 := (((todo.head?.map (·.fusion))).getD c.fusion).withClocks c.fusion
    let st := c.engine.status
    let w0 := w.setCore { c with fusion := f0, engine := { c.engine with status := c.engine.nextStatus } }
    let r := todo.foldl (fun (a : Work × List RewindEntry × Bool) e =>
      let x := a.1.recompute s p a.2.2 e
      (x.1, { x.2 with samples := x.2.samples.map fun y => { y with retro := false } } :: a.2.1, false)) (w0, [], true)
    let eng := { r.1.core.engine with status := st, nextStatus := r.1.core.engine.status }
    let w1 := r.1.setCore { r.1.core with rewind := r.2.1 ++ entries.drop (k + 1), late := [], attitudes := c.attitudes, engine := eng }
    let w2 := ({ w1 with events := w.events } : Work).tellChanges c.fusion
    let w3 := (List.range 26).foldl (fun w i =>
      w.onRef i fun (y : RefState) => { y with retro := c.late.any fun x => decide (x.ref = i) }) w2
    c.late.foldl (fun w x => w.count (ctrRetro x.ref)) w3

/-- The shadow of a Leggett entry. -/
def Core.shadow? (c : Core) (e : Nat) : Option Shadow := c.shadows.find? fun x => x.entry = e

/-- A shadow that starts at the active entry (R250). -/
def Shadow.start (lg : Leggett) (e now : Nat) : Shadow :=
  { entry := e, x := lg.x, y := lg.y, stopped := false, sumX := 0, sumY := 0, sumXX := 0, sumXY := 0, sumYY := 0, count := 0,
    lastStep := now }

/-- A shadow written into the list, entries rising. -/
def putShadow (xs : List Shadow) (x : Shadow) : List Shadow :=
  xs.filter (fun y => y.entry < x.entry) ++ [x] ++ xs.filter fun y => x.entry < y.entry

/-- The differences of a frame taken into the regression of every refined reference (R247). -/
def Work.refine (s : State) (w : Work) (now : Nat) : Work :=
  if s.paramN 0x10060001 = 0 ∨ w.core.ctl.mode.isDp = false then w
  else
    let b := s.config.active
    let accepted := (List.range 16).filter fun i => (b.ref? i).any (fun e => e.cls ≠ 3) ∧ (w.core.ref i).shown = 0
    let cs := contributors b w.core.fusion 0 16
    (List.range 16).foldl (fun w i =>
      match b.ref? i with
      | none => w
      | some e =>
        let lg := b.leggett e.leggett
        if lg.refine ∧ accepted.contains i ∧ 3 ≤ accepted.length then
          let f := w.core.fusion
          match othersMean f cs i (·.estA), othersMean f cs i (·.estB) with
          | some oa, some ob =>
            let r := w.core.ref i
            let (psi, th, ph) := w.core.attitude now
            match rotationC psi th ph with
            | [r1, r2, _] =>
              let dn := r.estA - oa
              let de := r.estB - ob
              let x := (w.core.shadow? e.leggett).getD (Shadow.start lg e.leggett now)
              let x :=
                { x with
                  sumX := x.sumX + (r1.1 * dn + r2.1 * de)
                  sumY := x.sumY + (r1.2.1 * dn + r2.2.1 * de)
                  sumXX := x.sumXX + (r1.1 * r1.1 + r2.1 * r2.1)
                  sumXY := x.sumXY + (r1.1 * r1.2.1 + r2.1 * r2.2.1)
                  sumYY := x.sumYY + (r1.2.1 * r1.2.1 + r2.2.1 * r2.2.1)
                  count := x.count + 1 }
              w.setCore { w.core with shadows := putShadow w.core.shadows x }
            | _ => w
          | _, _ => w
        else w) w

/-- The correction of ARM_X and ARM_Y the regression estimates, 0.1 mm: the least-squares solution of its normal equations (R247). -/
def Shadow.estimate (x : Shadow) : Option (Int × Int) :=
  let det := x.sumXX * x.sumYY - x.sumXY * x.sumXY
  if x.count = 0 ∨ det ≤ 0 then none
  else
    some (divRound ((x.sumYY * x.sumX - x.sumXY * x.sumY) * 1073741824) det.toNat,
      divRound ((x.sumXX * x.sumY - x.sumXY * x.sumX) * 1073741824) det.toNat)

/-- One step of every running shadow, 6 s or more after the one before: at most 1 LSB per component towards the estimate; at 5000 LSB from the active value
refinement of the entry stops (R248, R249). -/
def Work.shadowStep (s : State) (w : Work) (now : Nat) : Work :=
  if s.paramN 0x10060001 = 0 ∨ w.core.ctl.mode.isDp = false then w
  else
    w.core.shadows.foldl (fun w x =>
      let lg := s.config.active.leggett x.entry
      match x.stopped || decide (now < x.lastStep + 6 * secNs), x.estimate with
      | false, some d =>
        let nx := x.x + clampInt (-1) 1 (lg.x + d.1 - x.x)
        let ny := x.y + clampInt (-1) 1 (lg.y + d.2 - x.y)
        let stop : Bool := 5000 ≤ (nx - lg.x).natAbs ∨ 5000 ≤ (ny - lg.y).natAbs
        let x' : Shadow := { Shadow.start lg x.entry now with x := nx, y := ny, stopped := stop }
        (w.setCore { w.core with shadows := putShadow w.core.shadows x' }).raiseIf stop 0x100A [x.entry]
      | _, _ => w) w

/-- The observer and control phase of a computed frame (R281, R288). -/
def Work.observerPhase (s : State) (w : Work) (snap : Snapshot) : Work :=
  w.observerControl s snap.sections snap.periodMs

/-- Event 0x2001 at the first frame of an episode with a bit of 9:0 set (R303). -/
def Work.numericEvent (w : Work) : Work :=
  let e := w.core.engine
  let r := episodeStep e.episode (decide (e.status.toNat % 1024 ≠ 0))
  (w.setCore { w.core with engine := { e with episode := r.1 } }).raiseIf r.2 0x2001 [e.status.toNat]

end Sys2Proof.Machine
end

