-- ==== Sys2Proof/Machine/BattenRows.lean ====
section
/-!
DEFINITION. Starting and ending Batten programs, and every instruction as a command (R254 to R279).
-/

namespace Sys2Proof.Machine

/-- Counter of foreground starts refused (R276). -/
def ctrBattenFull : Nat := 0x20F00001

/-- The engine of a running lane changed. -/
def State.onEngine (s : State) (l : LaneId) (f : Engine → Engine) : State :=
  if (s.lane l).runs then
    s.setLane l { s.lane l with core := { (s.lane l).core with engine := f (s.lane l).core.engine } }
  else s

/-- A program at its END: the context is free, the next foreground start begins (R276). -/
def Engine.finish (e : Engine) (inertial : Bool) : Engine :=
  let e := e.setCtx inertial { e.ctx inertial with slot := none }
  if inertial then e
  else
    match e.queue with
    | [] => e
    | k :: rest => { e.setCtx false (e.fg.start k) with queue := rest }

/-- The motion samples a sub-frame uses: those of the frame snapshot for sub-frame 0, else of its sub-snapshot (R91). -/
def Lane.motionSections (x : Lane) (k : Nat) : List Section :=
  if k = 0 then (x.held.map (·.sections)).getD [] else (x.subs.getLast?.map (·.sections)).getD []

/-- The inertial program of a sub-frame in one lane. -/
def Work.startInertial (s : State) (w : Work) (k : Nat) (ps : List Parsed) : Work :=
  w.runInertial s k s.frame.period s.frame.strobe (w.lane.motionSections k) ps

/-- A program of a context is over: the next foreground start begins, behind an inertial start that the CONVERSION program held back
(R276, R277). A CONVERSION that is aborted lets it start too (DEDUCED, log 117). -/
def Work.endProgram (s : State) (w : Work) (inertial : Bool) : Work :=
  let e := w.core.engine
  match inertial, e.inertialWaits with
  | false, some (k, ps) =>
    let idle := w.setCore { w.core with engine := { e.setCtx false { e.fg with slot := none } with inertialWaits := none } }
    let w1 := idle.startInertial s k ps
    w1.setCore { w1.core with engine := w1.core.engine.finish false }
  | _, _ => w.setCore { w.core with engine := e.finish inertial }

/-- An uncorrectable engine memory error aborts the running program (R279). -/
def Work.abortProgram (s : State) (w : Work) (inertial : Bool) (code : Nat) : Work :=
  let w := w.endProgram s inertial
  let w := w.setCore { w.core with engine := { w.core.engine with fault := true } }
  ({ w with lane := { w.lane with engineFault := true } }).raise 0x2005 [code]

/-- One instruction run by a lane's engine, and the context moved on; or the program aborted. -/
def State.battenOp (s : State) (r : BRun) (op : Nat) (f : BFields) (run : Engine → RunAs → BInstr → Engine) : State :=
  if r.fault ∧ (s.lane r.lane).runs then s.laneWork r.lane fun w => w.abortProgram s r.inertial r.lane.code
  else
    let i : BInstr :=
      { op := op, fmt := f.fmt, acc := f.acc, osh := f.osh, mod := f.mod, dst := f.dst, srca := f.srca, srcb := f.srcb }
    s.onEngine r.lane fun e => (run e { inertial := r.inertial, cls := r.cls, slot := r.slot } i).advance r.inertial

/-- The rest of the program a context runs, up to END. -/
def Engine.runOut (e : Engine) (inertial : Bool) : Engine :=
  let c := e.ctx inertial
  match c.slot with
  | none => e
  | some k =>
    match e.programAt k with
    | none => e
    | some p => e.runCode { inertial := inertial, cls := p.cls, slot := k } (p.code.drop c.pc)

/-- BATTEN_START: a foreground start requested by a lane core; a fifth waiting one is refused (R276). -/
def execBattenStart (lane : LaneId) (slot : Nat) (s : State) : Result :=
  let e := (s.lane lane).core.engine
  if e.fg.slot = none then .next (s.onEngine lane fun e => e.setCtx false (e.fg.start slot))
  else if e.queue.length < 4 then .next (s.onEngine lane fun e => { e with queue := e.queue ++ [slot] })
  else if (s.lane lane).runs then .next (s.laneWork lane fun w => (w.count ctrBattenFull).raise 0x2004 [lane.code, slot])
  else .next s

/-- BATTEN_PROGRAM_END: the running program reaches END; a held inertial start and the next foreground start begin (R276, R277). -/
def execBattenProgramEnd (lane : LaneId) (inertial : Bool) (s : State) : Result :=
  if (s.lane lane).runs = false then .next s
  else
    .next <| s.laneWork lane fun w =>
      (w.setCore { w.core with engine := w.core.engine.runOut inertial } : Work).endProgram s inertial

/-- INERTIAL_START: the INERTIAL program of sub-frame k in each lane; behind a CONVERSION program it waits (R92, R277). -/
def execInertialStart (t k : Nat) (ps : List Parsed) (s : State) : Result :=
  .next ((s.tick t).lanesWork fun s w => w.startInertial s k ps)

/-- NOP (R266). -/
def execNop (r : BRun) (f : BFields) (s : State) : Result := .next (s.battenOp r 0x00 f fun e _ _ => e.opNop)

/-- SHAPE (R264). -/
def execShape (r : BRun) (f : BFields) (s : State) : Result := .next (s.battenOp r 0x01 f Engine.opShape)

/-- END ends the program; with an engine memory error it ends aborted (R266, R279). -/
def execEndProg (r : BRun) (_f : BFields) (s : State) : Result :=
  if r.fault ∧ (s.lane r.lane).runs then .next (s.laneWork r.lane fun w => w.abortProgram s r.inertial r.lane.code)
  else if (s.lane r.lane).runs then
    .next <| s.laneWork r.lane fun w =>
      (w.setCore { w.core with engine := w.core.engine.advance r.inertial } : Work).endProgram s r.inertial
  else .next s

/-- MOVC (R266). -/
def execMovc (r : BRun) (f : BFields) (s : State) : Result := .next (s.battenOp r 0x04 f Engine.opMovc)

/-- MOVD (R266). -/
def execMovd (r : BRun) (f : BFields) (s : State) : Result := .next (s.battenOp r 0x05 f Engine.opMovd)

/-- MVC (R266). -/
def execMvc (r : BRun) (f : BFields) (s : State) : Result := .next (s.battenOp r 0x08 f Engine.opMvc)

/-- MVD (R266). -/
def execMvd (r : BRun) (f : BFields) (s : State) : Result := .next (s.battenOp r 0x09 f Engine.opMvd)

/-- MMC (R266). -/
def execMmc (r : BRun) (f : BFields) (s : State) : Result := .next (s.battenOp r 0x0A f Engine.opMmc)

/-- MMD (R266). -/
def execMmd (r : BRun) (f : BFields) (s : State) : Result := .next (s.battenOp r 0x0B f Engine.opMmd)

/-- VSCL (R266). -/
def execVscl (r : BRun) (f : BFields) (s : State) : Result := .next (s.battenOp r 0x0C f Engine.opVscl)

/-- VADD (R266). -/
def execVadd (r : BRun) (f : BFields) (s : State) : Result := .next (s.battenOp r 0x10 f Engine.opVadd)

/-- VSUB (R266). -/
def execVsub (r : BRun) (f : BFields) (s : State) : Result := .next (s.battenOp r 0x11 f Engine.opVsub)

/-- VMUL (R266). -/
def execVmul (r : BRun) (f : BFields) (s : State) : Result := .next (s.battenOp r 0x12 f Engine.opVmul)

/-- VABS (R266). -/
def execVabs (r : BRun) (f : BFields) (s : State) : Result := .next (s.battenOp r 0x14 f Engine.opVabs)

/-- VCLMP (R266). -/
def execVclmp (r : BRun) (f : BFields) (s : State) : Result := .next (s.battenOp r 0x15 f Engine.opVclmp)

/-- VSEL (R266). -/
def execVsel (r : BRun) (f : BFields) (s : State) : Result := .next (s.battenOp r 0x16 f Engine.opVsel)

/-- VCGT (R266). -/
def execVcgt (r : BRun) (f : BFields) (s : State) : Result := .next (s.battenOp r 0x17 f Engine.opVcgt)

/-- RLIM (R266). -/
def execRlim (r : BRun) (f : BFields) (s : State) : Result := .next (s.battenOp r 0x18 f Engine.opRlim)

/-- BLND (R266). -/
def execBlnd (r : BRun) (f : BFields) (s : State) : Result := .next (s.battenOp r 0x19 f Engine.opBlnd)

/-- SINCOS (R267). -/
def execSincos (r : BRun) (f : BFields) (s : State) : Result := .next (s.battenOp r 0x20 f Engine.opSincos)

/-- ROT2 (R267). -/
def execRot2 (r : BRun) (f : BFields) (s : State) : Result := .next (s.battenOp r 0x21 f Engine.opRot2)

/-- DIV (R267). -/
def execDiv (r : BRun) (f : BFields) (s : State) : Result := .next (s.battenOp r 0x22 f Engine.opDiv)

/-- ISQRT (R267). -/
def execIsqrt (r : BRun) (f : BFields) (s : State) : Result := .next (s.battenOp r 0x23 f Engine.opIsqrt)

/-- TBL (R268). -/
def execTbl (r : BRun) (f : BFields) (s : State) : Result := .next (s.battenOp r 0x24 f Engine.opTbl)

/-- ATAN2 (R267). -/
def execAtan2 (r : BRun) (f : BFields) (s : State) : Result := .next (s.battenOp r 0x25 f Engine.opAtan2)

end Sys2Proof.Machine
end

