-- ==== Sys2Proof/Machine/Bulk.lean ====
section
/-!
DEFINITION. Bulk transfers, identified by the handle of their operation (R594 to R596), and their chunks on the Eaves links
(R36, R41, R597, R598, R601).
-/

namespace Sys2Proof.Machine

/-- The transfer of a handle. -/
def State.bulk? (s : State) (h : Nat) : Option Bulk := s.host.bulks.find? fun b => b.handle = h

/-- A transfer changed. -/
def State.onBulk (s : State) (h : Nat) (f : Bulk → Bulk) : State :=
  { s with host.bulks := s.host.bulks.map fun (b : Bulk) => if b.handle = h then f b else b }

/-- Transfers of a direction that run. -/
def State.runningBulks (s : State) (toHost : Bool) : Nat :=
  (s.host.bulks.filter fun b => b.running && decide (b.toHost = toHost)).length

/-- The end of the data of a transfer. -/
def Bulk.end_ (b : Bulk) : Nat := b.base + b.data.length

/-- Bytes of a transfer in the Bulk buffer of the host side: crossed and not freed, or written and not crossed (R594 to R596). -/
def Bulk.buffered (b : Bulk) : Nat := if b.toHost then b.sent - b.base else b.end_ - b.sent

/-- The next chunk of a transfer: up to 8192 bytes from the first that has not crossed (R594). -/
def Bulk.chunk (b : Bulk) : List Byte := (b.data.drop (b.sent - b.base)).take 8192

/-- A Bulk class by direction. -/
def Eaves.bulkClass (e : Eaves) (toHost : Bool) : EavesClass := if toHost then e.bulkUp else e.bulkDown

/-- Whether a transfer can send a chunk: it runs, has data that have not crossed, its 4 MiB of the host side's buffer has room, and its
class has credit (R594, R596, R598). -/
def State.chunkReady (s : State) (b : Bulk) : Bool :=
  b.running && decide (b.sent < b.end_) && (!b.toHost || decide (b.buffered + b.chunk.length ≤ 4194304))
    && decide (packetCredits b.chunk.length ≤ (s.eaves.bulkClass b.toHost).credits)

/-- Command, Reply and Event packets that wait and could go go first (R41, R601). -/
def State.othersWait (s : State) (toHost : Bool) : Bool :=
  if toHost then !s.eaves.waitingReplies.isEmpty || !s.eaves.heldCompletions.isEmpty
  else
    match s.eaves.waitingCommands with
    | [] => false
    | c :: _ => (opInfo? c.opcode).any fun o => s.canCross o c.payload

/-- One chunk of a transfer crosses; LAST on the last one of a transfer to the host (R597). -/
def State.sendChunk (s : State) (b : Bulk) : State :=
  let n := b.chunk.length
  let last : Bool := b.toHost && decide (b.sent + n = b.end_)
  let put (c : EavesClass) : EavesClass := c.send s.eaves.link0.up s.eaves.link1.up (b2n last) b.handle b.chunk
  let s1 : State :=
    if b.toHost then { s with eaves.bulkUp := put s.eaves.bulkUp } else { s with eaves.bulkDown := put s.eaves.bulkDown }
  s1.onBulk b.handle fun x => { x with sent := x.sent + n }

/-- Chunks cross as long as a link is up, nothing else waits, and a transfer is ready, fuel at most. -/
def State.pumpBulk : Nat → State → State
  | 0, s => s
  | n + 1, s =>
    if !s.linkUp then s
    else
      match s.host.bulks.find? fun b => s.chunkReady b && !s.othersWait b.toHost with
      | none => s
      | some b => State.pumpBulk n (s.sendChunk b)

/-- All the chunks that can cross now: each takes credit, so that no more than the credit of both directions can. -/
def State.sendBulk (s : State) : State := s.pumpBulk (s.eaves.bulkUp.credits + s.eaves.bulkDown.credits)

/-- A transfer opened; beyond three of its direction its data waits (R596). -/
def State.openBulk (s : State) (h : Nat) (toHost : Bool) (data : List Byte) : State :=
  ({ s with host.bulks := s.host.bulks ++
      [{ handle := h, toHost := toHost, running := s.runningBulks toHost < 3, base := 0, data := data, finished := false,
         lastAccess := s.now, sent := 0 }] } : State).sendBulk

/-- The oldest waiting transfer of a direction starts when fewer than three run (R596). -/
def State.startWaiting (s : State) (toHost : Bool) : State :=
  if 3 ≤ s.runningBulks toHost then s
  else
    match s.host.bulks.find? fun b => !b.running && !b.finished && decide (b.toHost = toHost) with
    | none => s
    | some b => (s.onBulk b.handle fun x => { x with running := true, lastAccess := s.now }).sendBulk

/-- A transfer ended: its buffer is freed and a waiting one starts. -/
def State.closeBulk (s : State) (h : Nat) : State :=
  match s.bulk? h with
  | none => s
  | some b => { s with host.bulks := s.host.bulks.filter fun x => x.handle ≠ h }.startWaiting b.toHost

/-- The data of a transfer from the host, as far as it has crossed. -/
def State.bulkData (s : State) (h : Nat) : List Byte := ((s.bulk? h).map fun b => b.data.take b.sent).getD []

/-- An operation completes and its transfer from the host ends. -/
def State.finishBulk (s : State) (h final : Nat) (result : List Byte) : State :=
  (s.closeBulk h).finish h final result

end Sys2Proof.Machine
end

