-- ==== Sys2Proof/Machine/SafetyUnit.lean ====
section
/-!
DEFINITION. The safety unit: circuits, permits, test pulses, cross-compare, Xiros reception (R409 to R458).
-/

namespace Sys2Proof.Machine

/-- The unit is in RUN. -/
def SafetyUnit.running (u : SafetyUnit) : Bool := u.su = .run

/-- A channel of the unit. -/
def SafetyUnit.chan (u : SafetyUnit) : Chan → SafetyChannel
  | .x => u.x
  | .y => u.y

/-- A channel changed. -/
def SafetyUnit.onChan (u : SafetyUnit) (c : Chan) (f : SafetyChannel → SafetyChannel) : SafetyUnit :=
  match c with
  | .x => { u with x := f u.x }
  | .y => { u with y := f u.y }

/-- The other channel. -/
def Chan.other : Chan → Chan
  | .x => .y
  | .y => .x

/-- Channel code in events: 0 X, 1 Y. -/
def Chan.code : Chan → Nat
  | .x => 0
  | .y => 1

/-- A byte of a stored entry; an entry not stored reads as 0. -/
def entryField (t : List (Nat × List Byte)) (i o n : Nat) : Nat :=
  match assoc t i with
  | none => 0
  | some b => field b o n

/-- Mode of a circuit (R417). -/
def SafetyChannel.mode (c : SafetyChannel) (i : Nat) : Nat := entryField c.tables.circuits i 0 1

/-- Discrepancy time T of a circuit in ticks (R422). -/
def SafetyChannel.discTime (c : SafetyChannel) (i : Nat) : Nat := entryField c.tables.circuits i 2 2

/-- The filtered state of an input: closed. -/
def SafetyChannel.input (c : SafetyChannel) (i : Nat) : Bool := c.inputs.getD i false

/-- The two inputs of a circuit (R417). -/
def SafetyChannel.circuitInputs (c : SafetyChannel) (i : Nat) : Bool × Bool :=
  if c.mode i = 3 then
    let e := entryField c.tables.circuits i 1 1
    (c.input (12 + 2 * (e - 1)), c.input (13 + 2 * (e - 1)))
  else (c.input (2 * i), c.input (2 * i + 1))

/-- A circuit of a channel. -/
def SafetyChannel.circuit (c : SafetyChannel) (i : Nat) : Circuit := c.circuits.getD i .reset

/-- A permit of a channel. -/
def SafetyChannel.permit (c : SafetyChannel) (p : Nat) : Permit := c.permits.getD p .reset

/-- A connection of a channel. -/
def SafetyChannel.conn (c : SafetyChannel) (i : Nat) : Conn := c.conns.getD i .reset

/-- State code of a circuit (R421, R424). -/
def Circuit.code (k : Circuit) (a b : Bool) : Nat :=
  if k.latched ≠ 0 then k.latched
  else if a && b && k.together then 0 else 1

/-- State code of circuit i in a channel. -/
def SafetyChannel.circuitCode (c : SafetyChannel) (i : Nat) : Nat :=
  let (a, b) := c.circuitInputs i
  (c.circuit i).code a b

/-- A discrepancy fault latched (R423); its sequence of R425 begins. -/
def Circuit.latchDiscrepancy (k : Circuit) (a b : Bool) : Circuit :=
  { k with
    latched := if k.latched = 0 then 2 else k.latched
    sequence := 0
    moving := false
    together := if a = b then a else k.together }

/-- The end of a normal transition, with the sequence of R425. -/
def Circuit.endNormal (k : Circuit) (a : Bool) : Circuit :=
  { k with
    together := a
    moving := false
    sequence := if k.latched = 0 then 0 else if !a then 1 else if k.sequence = 1 then 2 else k.sequence }

/-- One tick of a circuit with discrepancy time T (R422 to R425). -/
def Circuit.tick (k : Circuit) (T : Nat) (a b : Bool) : Circuit :=
  if k.latched ≠ 0 ∧ k.sequence = 0 then
    if !a && !b then { k with sequence := 1, together := false, moving := false, count := 0 } else k
  else
    let differs := a ≠ k.together ∨ b ≠ k.together
    let k1 :=
      if k.moving then { k with count := k.count + 1 }
      else if differs then { k with moving := true, count := 0 }
      else k
    if !k1.moving then k1
    else if T ≤ k1.count then k1.latchDiscrepancy a b
    else if a = b ∧ a ≠ k1.together then k1.endNormal a
    else k1

/-- A wiring fault latched (R428, R419). -/
def Circuit.latchWiring (k : Circuit) (kind : Nat) : Circuit :=
  if k.latched ≠ 0 then k else { k with latched := 3, kind := kind, sequence := 0, moving := false }

/-- The OK bits a permit asks of connection c (R451). -/
def SafetyChannel.remote (ch : SafetyChannel) (p c : Nat) : Nat := entryField ch.tables.permits p (4 + c) 1

/-- Whether the connections named by a permit allow it (R430, R447). -/
def SafetyChannel.remoteOk (ch : SafetyChannel) (p : Nat) : Bool :=
  (List.range 16).all fun c =>
    let m := ch.remote p c
    m = 0 || ((ch.conn c).st = .run && u8 (ch.conn c).data 0 &&& m = m)

/-- Whether every circuit of a permit is CLOSED (R430). -/
def SafetyChannel.circuitsOk (ch : SafetyChannel) (p : Nat) : Bool :=
  (List.range 4).all fun i => !bit (entryField ch.tables.permits p 1 1) i || ch.circuitCode i = 0

/-- Feedback monitoring of a permit (R434). -/
def SafetyChannel.fbEnabled (ch : SafetyChannel) (p : Nat) : Bool := bit (entryField ch.tables.permits p 0 1) 1

/-- Whether a permit is enabled (R430). -/
def SafetyChannel.enabled (ch : SafetyChannel) (p : Nat) : Bool := bit (entryField ch.tables.permits p 0 1) 0

/-- The first condition of R430, beside the reset, that keeps permit p off: 0 none, 1 unit not in RUN or p not enabled,
2 circuit, 3 connection, 4 contactor fault, 5 feedback not closed before switching on, 6 supply loss. -/
def SafetyChannel.blocked (ch : SafetyChannel) (run : Bool) (p : Nat) : Nat :=
  if !run || !ch.enabled p then 1
  else if !ch.circuitsOk p then 2
  else if !ch.remoteOk p then 3
  else if (ch.permit p).contactorFault then 4
  else if ch.fbEnabled p && !(ch.permit p).on && !ch.input (8 + p) then 5
  else if ch.supplyLoss then 6
  else 0

/-- A permit switched by a channel at a time; its feedback is awaited anew (R434). -/
def Permit.switch (k : Permit) (now : Nat) (on : Bool) : Permit :=
  if k.on = on then k else { k with on := on, followed := false, switchedAt := some now }

/-- Feedback of a permit at a tick: it follows, or it changes while the permit does not (R434). -/
def Permit.feedback (k : Permit) (closed : Bool) : Permit :=
  if closed ≠ k.on then { k with followed := true, switchedAt := none }
  else if k.followed then { k with contactorFault := true, followed := false }
  else k

/-- Feedback and conditions of every permit in a channel at a tick (R430, R434). -/
def SafetyChannel.permitsStep (ch : SafetyChannel) (run : Bool) (now : Nat) : SafetyChannel :=
  (List.range 4).foldl (fun (c : SafetyChannel) p =>
    let c1 := if c.fbEnabled p then { c with permits := setAt c.permits p fun k => k.feedback (c.input (8 + p)) } else c
    if c1.blocked run p = 0 then c1 else { c1 with permits := setAt c1.permits p fun k => k.switch now false }) ch

/-- A connection in FAULT passes to INIT at the next tick (R444). -/
def Conn.tick (k : Conn) : Conn := if k.st = .fault then { Conn.reset with resetBit := k.resetBit } else k

/-- The stored tables taken at the tick after the swap (R452); changed connections start anew. -/
def SafetyChannel.swap (c : SafetyChannel) : SafetyChannel :=
  match c.staged with
  | some tb =>
    if c.swapDue then
      { c with
        tables := tb
        staged := none
        swapDue := false
        conns := c.conns.zipIdx.map fun p => if assoc tb.conns p.2 = assoc c.tables.conns p.2 then p.1 else .reset }
    else c
  | none => { c with swapDue := false }

/-- A tick of one channel (R421 to R424, R430, R434, R444, R452). -/
def SafetyChannel.tick (c : SafetyChannel) (run : Bool) (now : Nat) : SafetyChannel :=
  let c1 := c.swap
  let c2 := { c1 with conns := c1.conns.map Conn.tick }
  let c3 := (List.range 4).foldl (fun (c : SafetyChannel) i =>
    if c.mode i = 0 then c
    else
      let (a, b) := c.circuitInputs i
      { c with circuits := setAt c.circuits i fun k => k.tick (c.discTime i) a b }) c2
  c3.permitsStep run now

/-- A run permit is on only while both switches are (R412). -/
def SafetyUnit.permitOn (u : SafetyUnit) (p : Nat) : Bool := (u.x.permit p).on && (u.y.permit p).on

/-- Whether any run permit is on. -/
def SafetyUnit.anyPermitOn (u : SafetyUnit) : Bool := (List.range 4).any u.permitOn

/-- The fault latched for a circuit in either channel (R441). -/
def SafetyUnit.faultOf (u : SafetyUnit) (i : Nat) : Nat := max (u.x.circuit i).latched (u.y.circuit i).latched

/-- Code of a connection state in events: 0 INIT, 1 RUN, 2 FAULT. -/
def ConnState.code : ConnState → Nat
  | .init => 0
  | .run => 1
  | .fault => 2

/-- The events of R458 that a change of the unit raises: permits, circuit faults, contactor faults, supply, connections.
`cause` goes with permit events. -/
def safetyEvents (old new : SafetyUnit) (cause : Nat) : List (Nat × List Nat) :=
  ((List.range 4).filterMap fun p =>
      if old.permitOn p = new.permitOn p then none
      else some (0x5002, [p + 1, b2n (new.permitOn p), cause]))
    ++ ((List.range 4).filterMap fun i =>
      let a := old.faultOf i
      let b := new.faultOf i
      if a = b then none
      else if a = 3 ∨ b = 3 then
        some (0x5003, [i + 1, max (new.x.circuit i).kind (new.y.circuit i).kind, b2n (b = 3)])
      else some (0x5008, [i + 1, b2n (b = 2)]))
    ++ ((List.range 4).filterMap fun p =>
      let a := (old.x.permit p).contactorFault || (old.y.permit p).contactorFault
      let b := (new.x.permit p).contactorFault || (new.y.permit p).contactorFault
      if a = b then none else some (0x5004, [p + 1, b2n b]))
    ++ (let a := old.x.supplyLow || old.y.supplyLow
        let b := new.x.supplyLow || new.y.supplyLow
        if a = b then [] else [(0x5005, [b2n b])])
    ++ (let a := old.x.supplyLoss || old.y.supplyLoss
        let b := new.x.supplyLoss || new.y.supplyLoss
        if a = b then [] else [(0x5006, [b2n b])])
    ++ ((List.range 16).filterMap fun c =>
      if (old.x.conn c).st = (new.x.conn c).st then none else some (0x5007, [c, (new.x.conn c).st.code]))

/-- The unit changed, with its events. -/
def State.setSafety (s : State) (u : SafetyUnit) (cause : Nat) : State :=
  (safetyEvents s.safety u cause).foldl (fun s e => s.raise e.1 e.2) { s with safety := u }

/-- Every permit off in a channel. -/
def SafetyChannel.allOff (c : SafetyChannel) (now : Nat) : SafetyChannel :=
  { c with permits := c.permits.map fun k => k.switch now false }

/-- SAFE-FAULT entered with channel and cause, every permit off in both channels (R414, R415). Causes: 1 cross-compare,
2 switch test, 3 clock or tick, 4 configuration, 5 self-test, 6 serial mismatch, 7 memory, 8 program flow, 9 watchdog (log 64). -/
def State.safeFault (s : State) (c : Chan) (cause : Nat) : State :=
  if s.safety.su = .safeFault then s
  else
    (s.setSafety { s.safety with su := .safeFault, x := s.safety.x.allOff s.now, y := s.safety.y.allOff s.now } 1).raise
      0x5001 [c.code, cause]

/-- A channel stepped at a tick: the cause is the first blocked permit's. -/
def SafetyUnit.tickCause (u : SafetyUnit) (c : Chan) : Nat :=
  ((List.range 4).findSome? fun p =>
    let b := (u.chan c).blocked u.running p
    if b = 0 ∨ b = 1 then none else some b).getD 1

/-- Whether a SIN input reads closed, from its voltage (mV) and current (µA); between the limits it keeps its reading (R418). -/
def sinReads (closed : Bool) (mv ua : Nat) : Bool :=
  if 11000 ≤ mv ∧ 2000 ≤ ua then true else if mv ≤ 5000 ∨ ua ≤ 1500 then false else closed

/-- SAFETY_INPUT_ACCEPT: the voltage (mV) and current (µA) in which 300 consecutive samples agree; a line break or short of a NAMUR input is
a wiring fault (R418 to R420). -/
def execSafetyInputAccept (t : Nat) (c : Chan) (input mv ua : Nat) (s : State) : Result :=
  let s := s.tick t
  let namur : Bool := 12 ≤ input
  let u := s.safety.onChan c fun k =>
    let k1 := { k with inputs := setAt k.inputs input fun x => if namur then namurReads x ua else sinReads x mv ua }
    if namur && namurFault ua then
      (List.range 4).foldl (fun (k : SafetyChannel) i =>
        let e := entryField k.tables.circuits i 1 1
        if k.mode i = 3 ∧ (input = 12 + 2 * (e - 1) ∨ input = 13 + 2 * (e - 1)) then
          { k with circuits := setAt k.circuits i fun x => x.latchWiring 5 }
        else k) k1
    else k1
  .next (s.setSafety u 2)

/-- The tick at which the count of a circuit reaches T: the discrepancy fault is latched (R423). -/
def execDiscrepancyFault (t : Nat) (c : Chan) (i : Nat) (s : State) : Result :=
  let s := s.tick t
  let u := s.safety.onChan c fun k =>
    let x := k.circuit i
    let (a, b) := k.circuitInputs i
    if k.mode i ≠ 0 ∧ x.moving ∧ k.discTime i ≤ x.count + 1 then
      ({ k with circuits := setAt k.circuits i fun x => ({ x with count := x.count + 1 }).latchDiscrepancy a b }).permitsStep
        s.safety.running s.now
    else k
  .next (s.setSafety u 2)

/-- A counter of test-pulse observations per circuit (R458). -/
def ctrPulse (i : Nat) : Nat := 0x50F10000 + i

/-- What a pulse of source 1 or 2 shows for a circuit in PULSED mode: short, cross-short (R428). -/
def Circuit.pulse (k : Circuit) (source : Nat) (a b dropA dropB : Bool) : Circuit × Bool :=
  if source = 1 then
    let short := a && !dropA
    let cross := b && dropB
    let k1 := if short && k.obsShortA then k.latchWiring 1 else k
    let k2 := if cross && k.obsCrossB then k1.latchWiring 3 else k1
    ({ k2 with obsShortA := short, obsCrossB := cross }, short || cross)
  else
    let short := b && !dropB
    let cross := a && dropA
    let k1 := if short && k.obsShortB then k.latchWiring 2 else k
    let k2 := if cross && k.obsCrossA then k1.latchWiring 3 else k1
    ({ k2 with obsShortB := short, obsCrossA := cross }, short || cross)

/-- A pulse of a source is due: TP1 every 20 ms, TP2 once 10 ms after the rising edge of the TP1 pulse, by clocks within 2 % (R410,
R427). -/
def SafetyChannel.pulseDue (k : SafetyChannel) (source now : Nat) : Bool :=
  match source, k.pulse1At with
  | 1, none => true
  | 1, some p => decide (p + 19600 * usNs ≤ now)
  | _, none => false
  | _, some p => decide (p + 10000 * usNs ≤ now) && (k.pulse2At.all fun q => decide (q < p))

/-- A test pulse of a source as a channel sees it: the inputs that drop, and whether the source's readback is right (R427 to R429). Pulses
run while a circuit is in PULSED mode; an input that reads open is not checked. -/
def execTestPulse (t : Nat) (c : Chan) (source : Nat) (dropped : List Nat) (sourceOk : Bool) (s : State) : Result :=
  let s := s.tick t
  let k := s.safety.chan c
  let pulsed := (List.range 4).filter fun i => k.mode i = 1
  if pulsed.isEmpty ∨ !k.pulseDue source s.now then .next s
  else
    let src := !sourceOk && (if source = 1 then k.obsSource1 else k.obsSource2)
    let step (st : SafetyChannel × List Nat) (i : Nat) : SafetyChannel × List Nat :=
      let (a, b) := st.1.circuitInputs i
      let r := (st.1.circuit i).pulse source a b (dropped.contains (2 * i)) (dropped.contains (2 * i + 1))
      let x := if src then r.1.latchWiring 4 else r.1
      ({ st.1 with circuits := setAt st.1.circuits i fun _ => x }, if r.2 then st.2 ++ [i] else st.2)
    let (k1, seen) := pulsed.foldl step (k, [])
    let k2 :=
      if source = 1 then { k1 with obsSource1 := !sourceOk, pulse1At := some s.now }
      else { k1 with obsSource2 := !sourceOk, pulse2At := some s.now }
    let u := s.safety.onChan c fun _ => k2.permitsStep s.safety.running s.now
    .next (seen.foldl (fun s i => s.count (ctrPulse i)) (s.setSafety u 2))

/-- A switch test is due: of X at the start of its second, of Y 500 ms after X's, by clocks within 2 % (R410, R435). -/
def SafetyUnit.testDue (u : SafetyUnit) (c : Chan) (p now : Nat) : Bool :=
  let x := u.x.testedAt.getD p none
  match c, x with
  | .x, none => true
  | .x, some t0 => decide (t0 + 980 * msNs ≤ now)
  | .y, none => false
  | .y, some t0 => decide (t0 + 490 * msNs ≤ now) && ((u.y.testedAt.getD p none).all fun q => decide (q < t0))

/-- SWITCH_TEST: a channel switches its own switch of a permit that is on off for the test; each channel checks by readback that the
output falls (R435). -/
def execSwitchTest (t : Nat) (c : Chan) (p : Nat) (fallsX fallsY : Bool) (s : State) : Result :=
  let s := s.tick t
  let k := s.safety.chan c
  if !bit (entryField k.tables.permits p 0 1) 2 ∨ !(k.permit p).on ∨ !s.safety.testDue c p s.now then .next s
  else
    let s1 : State :=
      { s with safety := s.safety.onChan c fun k => { k with testedAt := setAt k.testedAt p fun _ => some s.now } }
    .next (if fallsX && fallsY then s1 else s1.safeFault c 2)

/-- Contactor feedback that does not follow within T_FB (R434). -/
def execFeedbackTimeout (t : Nat) (c : Chan) (p : Nat) (s : State) : Result :=
  let s := s.tick t
  let k := s.safety.chan c
  let due := s.since (k.permit p).switchedAt (entryField k.tables.permits p 2 2 * msNs)
  if k.fbEnabled p && due && !(k.permit p).followed && k.input (8 + p) = (k.permit p).on then
    let u := s.safety.onChan c fun k =>
      ({ k with permits := setAt k.permits p fun x => { x with contactorFault := true, switchedAt := none } }).permitsStep
        s.safety.running s.now
    .next (s.setSafety u 4)
  else .next s

/-- Latched faults of the other channel adopted (R441). -/
def SafetyChannel.adopt (c o : SafetyChannel) : SafetyChannel :=
  { c with
    circuits := c.circuits.zipIdx.map fun p =>
      let x := o.circuit p.2
      if p.1.latched = 0 ∧ x.latched ≠ 0 then
        { p.1 with latched := x.latched, kind := x.kind, sequence := 0, moving := false }
      else p.1
    permits := c.permits.zipIdx.map fun p =>
      { p.1 with contactorFault := p.1.contactorFault || (o.permit p.2).contactorFault }
    supplyLoss := c.supplyLoss || o.supplyLoss }

/-- The items in which the channels differ: inputs 0 to 17, circuit states 32 to 35, permit commands 64 to 67 (R441). -/
def safetyDiff (a b : SafetyChannel) : List Nat :=
  ((List.range 18).filter fun i => a.input i ≠ b.input i)
    ++ ((List.range 4).filterMap fun i => if a.circuitCode i = b.circuitCode i then none else some (32 + i))
    ++ ((List.range 4).filterMap fun p => if (a.permit p).on = (b.permit p).on then none else some (64 + p))

/-- Runs of consecutive exchanges in which items differ. -/
def runsOf (old : List (Nat × Nat)) (items : List Nat) : List (Nat × Nat) :=
  items.map fun i => (i, (assoc old i).getD 0 + 1)

/-- A channel takes the other's message, or finds it missing or corrupt (R441). `readDiffer` names the switches whose
readbacks the channels report differently. -/
def execCrossCompareExchange (t : Nat) (c : Chan) (ok : Bool) (readDiffer : List Nat) (s : State) : Result :=
  let s := s.tick t
  let k := s.safety.chan c
  if !ok then
    let s1 := { s with safety := s.safety.onChan c fun k => { k with missing := k.missing + 1 } }
    .next (if 3 ≤ k.missing + 1 then s1.safeFault c 1 else s1)
  else
    let o := s.safety.chan c.other
    let k0 := { k.adopt o with reported := k.heldReset.isSome && decide (k.heldReset = o.heldReset) }
    let k1 := k0.permitsStep s.safety.running s.now
    let d := runsOf k1.differ (safetyDiff k1 o)
    let r := runsOf k1.readDiffer readDiffer
    let u := s.safety.onChan c fun _ => { k1 with differ := d, readDiffer := r, missing := 0 }
    let s1 := s.setSafety u (u.tickCause c)
    .next (if (d.any fun e => decide (3 ≤ e.2)) || (r.any fun e => decide (2 ≤ e.2)) then s1.safeFault c 1 else s1)

/-- FLD-2 below 16.0 V for 1 ms (R437). -/
def execFld2Undervoltage (t : Nat) (c : Chan) (s : State) : Result :=
  let s := s.tick t
  .next (s.setSafety (s.safety.onChan c fun k => { k with supplyLow := true }) 6)

/-- FLD-2 below 12.0 V for 1 ms: every permit off, supply loss latched (R437). -/
def execFld2SupplyLoss (t : Nat) (c : Chan) (s : State) : Result :=
  let s := s.tick t
  .next (s.setSafety (s.safety.onChan c fun k =>
    ({ k with supplyLow := true, supplyLoss := true }).allOff s.now) 6)

/-- FLD-2 at 16.0 V or more for 100 ms (R437). -/
def execFld2Recovery (t : Nat) (c : Chan) (s : State) : Result :=
  let s := s.tick t
  .next (s.setSafety (s.safety.onChan c fun k => { k with supplyLow := false, supplyLoss := false }) 6)

/-- Whether a circuit's fault can be cleared: its sequence is complete in both channels (R425). -/
def SafetyUnit.clearable (u : SafetyUnit) (i : Nat) : Bool :=
  let done (k : Circuit) : Bool := k.latched = 0 || k.sequence = 2
  u.faultOf i ≠ 0 && done (u.x.circuit i) && done (u.y.circuit i)

/-- Faults cleared by a reset in one channel: circuits whose sequence is complete, contactor faults of the named permits
whose feedback reads closed (R432, R434). -/
def SafetyChannel.clearFaults (c : SafetyChannel) (circuits permits : List Nat) : SafetyChannel :=
  { c with
    circuits := c.circuits.zipIdx.map fun p =>
      if circuits.contains p.2 then { p.1 with latched := 0, kind := 0, sequence := 0 } else p.1
    permits := c.permits.zipIdx.map fun p =>
      if permits.contains p.2 && c.input (8 + p.2) then { p.1 with contactorFault := false } else p.1 }

/-- Permits switched on in a channel. -/
def SafetyChannel.switchOn (c : SafetyChannel) (ps : List Nat) (now : Nat) : SafetyChannel :=
  { c with permits := c.permits.zipIdx.map fun p => if ps.contains p.2 then p.1.switch now true else p.1 }

/-- A reset for the named permits held by both channels (R432): the unit after it, and the status. -/
def SafetyUnit.resetPermits (u : SafetyUnit) (mask now : Nat) : SafetyUnit × Nat :=
  let named := (List.range 4).filter fun p =>
    if mask = 0 then u.x.enabled p else bit mask p
  let clear := (List.range 4).filter u.clearable
  let u1 := { u with x := u.x.clearFaults clear named, y := u.y.clearFaults clear named }
  let run : Bool := u.su = .run
  let good := named.filter fun p => u1.x.blocked run p = 0 && u1.y.blocked run p = 0
  let u2 := { u1 with x := u1.x.switchOn good now, y := u1.y.switchOn good now }
  let incomplete := named.any fun p => (List.range 4).any fun i =>
    bit (entryField u.x.tables.permits p 1 1) i && u1.faultOf i ≠ 0
  (u2, if incomplete then stSequenceIncomplete else if good.length < named.length then stConditions else stOk)

/-- A reset that both channels have: it acts once, on the conditions of this tick (R432, R458). -/
def State.safetyReset (s : State) (r : HeldReset) : State :=
  let (u, st) := s.safety.resetPermits r.mask s.now
  let clear (k : SafetyChannel) : SafetyChannel := { k with heldReset := none, reported := false }
  let s1 := s.setSafety { u with x := clear u.x, y := clear u.y } 0
  s1.raiseIf (decide (u ≠ s.safety) || decide (st = stOk)) 0x500B [r.source]

/-- Counters of the unit: discarded, duplicate and lost PDUs per connection, discarded commands (R458). -/
def ctrPdu (kind conn : Nat) : Nat := 0x50F00000 + kind * 256 + conn

/-- Valid CAN FD data lengths: the next one for n bytes (R443). -/
def fdLength (n : Nat) : Nat :=
  if n ≤ 8 then n else if n ≤ 12 then 12 else if n ≤ 16 then 16 else if n ≤ 20 then 20 else if n ≤ 24 then 24
  else if n ≤ 32 then 32 else if n ≤ 48 then 48 else 64

/-- What a PDU does to a receive connection (R444 to R446): the connection, and 0 accepted, 1 discarded, 2 duplicate, 3 gap;
with the number of lost PDUs. -/
def Conn.receive (k : Conn) (now maxGap seq : Nat) (data : List Byte) (twoPorts : Bool) : Conn × Nat × Nat :=
  let take (st : ConnState) (acc : Nat) : Conn :=
    { st := st, lastSeq := some seq, accepted := acc, data := data, lastAt := now,
      resetBit := 2 ≤ data.length && bit (u8 data 1) 0 }
  match k.st, k.lastSeq with
  | .fault, _ => (k, 1, 0)
  | _, none => (take .init 0, 0, 0)
  | st, some l =>
    let d := (seq + 65536 - l) % 65536
    if d = 0 ∧ twoPorts then (k, 2, 0)
    else if !seqLater 16 seq l then (k, 1, 0)
    else if maxGap < d then ({ k with st := .fault, data := [] }, 3, 0)
    else if st = .run then (take .run k.accepted, 0, d - 1)
    else (take (if 2 ≤ k.accepted + 1 then .run else .init) (k.accepted + 1), 0, d - 1)

/-- The PDU of a connection: SEQ, DATA, CRC over connection ID, SEQ and DATA (R442). -/
def pduBytes (connId seq : Nat) (data : List Byte) : List Byte :=
  let body := le 2 seq ++ data
  body ++ le 4 (crc32c (le 4 connId ++ body)).toNat

/-- Whether a received frame's length and CRC fit connection entry e (R442, R443). -/
def pduOk (e : List Byte) (bytes : List Byte) : Bool :=
  let n := u8 e 6
  let size := if 4 ≤ u8 e 5 then fdLength (n + 6) else n + 6
  bytes.length = size && bytes.take (n + 6) = pduBytes (u32 e 0) (field bytes 0 2) (slice bytes 2 n)

/-- The unit that carries a transport is held in reset: no PDU passes (R439, R443). -/
def State.transportHeld (s : State) (transport : Nat) : Bool :=
  s.unitHeld (if transport < 4 then 0x31 else transport - 3)

/-- What a channel does with a PDU for receive connection c: it checks length, CRC and SEQ itself, and holds a reset at a rising edge of
RESET with RESET_ENABLE (R51, R432, R442 to R447). Answers 0 accepted, 1 discarded, 2 duplicate, 3 gap, and the lost PDUs. -/
def SafetyChannel.takePdu (k : SafetyChannel) (now c : Nat) (bytes : List Byte) : SafetyChannel × Nat × Nat :=
  match assoc k.tables.conns c with
  | none => (k, 1, 0)
  | some e =>
    if u8 e 4 ≠ 1 ∨ !pduOk e bytes then (k, 1, 0)
    else
      let seq := field bytes 0 2
      let before := k.conn c
      let r := before.receive now (u8 e 7) seq (slice bytes 2 (u8 e 6)) (u8 e 5 = 2)
      let k1 := { k with conns := setAt k.conns c fun _ => r.1 }
      let edge : Bool := r.2.1 = 0 && r.1.st = .run && r.1.resetBit && !before.resetBit
      if bit (u16 e 16) 0 && edge then
        ({ k1 with heldReset := some { mask := 0, source := 1 + c, id := seq }, reported := false }, r.2)
      else (k1, r.2)

/-- A PDU delivered to connection c: both channels take it, and it is counted (R51, R443, R445, R458). -/
def State.deliverPdu (s : State) (c : Nat) (bytes : List Byte) : State :=
  let x := s.safety.x.takePdu s.now c bytes
  let y := s.safety.y.takePdu s.now c bytes
  let s1 := s.setSafety { s.safety with x := x.1, y := y.1 } 3
  if x.2.1 = 1 ∨ y.2.1 = 1 then s1.count (ctrPdu 0 c)
  else if x.2.1 = 2 ∨ y.2.1 = 2 then s1.count (ctrPdu 1 c)
  else s1.countN (ctrPdu 2 c) x.2.2

/-- A connection entry takes what arrives at a transport, UDP port and address: for UDP any source when ADDR is 0, for CAN the
identifier (R442, R443, R449). -/
def connTakes (e : List Byte) (transport port addr : Nat) : Bool :=
  let tr := u8 e 5
  u8 e 4 = 1 && (tr = transport || (tr = 2 && (transport = 0 || transport = 1)))
    && (if tr < 4 then u16 e 10 = port && (u32 e 12 = 0 || u32 e 12 = addr) else u32 e 12 = addr)

/-- XIROS_PDU_RECEIVE: a PDU arrives at a transport (0 FNET-A, 1 FNET-B, 3 PEER, 4 to 9 BUS1 to BUS6), UDP port and source address, for CAN
the identifier; it goes to the connection configured for that address (R439, R442 to R447). -/
def execXirosPduReceive (t transport port addr : Nat) (bytes : List Byte) (s : State) : Result :=
  let s := s.tick t
  if s.transportHeld transport then .next s
  else
    match s.safety.x.tables.conns.find? fun p => connTakes p.2 transport port addr with
    | none => .next s
    | some p => .next (s.deliverPdu p.1 bytes)

/-- A receive connection in RUN without an accepted PDU for T_WD enters FAULT (R446). -/
def execXirosWatchdog (t : Nat) (ch : Chan) (c : Nat) (s : State) : Result :=
  let s := s.tick t
  let k := s.safety.chan ch
  let twd := entryField k.tables.conns c 8 2 * msNs
  if (k.conn c).st = .run ∧ (k.conn c).lastAt + twd ≤ s.now then
    .next (s.setSafety (s.safety.onChan ch fun k =>
      { k with conns := setAt k.conns c fun x => { x with st := .fault, data := [] } }) 3)
  else .next s

/-- The PERMITS byte of R448: on, and reset awaited. -/
def SafetyUnit.permitsByte (u : SafetyUnit) : Nat :=
  (List.range 4).foldl (fun n p =>
    let await := !u.permitOn p && u.x.blocked u.running p = 0 && u.y.blocked u.running p = 0
    n + 2 ^ p * b2n (u.permitOn p) + 2 ^ (p + 4) * b2n await) 0

/-- State of a circuit as the unit reports it: a latched fault of either channel, else that of channel X. -/
def SafetyUnit.circuitCode (u : SafetyUnit) (i : Nat) : Nat :=
  if u.faultOf i ≠ 0 then u.faultOf i else max (u.x.circuitCode i) (u.y.circuitCode i)

/-- The CONN field: receive connections in RUN (R448). -/
def SafetyUnit.connBits (u : SafetyUnit) : Nat :=
  (List.range 16).foldl (fun n c => n + 2 ^ c * b2n ((u.x.conn c).st = .run)) 0

/-- Code of the unit's state (R414). -/
def SuState.code : SuState → Nat
  | .starting => 0
  | .run => 1
  | .safeFault => 2

/-- A contactor fault of permit p in either channel. -/
def SafetyUnit.contactor (u : SafetyUnit) (p : Nat) : Bool :=
  (u.x.permit p).contactorFault || (u.y.permit p).contactorFault

/-- The 8 bytes a transmit connection sends (R448). -/
def SafetyUnit.txContent (u : SafetyUnit) : List Byte :=
  let circ := (List.range 4).foldl (fun n i =>
    n + 2 ^ i * b2n (u.circuitCode i ≠ 0) + 2 ^ (i + 4) * b2n (2 ≤ u.circuitCode i)) 0
  let unit := b2n u.running + 2 * b2n (u.su = .safeFault) + 4 * b2n ((List.range 4).any u.contactor)
    + 8 * b2n (u.x.supplyLoss || u.y.supplyLoss)
  le 1 u.permitsByte ++ le 1 circ ++ le 1 unit ++ le 2 u.connBits ++ le 3 0

/-- An unused entry of n bytes of a safety table: zeros with their CRC (R718). -/
def unusedSafety (n : Nat) : List Byte :=
  let z := List.replicate (n - 4) 0
  z ++ le 4 (crc32c z).toNat

/-- The image of a stored table: entries of n bytes (R612, R718). -/
def tableImage (es : List (Nat × List Byte)) (count n : Nat) : List Byte :=
  (List.range count).flatMap fun i => slice ((assoc es i).getD (unusedSafety n)) 0 n

/-- CRC over the stored tables 0x02 to 0x04 (R453). -/
def SafetyTables.crc (t : SafetyTables) : Nat :=
  (crc32c (tableImage t.circuits 4 16 ++ tableImage t.permits 4 32 ++ tableImage t.conns 16 32)).toNat

/-- The safety status sample (R453). -/
def SafetyUnit.sample (u : SafetyUnit) : List Byte :=
  let circ := (List.range 4).foldl (fun n i =>
    let (a, b) := u.x.circuitInputs i
    n + 16 ^ i * (u.circuitCode i + 4 * b2n a + 8 * b2n b)) 0
  let fb := (List.range 4).foldl (fun n p =>
    n + 2 ^ p * b2n (u.x.input (8 + p)) + 2 ^ (p + 4) * b2n (u.contactor p)) 0
  le 1 u.su.code ++ le 1 u.permitsByte ++ le 2 circ ++ le 2 u.connBits ++ le 1 fb
    ++ le 1 (b2n (u.x.supplyLow || u.y.supplyLow) + 2 * b2n (u.x.supplyLoss || u.y.supplyLoss))
    ++ le 4 u.x.tables.crc ++ le 4 u.y.tables.crc ++ le 16 0

/-- A reset of the safety unit: STARTING with every permit off; the stored tables stay (R416, R452). -/
def SafetyUnit.restarted (u : SafetyUnit) : SafetyUnit :=
  { u with su := .starting, x := .start u.x.tables, y := .start u.y.tables, tx := List.replicate 16 .reset }

/-- The unit reset, with the events of its permits; a restart that runs completes with DEVICE_FAULT (R587). -/
def State.resetSafety (s : State) : State :=
  (s.setSafety { s.safety.restarted with restart := none } 1).finish? s.safety.restart stDeviceFault []

/-- The own watchdog of a channel expires: a watchdog fault, and the reset of the unit that leaves SAFE-FAULT (R414 to R416; DEDUCED,
log 64). -/
def execSafetyWatchdogExpiry (t : Nat) (c : Chan) (s : State) : Result := .next ((s.tick t).safeFault c 9).resetSafety

/-- The counter of discarded commands (R413, R458). -/
def ctrCommand : Nat := 0x50F20000

/-- A command message of the gateway: code (1 reset, 2 restart), argument, sequence number, CRC (R413). -/
def gatewayMessage (code arg seq : Nat) : List Byte :=
  let body := le 1 code ++ le 1 arg ++ le 2 seq
  body ++ le 4 (crc32c body).toNat

/-- A command put before both channels by the gateway (R413). -/
def SafetyUnit.sendCommand (u : SafetyUnit) (code arg : Nat) : SafetyUnit :=
  let seq := (u.gatewaySeq + 1) % 65536
  let m := gatewayMessage code arg seq
  { u with gatewaySeq := seq, x.inbox := u.x.inbox ++ [m], y.inbox := u.y.inbox ++ [m] }

/-- A channel checks one command message itself: CRC, and a sequence number later than the last accepted one (R21, R51, R413). Answers
whether it discards it. -/
def SafetyChannel.takeCommand (k : SafetyChannel) (m : List Byte) : SafetyChannel × Bool :=
  let seq := u16 m 2
  let later : Bool := k.cmdSeq.all fun q => seqLater 16 seq q
  if m.length ≠ 8 ∨ !crcOk m 4 ∨ !later then (k, true)
  else
    let k1 := { k with cmdSeq := some seq }
    match u8 m 0 with
    | 1 => ({ k1 with heldReset := some { mask := u8 m 1, source := 0, id := seq }, reported := false }, false)
    | 2 => ({ k1 with heldRestart := true }, false)
    | _ => (k1, true)

/-- The command messages of a channel taken in order, each with what its way has changed in it: the channel, and how many it discards. -/
def SafetyChannel.takeInbox (k : SafetyChannel) (errs : List (List Byte)) : SafetyChannel × Nat :=
  k.inbox.zipIdx.foldl (fun (r : SafetyChannel × Nat) p =>
    let q := r.1.takeCommand (changedBytes p.1 (errs.getD p.2 []))
    (q.1, r.2 + b2n q.2)) ({ k with inbox := [] }, 0)

/-- The commands of a channel checked at its tick: discarded ones are counted, and a restart that waits for one fails (R413; DESIGN
CHOICE, log 64). -/
def State.takeGateway (s : State) (c : Chan) (errs : List (List Byte)) : State :=
  let r := (s.safety.chan c).takeInbox errs
  let s1 : State := { s with safety := s.safety.onChan c fun _ => r.1 }
  if r.2 = 0 then s1
  else
    let s2 := (s1.countN ctrCommand r.2).finish? s1.safety.restart stDeviceFault []
    { s2 with safety.restart := none, safety.x.heldRestart := false, safety.y.heldRestart := false }

/-- A reset and a restart that both channels have act at the tick of one of them (R416, R432, R441). -/
def State.actCommands (s : State) (c : Chan) : State :=
  let u := s.safety
  if u.x.heldRestart && u.y.heldRestart then s.setSafety u.restarted 1
  else
    match u.x.heldReset, u.y.heldReset with
    | some a, some b => if a = b ∧ (u.chan c).reported then s.safetyReset a else s
    | _, _ => s

/-- The time since the latest tick lies outside 1 ms ± 2 %, and the 0.01 % of the clock that measures it (R410, R415; DEDUCED, log 64). -/
def SafetyChannel.tickOff (k : SafetyChannel) (now : Nat) : Bool :=
  k.tickAt.any fun t0 => decide (now < t0 + 979900) || decide (t0 + 1020100 < now)

/-- SAFETY_TICK: a channel checks itself and is measured by the other, evaluates circuits, connections and permits, and takes what the
gateway sent, with what the way has changed in it (R413, R415, R421 to R434). -/
def execSafetyTick (t : Nat) (c : Chan) (check : ChannelCheck) (errs : List (List Byte)) (s : State) : Result :=
  let s := s.tick t
  let off := s.safety.running && (s.safety.chan c).tickOff s.now
  let cause : Nat :=
    match check with
    | .good => if off then 3 else 0
    | .memory => 7
    | .flow => 8
    | .tables => 4
  let s1 := if cause = 0 then s else s.safeFault c cause
  let u := s1.safety.onChan c fun k => { k.tick s1.safety.running s1.now with tickAt := some s1.now }
  .next (((s1.setSafety u (u.tickCause c)).takeGateway c errs).actCommands c)

/-- A brown-out of the unit's own rail (R416). -/
def execSafetyRailBrownOut (t : Nat) (s : State) : Result := .next (s.tick t).resetSafety

/-- A reset holds the safety unit, or its self-test has not begun (R61, R653, R667). -/
def State.safetyHeld (s : State) : Bool :=
  s.rst.asserted.any (fun x => x.level = 0 || (x.level = 3 && x.target = 0x50)) ||
    match s.rst.up with
    | .off | .held 0 | .bringup 0 true => true
    | _ => false

/-- The self-test ends (R414 to R416). `failX`, `failY`: the part of the test that failed in a channel; 0 none. -/
def execSafetySelfTestComplete (t failX failY : Nat) (s : State) : Result :=
  let s := s.tick t
  if s.safety.su ≠ .starting ∨ s.safetyHeld = true then .next s
  else
    let failX := if s.rst.bootFailed.contains 2 then 1 else failX
    let failY := if s.rst.bootFailed.contains 3 then 1 else failY
    let s1 :=
      if !s.safety.serialX then s.safeFault .x 6
      else if !s.safety.serialY then s.safeFault .y 6
      else if failX ≠ 0 then s.safeFault .x 5
      else if failY ≠ 0 then s.safeFault .y 5
      else { s with safety.su := .run }.raise 0x500A []
    let st := if s1.safety.su = .run then stOk else stTestFailed
    .next ({ s1 with safety.restart := none }.finish? s.safety.restart st [])

/-- SAFETY_RESET (R413, R432): refused where nothing it names can be reset; else sent to both channels, which act at a tick. -/
def effSafetyReset : Effect := fun s _ p _ =>
  if 16 ≤ field p 0 1 ∨ field p 1 3 ≠ 0 then refused s stBadValue
  else
    let r := s.safety.resetPermits (field p 0 1) s.now
    let s1 : State := { s with safety := s.safety.sendCommand 1 (field p 0 1) }
    if r.2 = stOk then served s1 else if r.1 ≠ s.safety then refused s1 r.2 else refused s r.2

/-- SAFETY_RESTART (R413, R416): sent to both channels; its handle completes when the self-test ends. -/
def effSafetyRestart : Effect := fun s _ _ h =>
  if s.safety.restart.isSome then refused s stBusy
  else accepted { s with safety := { s.safety.sendCommand 2 0 with restart := some h } }

/-- SAFETY_STATUS (R453). -/
def effSafetyStatus : Effect := fun s _ _ _ => answered s s.safety.sample

end Sys2Proof.Machine
end

