-- ==== Sys2Proof/Machine/Can.lean ====
section
/-!
DEFINITION. The message-bus controllers (R523 to R547), and Xiros transmission (R448).
-/

namespace Sys2Proof.Machine

/-- The controller entry of BUSb, 1 to 6 (R528). -/
def State.busEntry (s : State) (b : Nat) : List Byte := (s.entry? 0x40 0x02 (b - 1)).getD []

/-- Configured mode of a controller (R526). -/
def State.busMode (s : State) (b : Nat) : Nat := u8 (s.busEntry b) 0

/-- A bit of CFLAGS: 0 FD_ENABLE, 1 RATE_DETECT, 2 MANUAL_RECOVERY, 3 TX_ORDER (R528). -/
def State.busFlag (s : State) (b i : Nat) : Bool := bit (u8 (s.busEntry b) 1) i

/-- A controller. -/
def State.bus (s : State) (b : Nat) : BusCtl := s.buses.can.getD (b - 1) .reset

/-- A controller changed. -/
def State.onBus (s : State) (b : Nat) (f : BusCtl → BusCtl) : State :=
  { s with buses.can := setAt s.buses.can (b - 1) f }

/-- Rate detection is running. -/
def RateState.isDetecting : RateState → Bool
  | .detecting _ _ _ => true
  | _ => false

/-- The mode a controller runs in: LISTEN-ONLY during rate detection (R526, R529). -/
def State.busRuns (s : State) (b : Nat) : Nat :=
  if (s.bus b).inReset then 0 else if (s.bus b).rate.isDetecting then 3 else s.busMode b

/-- Error passive (R540). -/
def BusCtl.passive (k : BusCtl) : Bool := 128 ≤ k.tec ∨ 128 ≤ k.rec_

/-- Counters: 0 unaccepted frames per bus, 1 protocol exceptions per bus; and per bus and number: overruns of mailboxes,
replaced, stale and saturated frames of messages (R560). -/
def ctrBus (kind b n : Nat) : Nat := 0x40F00000 + kind * 65536 + b * 512 + n

/-- A controller changed with events 0x4001 and 0x4002 where its error state changes (R540, R543). -/
def State.setBus (s : State) (b : Nat) (k : BusCtl) : State :=
  let old := s.bus b
  let off := 255 < k.tec && !old.busOff
  let k1 := if off then { k with busOff := true, recovering := !s.busFlag b 2, noAck := k.noAck } else k
  let s1 := s.onBus b fun _ => k1
  (s1.raiseIf (old.passive ≠ k1.passive && !off) 0x4001 [b, b2n k1.passive]).raiseIf off 0x4002 [b]

/-- A timing result in force: detection ends, with its event and handle (R529). -/
def State.endDetection (s : State) (b : Nat) (r : RateState) (code arg final : Nat) : State :=
  let h := (s.bus b).detectHandle
  ((s.onBus b fun k => { k with rate := r, detectHandle := none }).raise code [b, arg]).finish? h final (le 4 arg)

/-- Rate detection begins, where RATE_DETECT is set with candidates (R529). -/
def State.startDetection (s : State) (b : Nat) : State :=
  if u8 (s.busEntry b) 2 = 0 then s
  else s.onBus b fun k => { k with rate := .detecting 0 0 s.now }

/-- The sample of a received frame (R532). -/
def canSample (f : CanFrame) (shadow lost : Bool) : List Byte :=
  le 4 (f.id + 2147483648 * b2n f.ide + 1073741824 * b2n f.fdf + 536870912 * b2n f.brs
        + 268435456 * b2n (f.rtr && !f.ide))
    ++ le 1 f.data.length ++ le 1 (b2n shadow + 2 * b2n lost + 4 * b2n f.esi) ++ le 2 0 ++ pad4 f.data

/-- Whether a filter entry accepts a frame (R530). -/
def filterAccepts (e : List Byte) (f : CanFrame) : Bool :=
  let c := u8 e 8
  bit c 7 && (f.id &&& u32 e 4 = u32 e 0 &&& u32 e 4) && bit c 0 = f.ide && !(bit c 1 && !f.fdf)
    && !(bit c 2 && f.fdf) && !(f.rtr && !bit c 3)

/-- The mailbox the first accepting filter names (R530). -/
def State.filterMailbox (s : State) (b : Nat) (f : CanFrame) : Option Nat :=
  (List.range 64).findSome? fun k =>
    match s.entry? 0x40 0x03 (64 * (b - 1) + k) with
    | none => none
    | some e => if filterAccepts e f then some (u8 e 9) else none

/-- DEST of a mailbox (R531). -/
def State.mailboxDest (s : State) (b m : Nat) : Nat := u8 ((s.entry? 0x40 0x04 (32 * (b - 1) + m)).getD []) 0

/-- A frame enters a mailbox: it is locked and the frame forwarded (R532, R534). -/
def State.forwardFrame (s : State) (b m : Nat) (f : CanFrame) (ts : Nat) (shadow : Bool) : State :=
  let box := (s.bus b).mailboxes.getD m .reset
  let s1 := s.onBus b fun k =>
    { k with mailboxes := setAt k.mailboxes m fun x => { x with locked := true, lost := false } }
  if s.mailboxDest b m = 2 then s1.deliverPdu (u8 ((s.entry? 0x40 0x04 (32 * (b - 1) + m)).getD []) 1) f.data
  else if s.mailboxDest b m = 1 then s1.send (0x0400 + 32 * (b - 1) + m) ts (b2n box.lost) (canSample f shadow box.lost)
  else s1

/-- A frame for a mailbox that is locked goes into the shadow, or overwrites it (R534). -/
def State.shadowFrame (s : State) (b m : Nat) (f : CanFrame) (ts : Nat) : State :=
  let k := s.bus b
  let spill := (k.mailboxes.getD m .reset).shadow.isSome
  let s1 := s.onBus b fun k =>
    { k with mailboxes := setAt k.mailboxes m fun x => { x with shadow := some (f, ts), lost := x.lost || spill } }
  if !spill then s1
  else
    let tell :=
      match k.overrunEvent with
      | none => true
      | some t0 => decide (t0 + 60 * secNs ≤ s.now)
    let s2 := (s1.onBus b fun k =>
      { k with overrun := true, overrunEvent := if tell then some s.now else k.overrunEvent }).count (ctrBus 2 b m)
    s2.raiseIf tell 0x4007 [b, m]

/-- REC after a frame received without error (ISO 11898-1). -/
def recDown (n : Nat) : Nat := if n = 0 then 0 else if n ≤ 127 then n - 1 else 127

/-- The port timestamp of a frame that becomes valid now: monotonic time in steps of 12.5 ns, in whole ns (R533). -/
def frameStamp (now : Nat) : Nat := 2 * now / 25 * 25 / 2

/-- CAN_FRAME_RECEIVE: at the sample point of the last-but-one bit of its end of frame (R525, R529, R530, R533). -/
def execCanFrameReceive (t b : Nat) (f : CanFrame) (s : State) : Result :=
  let s := s.tick t
  let ts := frameStamp s.now
  let mode := s.busRuns b
  if mode = 0 ∨ (s.bus b).busOff then .next s
  else if f.fdf && !s.busFlag b 0 then
    let k := s.bus b
    let tell :=
      match k.protEvent with
      | none => true
      | some t0 => decide (t0 + 60 * secNs ≤ s.now)
    let s1 := (s.onBus b fun k =>
      { k with protExc := true, protEvent := if tell then some s.now else k.protEvent }).count (ctrBus 1 b 0)
    .next (s1.raiseIf tell 0x4009 [b])
  else
    let k := s.bus b
    let s1 := if mode = 1 then s.setBus b { k with rec_ := recDown k.rec_ } else s
    let s2 :=
      match k.rate with
      | .detecting c g st =>
        if 3 ≤ g + 1 then s1.endDetection b (.detected c) 0x4005 c stOk
        else s1.onBus b fun k => { k with rate := .detecting c (g + 1) st }
      | _ => s1
    match s2.filterMailbox b f with
    | none => .next (s2.count (ctrBus 0 b 0))
    | some m =>
      if s2.mailboxDest b m = 0 then .next (s2.count (ctrBus 0 b 0))
      else if ((s2.bus b).mailboxes.getD m .reset).locked then .next (s2.shadowFrame b m f ts)
      else .next (s2.forwardFrame b m f ts false)

/-- The write of a mailbox is acknowledged: it unlocks, and a shadow frame is forwarded at once (R534). -/
def execMailboxUnlock (t b m : Nat) (s : State) : Result :=
  let s := s.tick t
  let box := (s.bus b).mailboxes.getD m .reset
  if !box.locked then .next s
  else
    let s1 := s.onBus b fun k =>
      { k with mailboxes := setAt k.mailboxes m fun x => { x with locked := false, shadow := none } }
    match box.shadow with
    | none => .next s1
    | some (f, ts) => .next (s1.forwardFrame b m f ts true)

/-- Rank of a frame in identifier priority mode (R537). -/
def CanFrame.rank (f : CanFrame) : Nat := if f.ide then 2 * f.id + 1 else 2 * (f.id * 262144)

/-- The entry to send: buffer and position (R537). -/
def BusCtl.choose (k : BusCtl) (byOrder : Bool) : Option (Nat × Nat) :=
  let all := k.buffers.zipIdx.flatMap fun p => p.1.zipIdx.map fun e => (p.2, e.2, e.1.frame.rank)
  if byOrder then (all.head?).map fun e => (e.1, e.2.1)
  else
    (all.foldl (fun (best : Option (Nat × Nat × Nat)) e =>
      match best with
      | none => some e
      | some x => if e.2.2 < x.2.2 then some e else some x) none).map fun e => (e.1, e.2.1)

/-- The entry on the wire. -/
def BusCtl.wire (k : BusCtl) : Option (Nat × Nat) :=
  k.buffers.zipIdx.findSome? fun p => (p.1.zipIdx.find? fun e => e.1.onWire).map fun e => (p.2, e.2)

/-- An entry of a buffer changed, or removed. -/
def BusCtl.onEntry (k : BusCtl) (buf pos : Nat) (f : TxEntry → Option TxEntry) : BusCtl :=
  { k with buffers := setAt k.buffers buf fun es =>
      es.zipIdx.filterMap fun e => if e.2 = pos then f e.1 else some e.1 }

/-- A newer entry in place of the one it waited behind (R536). -/
def TxEntry.fresh (e : TxEntry) : Option TxEntry :=
  match e.newer with
  | none => none
  | some (f, w, l) =>
    some { e with frame := f, written := w, lifetime := l, attempts := 0, onWire := false, newer := none, expired := false }

/-- An entry after a failed attempt (R536, R538); `retry` is RETRY. -/
def TxEntry.failed (e : TxEntry) (retry : Nat) : Option TxEntry :=
  match e.newer with
  | some _ => e.fresh
  | none =>
    if e.expired ∨ (retry ≠ 0 ∧ retry ≤ e.attempts + 1) then none
    else some { e with attempts := e.attempts + 1, onWire := false }

/-- What a failed attempt does to the buffers, with the stale count (R538). -/
def State.failEntry (s : State) (b buf pos : Nat) : State :=
  let e := ((s.bus b).buffers.getD buf []).getD pos
    { owner := 0, frame := { id := 0, ide := false, fdf := false, brs := false, rtr := false, esi := false, data := [] },
      written := 0, lifetime := 0, attempts := 0, onWire := false, newer := none, expired := false }
  let r := e.failed (u8 (s.busEntry b) 3)
  let s1 := s.onBus b fun k => k.onEntry buf pos fun _ => r
  if r.isNone then s1.count (ctrBus 4 b e.owner) else s1

/-- An entry whose frame lost the arbitration waits again, unless it was replaced or its lifetime passed (R536, R538). -/
def State.yieldEntry (s : State) (b buf pos : Nat) : State :=
  let gone := ((s.bus b).buffers.getD buf [])[pos]?.filter fun e => e.newer.isNone && e.expired
  let s1 := s.onBus b fun k => k.onEntry buf pos fun e =>
    if e.newer.isSome then e.fresh else if e.expired then none else some { e with onWire := false }
  match gone with
  | some e => s1.count (ctrBus 4 b e.owner)
  | none => s1

/-- A transmission attempt begins or ends (R537, R540 to R543). -/
def execCanTransmitAttempt (t b : Nat) (o : TxOutcome) (s : State) : Result :=
  let s := s.tick t
  let k := s.bus b
  if s.busRuns b ≠ 1 ∨ k.busOff then .next s
  else
    let pick :=
      match k.wire with
      | some p => some p
      | none => k.choose (s.busFlag b 3)
    match pick with
    | none => .next s
    | some (buf, pos) =>
      match o with
      | .started => .next (s.onBus b fun k => k.onEntry buf pos fun e => some { e with onWire := true })
      | .lostArbitration => .next (s.yieldEntry b buf pos)
      | .acknowledged =>
        let sent := ((k.buffers.getD buf []).map (·.frame)).getD pos
          { id := 0, ide := false, fdf := false, brs := false, rtr := false, esi := false, data := [] }
        let k1 := k.onEntry buf pos fun e => e.fresh
        .next (s.setBus b { k1 with tec := k.tec - 1, noAck := false, ackRun := 0, lastSent := some sent })
      | .ackError dominant =>
        let s1 := s.failEntry b buf pos
        let k1 := s1.bus b
        let run := k.ackRun + 1
        let tec := if k.passive && !dominant then k.tec else k.tec + 8
        let s2 := s1.setBus b { k1 with tec := tec, lec := 3, ackRun := run, noAck := k.noAck || decide (16 ≤ run) }
        .next (s2.raiseIf (16 ≤ run && !k.noAck) 0x4004 [b])
      | .error lec =>
        let s1 := s.failEntry b buf pos
        let k1 := s1.bus b
        .next (s1.setBus b { k1 with tec := k.tec + 8, lec := lec, ackRun := 0 })

/-- A bus error outside the controller's own successful reception (R529, R540): its LEC code, and the step ISO 11898-1 gives
to REC (`onTx` false) or TEC. -/
def execCanBusError (t b lec step : Nat) (onTx : Bool) (s : State) : Result :=
  let s := s.tick t
  let mode := s.busRuns b
  if mode = 0 ∨ (s.bus b).busOff then .next s
  else
    let k := s.bus b
    match k.rate with
    | .detecting c _ st =>
      let n := u8 (s.busEntry b) 2
      .next (s.onBus b fun k => { k with lec := lec, rate := .detecting (if c + 1 < n then c + 1 else 0) 0 st })
    | _ =>
      if mode = 1 then
        let k1 := { k with lec := lec }
        .next (s.setBus b (if onTx then { k1 with tec := k.tec + step } else { k1 with rec_ := min 255 (k.rec_ + step) }))
      else .next (s.onBus b fun k => { k with lec := lec })

/-- 128 occurrences of 11 recessive bits have been counted (R543). -/
def execBusOffRecovery (t b : Nat) (s : State) : Result :=
  let s := s.tick t
  let k := s.bus b
  if k.busOff ∧ k.recovering then
    .next ((s.onBus b fun k =>
      { k with busOff := false, recovering := false, tec := 0, rec_ := 0 }).raise 0x4003 [b])
  else .next s

/-- DETECT_MS passes without success (R529). -/
def execRateDetectTimeout (t b : Nat) (s : State) : Result :=
  let s := s.tick t
  match (s.bus b).rate with
  | .detecting _ _ st =>
    if st + u16 (s.busEntry b) 4 * msNs ≤ s.now then .next (s.endDetection b .fallenBack 0x4006 0 stTestFailed)
    else .next s
  | _ => .next s

/-- Whether an entry's lifetime has passed at the strobe of a frame (R538). -/
def TxEntry.due (e : TxEntry) (frame : Word) : Bool :=
  e.lifetime ≠ 0 && decide (e.lifetime ≤ (frame - e.written).toNat)

/-- Unsent entries withdrawn at the strobe n + L (R538). -/
def State.expireEntries (s : State) (b : Nat) : State :=
  let n := s.frame.number
  let gone := ((s.bus b).buffers.flatMap id).filter fun e => e.due n && !e.onWire
  let late (w : Word) (l : Nat) : Bool := l ≠ 0 && decide (l ≤ (n - w).toNat)
  let behind := ((s.bus b).buffers.flatMap id).filter fun e => e.newer.any fun x => late x.2.1 x.2.2
  let keep (e : TxEntry) : Option TxEntry :=
    let e := { e with newer := e.newer.filter fun x => !late x.2.1 x.2.2 }
    if !e.due n then some e else if e.onWire then some { e with expired := true } else none
  let s1 := s.onBus b fun k => { k with buffers := k.buffers.map fun es => es.filterMap keep }
  (gone ++ behind).foldl (fun s e => s.count (ctrBus 4 b e.owner)) s1

/-- TRANSMIT_ENTRY_WRITE: an entry for a message or connection written into a buffer of BUSb (R536). -/
def State.writeEntry (s : State) (b buf owner : Nat) (f : CanFrame) (lifetime : Nat) : State :=
  let k := s.bus b
  let es := k.buffers.getD buf []
  let n := s.frame.number
  if k.inReset then s
  else if es.any fun e => e.owner = owner then
    let put (e : TxEntry) : TxEntry :=
      if e.owner ≠ owner then e
      else if e.onWire then { e with newer := some (f, n, lifetime) }
      else { e with frame := f, written := n, lifetime := lifetime, attempts := 0 }
    (s.onBus b fun k => { k with buffers := setAt k.buffers buf fun es => es.map put }).count (ctrBus 3 b owner)
  else if 16 ≤ es.length then
    let known := k.fullEpisodes.contains buf
    (s.onBus b fun k =>
      { k with txFull := true, fullEpisodes := if known then k.fullEpisodes else k.fullEpisodes ++ [buf] }).raiseIf
        (!known) 0x4008 [b, buf]
  else
    s.onBus b fun k =>
      { k with
        fullEpisodes := k.fullEpisodes.filter fun i => i ≠ buf
        buffers := setAt k.buffers buf fun es => es ++
          [{ owner := owner, frame := f, written := n, lifetime := lifetime, attempts := 0, onWire := false,
             newer := none, expired := false }] }

/-- Entries of removed or changed messages withdrawn at a bank swap (R539). -/
def State.withdrawEntries (s : State) (changed : Nat → Nat → Bool) : State :=
  (List.range 6).foldl (fun (s : State) i =>
    s.onBus (i + 1) fun k =>
      { k with buffers := k.buffers.map fun es => es.filter fun e => 256 ≤ e.owner || !changed (i + 1) e.owner }) s

/-- A controller whose new bank sets MODE OFF: its error counters are held at 0 (R526). -/
def State.stopOffBuses (s : State) : State :=
  (List.range 6).foldl (fun (s : State) i =>
    if s.busMode (i + 1) ≠ 0 then s
    else s.onBus (i + 1) fun k => { k with tec := 0, rec_ := 0, busOff := false, recovering := false, noAck := false, ackRun := 0 }) s

/-- A reset that reaches controller b (R544, R534). -/
def State.resetBus (s : State) (b : Nat) : State :=
  s.onBus b fun k => { BusCtl.reset with inReset := true, overrunEvent := k.overrunEvent, protEvent := k.protEvent }

/-- The end of a controller's bring-up: rate detection where enabled (R529, R544). -/
def State.startBus (s : State) (b : Nat) : State :=
  let s1 := s.onBus b fun k => { k with inReset := false }
  if s.busFlag b 1 then s1.startDetection b else s1

/-- The status of BUSb (R545). -/
def State.busStatus (s : State) (b : Nat) : Nat :=
  let k := s.bus b
  let rate :=
    match k.rate with
    | .programmed => 0
    | .detecting _ _ _ => 1
    | .detected _ => 2
    | .fallenBack => 3
  let cand :=
    match k.rate with
    | .detected c => c
    | _ => 0
  let st := if k.inReset ∨ s.busMode b = 0 then 3 else if k.busOff then 2 else if k.passive then 1 else 0
  b2n k.recovering + 2 * cand + 16 * st + 64 * rate + 256 * b2n k.noAck + 512 * b2n k.txFull + 1024 * b2n k.overrun
    + 2048 * b2n k.protExc + 8192 * k.lec + 65536 * min 255 k.rec_ + 16777216 * (if k.busOff then 255 else min 255 k.tec)

/-- BUS_RATE_DETECT (R529). -/
def effBusRateDetect : Effect := fun s _ p h =>
  let b := u8 p 0
  if b = 0 ∨ 6 < b ∨ field p 1 3 ≠ 0 then refused s stBadValue
  else if (s.bus b).rate.isDetecting then refused s stBusy
  else if u8 (s.busEntry b) 2 = 0 ∨ !s.busFlag b 1 then refused s stConditions
  else accepted ((s.startDetection b).onBus b fun k => { k with detectHandle := some h })

/-- BUS_RECOVER (R543). -/
def effBusRecover : Effect := fun s _ p _ =>
  let b := u8 p 0
  if b = 0 ∨ 6 < b ∨ field p 1 3 ≠ 0 then refused s stBadValue
  else if !(s.bus b).busOff then refused s stConditions
  else served (s.onBus b fun k => { k with recovering := true })

/-- A transmit connection sends the safety status when its interval has passed or its content has changed, at most once
per ms (R443, R448). -/
def execXirosTransmit (t c : Nat) (s : State) : Result :=
  let s := s.tick t
  match assoc s.safety.x.tables.conns c with
  | none => .next s
  | some e =>
    if u8 e 4 ≠ 2 ∨ s.transportHeld (u8 e 5) then .next s
    else
      let x := s.safety.tx.getD c .reset
      let data := s.safety.txContent
      let due :=
        match x.sentAt with
        | none => true
        | some t0 => decide (t0 + u16 e 8 * msNs ≤ s.now) || (data ≠ x.last && decide (t0 + msNs ≤ s.now))
      if !due then .next s
      else
        let pdu := pduBytes (u32 e 0) x.seq data
        let s1 : State := { s with safety.tx := setAt s.safety.tx c fun _ =>
          { seq := (x.seq + 1) % 65536, last := data, sentAt := some s.now } }
        if 4 ≤ u8 e 5 then
          let a := u32 e 12
          let f : CanFrame :=
            { id := a % 536870912, ide := bit a 31, fdf := true, brs := bit (u16 e 16) 1, rtr := false, esi := false,
              data := slice pdu 0 (fdLength pdu.length) }
          .next (s1.writeEntry (u8 e 5 - 3) 1 (256 + c) f 0)
        else
          let ways := if u8 e 5 = 2 then [0, 1] else [u8 e 5]
          .next { s1 with safety.sent := s.safety.sent ++ ways.map fun w =>
            { transport := w, port := u16 e 10, addr := u32 e 12, bytes := pdu } }

end Sys2Proof.Machine
end

