-- ==== Sys2Proof/Machine/Records.lean ====
section
/-!
DEFINITION. Snapshots and output records as bytes, the alarm word, and the phases of a frame in each lane
(R84, R88, R378, R389).
-/

namespace Sys2Proof.Machine

/-- A sample entry (R84). -/
def Sample.bytes (x : Sample) : List Byte :=
  le 8 x.arrival ++ le 8 x.portTs ++ le 2 x.data.length ++ le 2 x.sflags.toNat ++ pad4 x.data

/-- A section (R84). -/
def Section.bytes (x : Section) : List Byte :=
  let body := x.samples.flatMap Sample.bytes
  le 2 x.source ++ le 2 x.samples.length ++ le 4 (8 + body.length) ++ body

/-- The commands of a snapshot as one further section (R79); its bytes are a free value, and a snapshot without commands has none. -/
def Snapshot.commandBytes (x : Snapshot) : List Byte :=
  if x.commands.isEmpty then []
  else Config.commandSection (x.commands.map fun c => (c.req.session, c.req.tag.toNat, c.opcode, c.payload))

/-- A snapshot without its digest (R84). -/
def Snapshot.body (x : Snapshot) : List Byte :=
  let secs := x.sections.flatMap Section.bytes ++ x.commandBytes
  le 2 1 ++ le 2 x.flags.toNat ++ le 4 x.frame.toNat ++ le 8 x.strobeMono ++ le 6 x.taiS ++ le 4 x.taiNs
    ++ le 2 x.timeStatus.toNat ++ le 2 x.periodMs ++ le 2 (x.sections.length + b2n (!x.commands.isEmpty)) ++ le 4 x.configGen.toNat
    ++ le 4 (48 + secs.length + 4) ++ le 8 0 ++ secs

/-- The digest of a snapshot (R84). -/
def Snapshot.digest (x : Snapshot) : Word := crc32c x.body

/-- RFLAGS of a record (R378). -/
def LaneRecord.rflags (r : LaneRecord) : Nat :=
  b2n r.snapshotLost + 2 * b2n r.engineFault + 4 * b2n r.solverFault + 8 * b2n r.auxFault + 16 * b2n r.replayed

/-- Any of bits 3:0 of RFLAGS (R379). -/
def LaneRecord.faulty (r : LaneRecord) : Bool := r.snapshotLost || r.engineFault || r.solverFault || r.auxFault

/-- A part with its length before it (R378). -/
def part (bs : List Byte) : List Byte := le 4 bs.length ++ bs

/-- A record as bytes (R378). -/
def LaneRecord.bytes (r : LaneRecord) : List Byte :=
  let parts := if r.snapshotLost then [] else part r.fusion.bytes ++ part r.alloc.bytes ++ part r.conseq.bytes
  let body := le 2 1 ++ le 2 r.rflags ++ le 4 r.frame.toNat ++ le 4 r.configGen.toNat ++ le 4 r.snapDigest.toNat
    ++ le 4 (60 + parts.length) ++ le 4 r.nsw.toNat ++ le 1 r.mode ++ le 1 0 ++ le 2 r.cstatus ++ le 4 r.alarms.toNat
    ++ leInt 4 r.tau.1 ++ leInt 4 r.tau.2.1 ++ leInt 4 r.tau.2.2
    ++ leInt 4 r.setpoint.1 ++ leInt 4 r.setpoint.2.1 ++ le 4 r.setpoint.2.2 ++ parts
  body ++ le 4 (crc32c body).toNat

/-- The latest sample of a source in some sections. -/
def latestData (secs : List Section) (source : Nat) : Option (List Byte) :=
  ((samplesOf secs source).map fun x => x.2.data).getLast?

/-- SAFETY of the alarm word, from the safety section (R389, R453). -/
def safetyAlarm (secs : List Section) : Bool :=
  match latestData secs 0x0030 with
  | none => false
  | some d =>
    u8 d 0 ≠ 1 || ((List.range 4).any fun i => decide (2 ≤ bits (u16 d 2) (4 * i + 1) (4 * i))) || 16 ≤ u8 d 6
      || bit (u8 d 7) 1

/-- FIELD_SUPPLY of the alarm word, from the digital section (R389, R483). -/
def supplyAlarm (secs : List Section) : Bool :=
  match latestData secs 0x0040 with
  | none => false
  | some d => u8 d 16 ≠ 0 || u8 d 17 ≠ 0

/-- The alarm word of a lane at the end of a frame (R389). -/
def Core.alarmWord (s : State) (c : Core) (snap : Snapshot) : Word :=
  let f := c.fusion
  let wind := (List.range 26).any fun i =>
    match s.config.active.ref? i with
    | some e => decide (e.cls = 8)
    | none => false
  let ast := c.allocRec.astatus
  let down := s.config.active.acts.any fun q => (c.alloc.act q.1).st = .unavailable
  BitVec.ofNat 32 <|
    b2n (f.fused.nPos = 1) + 2 * b2n (f.fused.nPos = 0) + 4 * b2n (f.fused.nHdg = 0)
      + 8 * b2n f.disagree + 16 * b2n (f.fused.nMru = 0) + 32 * b2n (wind && f.fused.wind.isNone)
      + 64 * b2n (c.ctl.joyValid.any fun v => !v) + 128 * b2n (c.conseq.failAlm ≠ 0)
      + 256 * b2n (c.conseq.margAlm ≠ 0) + 512 * b2n (bits ast 7 5 ≠ 0) + 1024 * b2n (bit ast 2) + 2048 * b2n down
      + 4096 * b2n (c.conseq.lsState ≠ 0) + 8192 * b2n (c.engine.status.toNat % 1024 ≠ 0)
      + 16384 * b2n (snap.timeStatus.toNat % 16 ≠ 1) + 32768 * b2n (decide (c.gnss.spoof ≠ 0))
      + 65536 * b2n (decide (c.gnss.iflags ≠ 0)) + 131072 * b2n (safetyAlarm snap.sections)
      + 262144 * b2n (supplyAlarm snap.sections) + 524288 * b2n (s.paramN 0x71010001 = 1 && !s.peer.up)

/-- A record that carries only SNAPSHOT_LOST (R87, R378). -/
def LaneRecord.lost (s : State) : LaneRecord :=
  { snapshotLost := true, engineFault := false, solverFault := false, auxFault := false, replayed := false,
    frame := s.frame.number, configGen := s.config.active.generation, snapDigest := 0, nsw := 0, mode := 0, cstatus := 0,
    alarms := 0, tau := (0, 0, 0), setpoint := (0, 0, 0), fusion := .zero, alloc := .zero, conseq := .zero }

/-- The record a lane forms from its core (R378). -/
def Lane.record (s : State) (x : Lane) (snap : Snapshot) : LaneRecord :=
  let c := x.core
  let e := c.engine
  { snapshotLost := false, engineFault := x.engineFault, solverFault := x.solverFault, auxFault := x.auxFault,
    replayed := x.replaying, frame := snap.frame, configGen := snap.configGen, snapDigest := snap.digest,
    nsw := e.status, mode := c.ctl.mode.code, cstatus := c.ctl.status % 128, alarms := c.alarmWord s snap, tau := c.tau,
    setpoint := (e.int 0x1110, e.int 0x1111, (e.word 0x1112).toNat),
    fusion := fusionRecord s.config.active c snap.strobeMono, alloc := c.allocRec, conseq := c.conseq }

/-- The snapshot a lane computes from, and its sub-snapshots: those of the frame under way, or of the replayed one (R94). -/
def State.inputOf (s : State) (x : Lane) : Option (Snapshot × List Snapshot) :=
  match s.frame.replay with
  | .replay => s.frame.previous.map fun p => (p, s.frame.previousSubs)
  | .knownAnswer => none
  | .none => x.held.map fun p => (p, x.subs)

/-- A lane that computes in this frame begins it, or the replay of the frame before (R94, R382). -/
def Work.begin_ (s : State) (w : Work) : Work :=
  match s.inputOf w.lane with
  | none => w
  | some _ => if s.frame.replay = .replay then w.beginReplay s else w.beginFrame s

/-- Fusion of a frame in one lane that has begun it (R88, R94). -/
def Work.fusionStage (s : State) (w : Work) (ps : List Parsed) : Work :=
  match s.inputOf w.lane with
  | none => w
  | some (snap, subs) =>
    let w1 := w.fusionPhase s snap subs ps (if s.frame.replay = .replay then s.frame.carried else s.frame.carries)
    { w1 with lane := { w1.lane with fused := true } }

/-- The bytes of the part of a record that a trend item names, from its first field (R378, R637). -/
def trendPart (r : LaneRecord) (k : Nat) : List Byte :=
  match k with
  | 0 => r.bytes.take 56
  | 1 => r.fusion.bytes
  | 2 => r.alloc.bytes
  | _ => r.conseq.bytes

/-- The words of a trend item; a word beyond the end of its part reads 0 (R637). -/
def trendWords (r : LaneRecord) (item : Nat) : List Byte :=
  let n := item % 16
  let p := trendPart r (bits item 31 30)
  let o := bits item 29 16
  (List.range n).flatMap fun k => if o + 4 * k + 4 ≤ p.length then slice p (o + 4 * k) 4 else le 4 0

/-- The record a trend is taken from, and UNRELEASED (R637). -/
def State.trendSource (s : State) : Option LaneRecord × Bool :=
  if s.ridge.health = .hold ∨ s.ridge.health = .failed then
    ((if s.laneA.excluded then s.laneB.latest else s.laneA.latest), true)
  else (s.out.record, false)

/-- Trend periods passed at the strobe of the frame (R637). -/
def State.trendIndex (s : State) : Nat := s.frame.strobe / (s.paramN 0x60010002 * msNs)

/-- The trend sample of the frame, in the first frame at or after a whole multiple of the trend period (R637). -/
def State.trendSample (s : State) : Option (List Byte) :=
  if s.trendIndex = s.recorder.trendAt then none
  else
    s.trendSource.1.map fun r =>
      le 4 r.frame.toNat ++ le 2 (b2n s.trendSource.2) ++ le 2 0
        ++ (List.range 16).flatMap fun i => trendWords r (s.paramN (0x60020001 + i))

/-- OBSERVER_CONTROL_PHASE (R88, R281). -/
def execObserverControlPhase (t : Nat) (s : State) : Result :=
  .next ((s.tick t).lanesWork fun s w =>
    match s.inputOf w.lane with
    | none => w
    | some (snap, _) => ({ w with lane := { w.lane with fused := false } } : Work).observerPhase s snap)

/-- The record formed and delivered to the comparator; flags of the frame start anew (R46, R203, R378). -/
def Work.deliver (s : State) (w : Work) (snap : Snapshot) : Work :=
  let w1 := ((w.consequencePart s).numericEvent).refine s snap.strobeMono
  let w2 := w1.raiseIf w1.lane.solverFault 0x2109 []
  let r := w2.lane.record s snap
  let f := w2.core.fusion
  let w3 := w2.setFusion { f with refs := f.refs.map fun (x : RefState) => { x with retro := false } }
  { w3 with lane := { w3.lane with slot := some r, latest := some r, engineFault := false, solverFault := false,
                                   auxFault := false } }

/-- The allocation phase of one lane: the solve, the conversion and the record (R88, R338). -/
def Work.allocationStage (s : State) (w : Work) : Work :=
  match s.inputOf w.lane with
  | none => w
  | some (snap, _) => (w.allocate s snap.sections snap.strobeMono snap.periodMs).deliver s snap

end Sys2Proof.Machine
end

