-- ==== Sys2Proof/Machine/Serial.lean ====
section
/-!
DEFINITION. The serial ports: sentences, binary messages, RTCM messages (R552 to R559).
-/

namespace Sys2Proof.Machine

/-- The port entry of SERp, 1 to 8 (R553). -/
def State.serEntry (s : State) (p : Nat) : List Byte := (s.entry? 0x41 0x02 (p - 1)).getD []

/-- A serial port. -/
def State.ser (s : State) (p : Nat) : SerPort := s.buses.ser.getD (p - 1) .reset

/-- A serial port changed. -/
def State.onSer (s : State) (p : Nat) (f : SerPort → SerPort) : State :=
  { s with buses.ser := setAt s.buses.ser (p - 1) f }

/-- Counters of a port: 0 discarded messages, 1 overflows, 2 parity or framing errors, 3 unmatched messages; and per message
8 × (p − 1) + k: 4 saturated fields, 5 stale messages (R560). -/
def ctrSer (kind p : Nat) : Nat := 0x41F00000 + kind * 256 + p

/-- A discard for errors: counted, with event 0x4101 at most once per 60 s per port (R555, R556). -/
def State.serDiscard (s : State) (p : Nat) : State :=
  let s1 := s.count (ctrSer 0 p)
  if s.since ((s.ser p).errorEvent.map (· + 60 * secNs)) 0 || (s.ser p).errorEvent.isNone then
    (s1.onSer p fun k => { k with errorEvent := some s.now }).raise 0x4101 [p]
  else s1

/-- The value of a hexadecimal digit. -/
def hexDigit (b : Byte) : Option Nat :=
  let n := b.toNat
  if 48 ≤ n ∧ n ≤ 57 then some (n - 48)
  else if 65 ≤ n ∧ n ≤ 70 then some (n - 55)
  else if 97 ≤ n ∧ n ≤ 102 then some (n - 87)
  else none

/-- The XOR of some bytes. -/
def xorBytes (bs : List Byte) : Nat := bs.foldl (fun a b => a ^^^ b.toNat) 0

/-- The checksum field of a sentence or TAG body, the bytes between its delimiters: none, right or wrong. -/
def nmeaCheck (body : List Byte) : Option Bool :=
  let before := body.takeWhile fun b => b ≠ 0x2A
  let rest := body.drop before.length
  match rest with
  | _ :: a :: b :: _ =>
    match hexDigit a, hexDigit b with
    | some x, some y => some (16 * x + y = xorBytes before)
    | _, _ => some false
  | _ :: _ => some false
  | [] => none

/-- The slot a message goes to: the first that matches (R554). `kind` 1 sentence, 2 binary, 3 RTCM3. -/
def State.serSlot (s : State) (p kind typ : Nat) (head : List Byte) : Option Nat :=
  (List.range 16).find? fun i =>
    match s.entry? 0x41 0x03 (16 * (p - 1) + i) with
    | none => false
    | some e =>
      u8 e 0 = kind &&
        (if kind = 3 then true
         else if kind = 2 then u32 e 2 = typ
         else (List.range 5).all fun k => slice e (2 + k) 1 = [0x3F] || slice e (2 + k) 1 = slice head k 1)

/-- A message delivered to its slot (R554, R557); binary messages with TYPE_W 0 go to slot 0. -/
def State.serDeliver (s : State) (p kind typ flags : Nat) (head bytes : List Byte) (first last : Nat) : State :=
  let e := s.serEntry p
  let slot := if kind = 2 ∧ u8 e 19 = 0 then some 0 else s.serSlot p kind typ head
  match slot with
  | none => s.count (ctrSer 3 p)
  | some i =>
    s.send (0x0500 + 16 * (p - 1) + i) last 0 (le 8 first ++ le 2 bytes.length ++ le 2 flags ++ pad4 bytes)

/-- A complete sentence with its TAG block, if any (R555). -/
def State.sentence (s : State) (p : Nat) (last : Nat) : State :=
  let k := s.ser p
  let body := k.rx.map (·.1)
  let tag := k.tag.map (·.1)
  let s1 := s.onSer p fun k => { k with rx := [], tag := [], inTag := false }
  let inner := (body.drop 1).take (body.length - 3)
  let tagOk := tag.isEmpty || nmeaCheck ((tag.drop 1).take (tag.length - 2)) = some true
  let first := ((k.tag ++ k.rx).head?.map (·.2.1)).getD last
  let deliver (noSum : Bool) : State :=
    s1.serDeliver p 1 0 (b2n noSum + 2 * b2n (!tag.isEmpty)) inner (tag ++ body) first last
  if !tagOk then s1.serDiscard p
  else
    match nmeaCheck inner with
    | some true => deliver false
    | some false => s1.serDiscard p
    | none => if bit (u8 (s.serEntry p) 2) 5 then deliver true else s1.serDiscard p

/-- A character of a port with PROTO 1 (R555). -/
def State.sentenceChar (s : State) (p : Nat) (c : Byte) (start last : Nat) (err : Bool) : State :=
  let k := s.ser p
  let busy := !k.rx.isEmpty
  let clear (s : State) : State := s.onSer p fun k => { k with rx := [], tag := [], inTag := false }
  if err then
    let s1 := clear (s.count (ctrSer 2 p))
    if busy || k.inTag then s1.serDiscard p else s1
  else if c = 0x24 ∨ c = 0x21 then
    let s1 := if busy then (clear s).serDiscard p else s
    s1.onSer p fun k => { k with rx := [(c, start, last)], inTag := false }
  else if k.inTag then
    s.onSer p fun k => { k with tag := k.tag ++ [(c, start, last)], inTag := c ≠ 0x5C }
  else if c = 0x5C && !busy then s.onSer p fun k => { k with tag := [(c, start, last)], inTag := true }
  else if !busy then s
  else
    let s1 := s.onSer p fun k => { k with rx := k.rx ++ [(c, start, last)] }
    if 82 < k.rx.length + 1 then (clear s1).serDiscard p
    else if c = 0x0A && (k.rx.getLast?.map (·.1)) = some 0x0D then s1.sentence p last
    else s1

/-- One bit of a CRC-16 register with polynomial 0x1021. -/
def crc16Bit (r : Half) : Half := if r.getMsbD 0 then (r <<< 1) ^^^ 0x1021#16 else r <<< 1

/-- One byte into the CRC-16 register. -/
def crc16Byte (r : Half) (b : Byte) : Half :=
  crc16Bit (crc16Bit (crc16Bit (crc16Bit (crc16Bit (crc16Bit (crc16Bit (crc16Bit (r ^^^ (b.setWidth 16 <<< 8)))))))))

/-- CRC-16 with initial value 0xFFFF (R553). -/
def crc16 (bs : List Byte) : Nat := (bs.foldl crc16Byte 0xFFFF#16).toNat

/-- Whether the CHECK of a binary message is right (R553). -/
def binaryCheck (e m : List Byte) : Bool :=
  let n := m.length
  let body (k : Nat) : List Byte := (m.take (n - k)).drop (u8 e 21)
  match u8 e 20 with
  | 1 => field m (n - 1) 1 = xorBytes (body 1)
  | 2 => field m (n - 1) 1 = ((body 1).foldl (fun a b => a + b.toNat) 0) % 256
  | 3 => field m (n - 2) 2 = ((body 2).foldl (fun a b => a + b.toNat) 0) % 65536
  | 4 => ofBe (slice m (n - 2) 2) = crc16 (body 2)
  | 5 => field m (n - 4) 4 = (crc32c (body 4)).toNat
  | _ => true

/-- The sync bytes of a port: its own (R553), or the RTCM preamble. -/
def syncOf (e : List Byte) (rtcm : Bool) : List Byte := if rtcm then [0xD3] else slice e 8 (u8 e 12)

/-- Total length of the message that begins a buffer, once its length field is there (R553, R556). -/
def frameLength (e : List Byte) (rtcm : Bool) (m : List Byte) : Option Nat :=
  if rtcm then if m.length < 3 then none else some (ofBe (slice m 1 2) % 1024 + 6)
  else if u8 e 13 = 0xFF then some (u16 e 16)
  else if m.length < u8 e 13 + u8 e 14 then none
  else some ((field m (u8 e 13) (u8 e 14) : Int) + fieldInt e 15 1).toNat

/-- A buffer of a binary or RTCM port worked off: messages are delivered, failed ones discarded (R556, R557). -/
def State.serScan (s : State) (p : Nat) (rtcm : Bool) : Nat → State
  | 0 => s
  | fuel + 1 =>
    let k := s.ser p
    let e := s.serEntry p
    let m := k.rx.map (·.1)
    let sync := syncOf e rtcm
    let have_ := min m.length sync.length
    if m.isEmpty then s
    else if m.take have_ ≠ sync.take have_ then
      (s.onSer p fun k => { k with rx := k.rx.drop 1 }).serScan p rtcm fuel
    else if m.length < sync.length then s
    else
      match frameLength e rtcm m with
      | none => s
      | some n =>
        let bad (s : State) : State :=
          ((s.onSer p fun k => { k with rx := k.rx.drop sync.length }).serDiscard p).serScan p rtcm fuel
        if 1029 < n ∨ (!rtcm ∧ 1024 < n) ∨ n < sync.length then bad s
        else if m.length < n then s
        else
          let msg := m.take n
          let ok := if rtcm then (crc24q (msg.take (n - 3))).toNat = ofBe (slice msg (n - 3) 3) else binaryCheck e msg
          if !ok then bad s
          else
            let first := (k.rx.head?.map (·.2.1)).getD 0
            let last := (k.rx[n - 1]?.map (·.2.2)).getD 0
            let s1 := s.onSer p fun k => { k with rx := k.rx.drop n }
            (s1.serDeliver p (if rtcm then 3 else 2) (field msg (u8 e 18) (u8 e 19)) 0 [] msg first last).serScan p
              rtcm fuel

/-- A receive buffer overflow discards the message in progress (R558). -/
def State.serOverflow (s : State) (p : Nat) : State :=
  ((s.onSer p fun k => { k with rx := [], tag := [], inTag := false }).count (ctrSer 1 p)).raise 0x4102 [p]

/-- Data bits and parity bit of a character (R553). -/
def charData (e : List Byte) : Nat := 7 + b2n (bit (u8 e 2) 0) + b2n (bits (u8 e 2) 2 1 ≠ 0)

/-- Some half bits of a port in ns, at its rate (R552, R553). -/
def halfBits (e : List Byte) (n : Nat) : Nat := n * 500000000 / max 1 (u32 e 4)

/-- One character time of a port: start bit, data, parity, stop bits (R552, R553). -/
def charTime (e : List Byte) : Nat := halfBits e (2 * (2 + charData e + b2n (bit (u8 e 2) 3)))

/-- A message of the transmit queue of a port (R538, R559). -/
def SerQueued.due (q : SerQueued) (frame : Word) : Bool := q.lifetime ≠ 0 && decide (q.lifetime ≤ (frame - q.written).toNat)

/-- The queue of a port worked off in order: a message starts when the one before it has ended, on RS-485 after GAP character times of
idle line, and takes its character times (R552, R559). -/
def State.serRun (s : State) (p : Nat) : Nat → State
  | 0 => s
  | fuel + 1 =>
    let k := s.ser p
    let e := s.serEntry p
    match k.queue with
    | [] => s
    | q :: rest =>
      let idle := if u8 e 0 = 2 then max k.busyUntil k.lastRx + u8 e 3 * charTime e else k.busyUntil
      let start := max q.at_ idle
      if s.now < start then s
      else
        (s.onSer p fun k =>
          { k with queue := rest, busyUntil := start + q.data.length * charTime e, sent := k.sent ++ [(start, q.data)] }).serRun p fuel

/-- The queue of a port up to now. -/
def State.serAdvance (s : State) (p : Nat) : State := s.serRun p (s.ser p).queue.length

/-- A message into the queue of a port; one of the same number that waits is replaced in place (R536, R559; DESIGN CHOICE, log 120). -/
def State.serQueue (s : State) (p k lifetime : Nat) (data : List Byte) : State :=
  let s := s.serAdvance p
  let q : SerQueued := { num := k, data := data, at_ := s.now, written := s.frame.number, lifetime := lifetime }
  if (s.ser p).queue.any fun x => x.num = k then
    s.onSer p fun x => { x with queue := x.queue.map fun y => if y.num = k then { q with at_ := y.at_ } else y }
  else s.onSer p fun x => { x with queue := x.queue ++ [q] }

/-- Messages of a port withdrawn at the strobe n + L unless they have started (R538, R559). -/
def State.expireSerial (s : State) (p : Nat) : State :=
  let s := s.serAdvance p
  let gone := (s.ser p).queue.filter fun q => q.due s.frame.number
  let s1 := s.onSer p fun k => { k with queue := k.queue.filter fun q => !q.due s.frame.number }
  gone.foldl (fun s q => s.count (ctrSer 5 (8 * (p - 1) + q.num))) s1

/-- Waiting messages that a bank swap removes or changes are withdrawn (R539, R559). -/
def State.withdrawSerial (s : State) (changed : Nat → Nat → Bool) : State :=
  (List.range 8).foldl (fun (s : State) i =>
    (s.serAdvance (i + 1)).onSer (i + 1) fun k => { k with queue := k.queue.filter fun q => !changed (i + 1) q.num }) s

/-- ENTRY_LIFETIME_EXPIRY at a strobe (R538, R559). -/
def execEntryLifetimeExpiry (t : Nat) (s : State) : Result :=
  let s1 := (List.range 6).foldl (fun s i => s.expireEntries (i + 1)) (s.tick t)
  .next ((List.range 8).foldl (fun s i => s.expireSerial (i + 1)) s1)

/-- SERIAL_CHARACTER_RECEIVE at the centre of its first stop bit, from which its start-bit edge follows; with a parity or framing error,
or lost because the receive buffer of 4096 bytes is full (R555 to R558). An RS-485 port ignores its own transmission (R559). -/
def execSerialCharacterReceive (t p : Nat) (c : Byte) (err overflow : Bool) (s : State) : Result :=
  let s := (s.tick t).serAdvance p
  if s.unitHeld (0x10 + p) then .next s else
  let e := s.serEntry p
  let k := s.ser p
  if u8 e 0 = 0 ∨ (u8 e 0 = 2 ∧ s.now < k.busyUntil) then .next s
  else
    let start := s.now - halfBits e (2 * charData e + 3)
    let s := s.onSer p fun k => { k with lastRx := s.now }
    if u8 e 1 = 0 then .next s
    else if overflow || decide (4096 ≤ k.rx.length + k.tag.length) then .next (s.serOverflow p)
    else if u8 e 1 = 1 then .next (s.sentenceChar p c start s.now err)
    else if err then .next (s.count (ctrSer 2 p))
    else
      let s1 := s.onSer p fun k => { k with rx := k.rx ++ [(c, start, s.now)] }
      .next (s1.serScan p (u8 e 1 = 3) 1200)

/-- What is left of a cut message is searched again from the byte after the failed sync, and cut in turn (R556). -/
def State.serCut (s : State) (p : Nat) (rtcm : Bool) : Nat → State
  | 0 => s
  | fuel + 1 =>
    if (s.ser p).rx.isEmpty then s
    else
      let n := (syncOf (s.serEntry p) rtcm).length
      let whole := n ≤ (s.ser p).rx.length
      let s1 := s.onSer p fun k => { k with rx := k.rx.drop (max 1 n) }
      let s2 := if whole then s1.serDiscard p else s1
      (s2.serScan p rtcm 1200).serCut p rtcm fuel

/-- SERIAL_GAP_TIMEOUT: an idle time of GAP characters cuts a binary message short (R553, R556). -/
def execSerialGapTimeout (t p : Nat) (s : State) : Result :=
  let s := s.tick t
  if s.unitHeld (0x10 + p) then .next s else
  let e := s.serEntry p
  let idle : Bool := (s.ser p).rx.getLast?.all fun x => decide (x.2.2 + u8 e 3 * charTime e ≤ s.now)
  if u8 e 1 = 2 ∧ idle then .next (s.serCut p false 1200) else .next s

end Sys2Proof.Machine
end

