-- ==== Sys2Proof/Machine/Output.lean ====
section
/-!
DEFINITION. The output stage: load-reduction scaling, hold and ramp, message packing, dispatch, load-shed contacts
(R305, R366 to R370, R392, R400, R470, R547).
-/

namespace Sys2Proof.Machine

/-- The commands a record carries (R346). -/
def LaneRecord.commands (r : LaneRecord) : List ActCmd :=
  r.alloc.acts.map fun a => { num := a.num, fx := a.fx, fy := a.fy, cmd1 := a.cmd1, cmd2 := a.cmd2 }

/-- Ramp frames NR (R392). -/
def State.rampFrames (s : State) : Nat := (s.paramN 0x70010003 * 1000 + s.frame.period - 1) / s.frame.period

/-- A value of ramp frame j: multiplied by (NR − j) / NR, rounded towards zero; zero after frame NR (R392). -/
def rampValue (nr j : Nat) (v : Int) : Int := if nr ≤ j then 0 else (v * ((nr : Int) - j)).tdiv nr

/-- The commands the output stage stands on: released, frozen, or ramping (R381, R392). -/
def State.standing (s : State) : List ActCmd :=
  match s.ridge.holdStage with
  | .ramp j =>
    let nr := s.rampFrames
    s.out.released.map fun c =>
      { c with fx := rampValue nr j c.fx, fy := rampValue nr j c.fy, cmd1 := rampValue nr j c.cmd1 }
  | _ => s.out.released

/-- The factors of a contact for an actuator: 1 while it is not applied, was already shown to the record, does not shed the
actuator's section, or keeps the actuator (R368). -/
def State.contactFactors (s : State) (k : Nat) (act sec : Nat) : Nat × Nat :=
  let c := if k = 0 then s.out.ls1 else s.out.ls2
  let shown := if k = 0 then s.out.shown1 else s.out.shown2
  let b := s.config.active
  if c.applied && !shown && (1 ≤ sec && bit (b.shedSections k) (sec - 1)) then b.shedFactors k act else (65536, 65536)

/-- A command scaled by the applied contacts (R368). -/
def State.scaled (s : State) (c : ActCmd) : ActCmd :=
  let sec := ((s.config.active.act? c.num).map (·.section_)).getD 0
  let a := s.contactFactors 0 c.num sec
  let b := s.contactFactors 1 c.num sec
  let kf : Int := min a.1 b.1
  let kc : Int := min a.2 b.2
  { c with
    fx := (c.fx * kf + 32768) / 65536
    fy := (c.fy * kf + 32768) / 65536
    cmd1 := (c.cmd1 * kc + 32768) / 65536 }

/-- The module sends no commands: it does not hold duty (R400, R403). -/
def State.twin (s : State) : Bool := s.peer.duty ≠ .duty

/-- Health code (R388). -/
def Health.code : Health → Nat
  | .healthy => 0
  | .degraded => 1
  | .hold => 2
  | .failed => 3

/-- Mode code of the record last released; STANDBY before any. -/
def State.releasedMode (s : State) : Nat := (s.out.record.map (·.mode)).getD 0

/-- STATE of an actuator in the record last released (R318). -/
def State.releasedState (s : State) (a : Nat) : Nat :=
  match s.out.record with
  | none => 0
  | some r => ((r.alloc.acts.find? fun x => x.num = a).map (·.st)).getD 0

/-- Command bit k from its table entry and the commands written (R470). -/
def State.commandBit (s : State) (cmds : List ActCmd) (k : Nat) : Bool :=
  match s.entry? 0x30 0x03 k with
  | none => false
  | some e =>
    let cmd1 := (cmds.find? fun c => c.num = u8 e 1).map (·.cmd1)
    let mask := u16 e 2
    match u8 e 0 with
    | 1 => (cmd1.map fun v => decide (i32 e 4 < v)).getD false
    | 2 => (cmd1.map fun v => decide (v < i32 e 4)).getD false
    | 3 => bit mask (s.releasedState (u8 e 1))
    | 4 => bit mask s.releasedMode
    | 5 => bit mask s.ridge.health.code
    | 6 => !s.twin
    | 7 => ((s.out.record.map fun r => decide (r.conseq.failAlm ≠ 0))).getD false
    | _ => false

/-- The command bits of a dispatch (R470). In STANDBY-TWIN rule 9 of R472 holds the outputs they command off. -/
def State.commandBits (s : State) (cmds : List ActCmd) : Nat :=
  (List.range 64).foldl (fun n k => n + 2 ^ k * b2n (s.commandBit cmds k)) 0

/-- What messages are packed from (R547, R549). -/
def State.packSource (s : State) (cmds : List ActCmd) (bits : Nat) : PackSource :=
  { acts := cmds.map fun c => (c.num, [c.fx, c.fy, c.cmd1, c.cmd2, (s.releasedState c.num : Int)]),
    bits := (List.range 64).map fun k => bit bits k, mode := s.releasedMode, health := s.ridge.health.code }

/-- Whether a message entry is packed in this frame: EVERY, MODES, and COMMAND only with duty (R546, R547). -/
def State.packs (s : State) (e : List Byte) : Bool :=
  let every := max 1 (u8 e 7)
  bit (u8 e 5) 7 && s.frame.number.toNat % every = 0 && bit (u8 e 8) s.releasedMode && !(bit (u8 e 5) 2 && s.twin)

/-- Message k of BUSb, with its table entry, packed and written into its buffer (R536, R547). -/
def State.packEntry (s : State) (src : PackSource) (b k : Nat) (e : List Byte) : State :=
  let alive := (assoc (s.bus b).alive k).getD 0
  let ds := s.config.active.descs (u16 e 10) (u8 e 12)
  let r := packMessage ds (u8 e 4) src alive
  let id := u32 e 0
  let f : CanFrame :=
    { id := id % 536870912, ide := bit id 31, fdf := bit id 30, brs := bit id 29, rtr := false, esi := false,
      data := r.1 }
  let s1 := s.onBus b fun x => { x with alive := assocSet x.alive k (alive + 1) }
  (s1.countN (ctrBus 5 b k) r.2).writeEntry b (u8 e 5 % 4) k f (u8 e 6)

/-- Message k of BUSb packed where its entry allows it (R547). -/
def State.packBus (s : State) (src : PackSource) (b k : Nat) : State :=
  match s.entry? 0x40 0x05 (32 * (b - 1) + k) with
  | none => s
  | some e => if s.packs e then s.packEntry src b k e else s

/-- Message k of SERp packed and queued, in message-number order (R559). -/
def State.packSer (s : State) (src : PackSource) (p k : Nat) : State :=
  match s.entry? 0x41 0x04 (8 * (p - 1) + k) with
  | none => s
  | some e =>
    if !s.packs e ∨ u8 (s.serEntry p) 0 = 0 ∨ s.unitHeld (0x10 + p) then s
    else
      let alive := (assoc (s.ser p).alive k).getD 0
      let r := packMessage (s.config.active.descs (u16 e 10) (u8 e 12)) (u8 e 4) src alive
      ((s.onSer p fun x => { x with alive := assocSet x.alive k (alive + 1) }).serQueue p k (u8 e 6) r.1).countN
        (ctrSer 4 (8 * (p - 1) + k)) r.2

/-- Every message of the tables, in ascending bus, port and message number (R547). -/
def State.packAll (s : State) (src : PackSource) : State :=
  let s1 := (List.range 6).foldl (fun s b => (List.range 32).foldl (fun s k => s.packBus src (b + 1) k) s) s
  (List.range 8).foldl (fun (s : State) p =>
    (List.range 8).foldl (fun s k => s.packSer src (p + 1) k) s) s1

/-- The forces of the DISPATCHED section: those sent, or in STANDBY-TWIN the peer's (R305, R400). -/
def State.dispatchedNow (s : State) (cmds : List ActCmd) : List (Int × Int) :=
  if s.twin then
    match s.out.fromPeer with
    | some fs => fs
    | none => List.replicate 24 (0, 0)
  else
    (List.range 24).map fun i =>
      match cmds.find? fun c => c.num = i with
      | some c => (c.fx, c.fy)
      | none => (0, 0)

/-- The field I/O unit takes a dispatch: command bits, duty value, watchdog, outputs (R469 to R471, R515). -/
def State.fioDispatch (s : State) (bits : Nat) : State :=
  let s1 : State := { s with fio.cmdBits := bits, fio.duty := s.peer.duty = .duty && s.paramN 0x71010001 = 1, fio.undispatched := 0, fio.expired := false }
  let s2 := s1.raiseIf s.fio.expired 0x3007 [0]
  (s2.dioPass).aoPass

/-- Outputs and messages written from the standing commands after scaling (R88, R305, R368, R547). -/
def State.writeCommands (s : State) : State :=
  if s.fio.inhibit then s
  else
    let cmds := s.standing.map s.scaled
    let bits := s.commandBits cmds
    let s1 : State := { s with out.sent := if s.twin then [] else cmds
                               out.dispatched := s.dispatchedNow cmds }
    (s1.fioDispatch bits).packAll (s.packSource cmds bits)

/-- The actuators that a contact's change affects: of its sections, not kept (R368, R369). -/
def State.affected (s : State) (contact : Nat) : List Nat :=
  s.config.active.acts.filterMap fun q =>
    let sec := q.2.section_
    if 1 ≤ sec && bit (s.config.active.shedSections contact) (sec - 1) && s.config.active.shedFactors contact q.1 ≠ (65536, 65536)
    then some q.1 else none

/-- A message that carries a command of one of some actuators (R546, R549). -/
def State.carriesOne (s : State) (e : List Byte) (acts : List Nat) : Bool :=
  bit (u8 e 5) 2 && (s.config.active.descs (u16 e 10) (u8 e 12)).any fun d => 1 ≤ d.kind && d.kind ≤ 5 && acts.contains d.arg

/-- The scaling rewrite at an asserting change: DISPATCHED, the analogue and digital outputs, and every unsent bus command frame of the
affected actuators, replaced under the same identifier (R369). -/
def State.rewriteScaled (s : State) (contact : Nat) : State :=
  if s.fio.inhibit then s
  else
    let cmds := s.standing.map s.scaled
    let bits := s.commandBits cmds
    let acts := s.affected contact
    let s1 : State := { s with out.sent := if s.twin then [] else cmds
                               out.dispatched := s.dispatchedNow cmds }
    let s2 := s1.fioDispatch bits
    let src := s2.packSource cmds bits
    (List.range 6).foldl (fun s b => (List.range 32).foldl (fun (s : State) k =>
      match s.entry? 0x40 0x05 (32 * b + k) with
      | none => s
      | some e =>
        let waits : Bool := ((s.bus (b + 1)).buffers.getD (u8 e 5 % 4) []).any fun x => x.owner = k
        if waits && s.carriesOne e acts && !s.twin then s.packEntry src (b + 1) k e else s) s) s2

/-- OUTPUT_DISPATCH of a frame, with its test pulses (R88, R467). -/
def State.dispatch (s : State) : State := if s.fio.inhibit then s else s.writeCommands.testPulses

/-- A record becomes the one the output stage stands on; the contacts its snapshot showed are not scaled again (R368, R381). -/
def State.stand (s : State) (r : LaneRecord) : State :=
  { s with out.released := r.commands, out.record := some r, out.shown1 := bit r.conseq.lsState 0,
           out.shown2 := bit r.conseq.lsState 1, ridge.releasedFrame := some r.frame }

/-- The LSHED sample, source 0x0021 (R370); the change counts begin anew. -/
def State.lshedSample (s : State) : List Byte × State :=
  let a := s.out.ls1
  let b := s.out.ls2
  (le 1 (b2n a.applied + 2 * b2n b.applied) ++ le 1 (b2n a.closed + 2 * b2n b.closed) ++ le 2 0
    ++ le 4 (a.changes + 65536 * b.changes) ++ le 8 a.ts ++ le 8 b.ts,
   { s with out.ls1.changes := 0, out.ls2.changes := 0 })

/-- The level that the samples of an LSHED contact agree on (R708): closed from 3 mA, open up to 1 mA; between them the contact keeps the
level it has (DESIGN CHOICE, log 52). -/
def contactClosed (old : Bool) (ua : Nat) : Bool := if 3000 ≤ ua then true else if ua ≤ 1000 then false else old

/-- A load-shed contact change accepted: the contact is applied or released, and at an asserting change the last commands are
scaled and rewritten at once (R366, R368, R369). `contact` is 0 for LS1, 1 for LS2; `ua` is the loop current of the agreeing samples. -/
def execLoadShedContactAccept (t contact ua : Nat) (s : State) : Result :=
  let s := s.tick t
  let closed := contactClosed (if contact = 0 then s.out.ls1 else s.out.ls2).closed ua
  let opensSheds := s.paramN (0x22040001 + contact) = 1
  let applied : Bool := if opensSheds then !closed else closed
  let old := if contact = 0 then s.out.ls1 else s.out.ls2
  if old.closed = closed then .next s
  else
    let new : Contact :=
      { closed := closed, applied := applied, changes := min 0xFFFF (old.changes + 1), ts := s.now }
    let s1 : State :=
      if contact = 0 then { s with out.ls1 := new, out.shown1 := s.out.shown1 && old.applied }
      else { s with out.ls2 := new, out.shown2 := s.out.shown2 && old.applied }
    let s2 := s1.raise (if applied then 0x2207 else 0x2208) [contact, s.config.active.shedSections contact]
    .next (if applied then s2.rewriteScaled contact else s2)

end Sys2Proof.Machine
end

