-- ==== Sys2Proof/Machine/Ridge.lean ====
section
/-!
DEFINITION. The Ridge comparator: comparison and release of records, decisions after a mismatch, health states, hold,
health reset and rejoin (R87, R89, R94 to R98, R379 to R395).
-/

namespace Sys2Proof.Machine

/-- The lanes that are not excluded. -/
def State.inService (s : State) : List LaneId :=
  [LaneId.a, LaneId.b].filter fun l => !(s.lane l).excluded

/-- A lane changed. -/
def State.onLane (s : State) (l : LaneId) (f : Lane → Lane) : State := s.setLane l (f (s.lane l))

/-- The record of a lane at the comparator: none when it is absent (R89) or an error of the lane spoilt it. -/
def State.slotOf (s : State) (l : LaneId) (late corrupt : Bool) : Option LaneRecord :=
  if late || corrupt || (s.lane l).sliceFailed then none else (s.lane l).slot

/-- Two records are equal: both present, no fault flag, the same bytes (R379). -/
def recordsEqual (a b : Option LaneRecord) : Bool :=
  match a, b with
  | some x, some y => !x.faulty && !y.faulty && decide (x = y)
  | _, _ => false

/-- A record that carries SNAPSHOT_LOST. -/
def isLost (a : Option LaneRecord) : Bool :=
  match a with
  | some x => x.snapshotLost
  | none => false

/-- Frame a is not later than frame n (R21). -/
def notLater (a n : Word) : Bool := (n - a).toNat < 2147483648

/-- A held reply is due with the list of frame n; that of REC_FLUSH once its yealms are written (R578, R640). -/
def State.replyDue (s : State) (n : Word) (v : FrameReply) : Bool :=
  notLater v.frame n && s.recorder.ram.all fun y => v.written ≤ y.yseq

/-- Replies held for frames up to n cross, with DEVICE_FAULT when no list is released (R578, R391). -/
def State.releaseReplies (s : State) (n : Word) (fail : Bool) : State :=
  let due := s.host.frameReplies.filter (s.replyDue n)
  let s1 := { s with host.frameReplies := s.host.frameReplies.filter fun v => !s.replyDue n v }
  due.foldl (fun s v =>
    let reply : Reply :=
      if fail then { v.reply with status := BitVec.ofNat 16 stDeviceFault, payload := [] }
      else if v.stamp then { v.reply with payload := le 4 v.frame.toNat }
      else v.reply
    (s.onHandle v.reply.handle fun k => if k.stage = .pending then { k with stage := .running } else k).crossReply reply) s1

/-- Replies held for frames up to n wait for frame m instead (R382). -/
def State.retagReplies (s : State) (n m : Word) : State :=
  { s with host.frameReplies := s.host.frameReplies.map fun (v : FrameReply) =>
      if notLater v.frame n then { v with frame := m } else v }

/-- Exclusion of a lane ordered for the next strobe, with its cause: 1 known-answer set, 2 transient counts, 3 online slice,
4 Lane reset, 5 memory error (R381, R384, R386, R661). -/
def State.orderExclusion (s : State) (l : LaneId) (cause : Nat) : State :=
  if (s.lane l).excluded then s
  else
    match l with
    | .a => { s with ridge.decision := s.ridge.decision ||| 1, ridge.causeA := cause }
    | .b => { s with ridge.decision := s.ridge.decision ||| 2, ridge.causeB := cause }

/-- HOLD ordered for the next strobe. -/
def State.orderHold (s : State) : State := { s with ridge.decision := s.ridge.decision ||| 4 }

/-- FAILED ordered for the next strobe. -/
def State.orderFailed (s : State) : State := { s with ridge.decision := s.ridge.decision ||| 8 }

/-- A transient count given to a lane for frame n: those of the last W frames are kept (R384). -/
def State.giveTransient (s : State) (l : LaneId) (n : Word) : State :=
  let w := 600000 / s.frame.period
  let kept := ((s.lane l).transients.filter fun f => (n.toNat + 4294967296 - f) % 4294967296 < w) ++ [n.toNat]
  (s.onLane l fun x => { x with transients := kept }).raise 0x7002 [l.code, kept.length]

/-- The decision of R384 after transient counts given at one decision. -/
def State.judgeTransients (s : State) (given : List LaneId) : State :=
  match given.filter fun l => 4 ≤ (s.lane l).transients.length with
  | [] => s
  | [l] => s.orderExclusion l 2
  | _ => s.orderHold

/-- Transient counts given to some lanes (R381, R384). -/
def State.giveTransients (s : State) (ls : List LaneId) (n : Word) : State :=
  (ls.foldl (fun s l => s.giveTransient l n) s).judgeTransients ls

/-- A frame withheld and never released unless a replay of it is (R381, R382). -/
def State.withhold (s : State) (a b : Option LaneRecord) (kat : Bool) : State :=
  { s with ridge.withheld := some s.frame.number
           ridge.restore := true
           ridge.origA := a
           ridge.origB := b
           ridge.katDue := kat
           ridge.equalRun := 0 }

/-- A record released: the output stage stands on it and dispatches, the replies of its frame follow (R379, R578). -/
def State.release (s : State) (r : LaneRecord) : State := ((s.stand r).dispatch).releaseReplies r.frame false

/-- The halves reach different verdicts (R380). -/
def State.halvesDisagree (s : State) : State :=
  let s1 := { s with ridge.halvesRun := s.ridge.halvesRun + 1 }.raise 0x7008 [s.frame.number.toNat]
  if 2 ≤ s1.ridge.halvesRun then s1.orderFailed else s1

/-- The comparison of a frame in HEALTHY (R87, R379, R381). -/
def State.compareHealthy (s : State) (a b : Option LaneRecord) : State :=
  match a with
  | some r =>
    if recordsEqual a b then
      { s with ridge.equalRun := s.ridge.equalRun + 1, frame.lostRun := 0 }.release r
    else if isLost a && isLost b then
      let run := s.frame.lostRun + 1
      let s1 := ({ s with frame.lostRun := run, ridge.equalRun := 0 }.raise 0x7003 [s.frame.number.toNat]).retagReplies
        s.frame.number (s.frame.number + 1)
      (if 3 ≤ run then s1.orderHold else s1).dispatch
    else
      let s1 := ({ s with frame.lostRun := 0 }.withhold a b true).raise 0x7001 [s.frame.number.toNat]
      s1.dispatch
  | none =>
    let s1 := ({ s with frame.lostRun := 0 }.withhold a b true).raise 0x7001 [s.frame.number.toNat]
    s1.dispatch

/-- A failed step of a rejoin: the lane returns to its Lane reset (R395). -/
def State.failRejoin (s : State) : State :=
  match s.ridge.rejoin with
  | none => s
  | some j =>
    let s1 := s.onLane j.lane fun x => { Lane.reset with excluded := true, inReset := true, transients := x.transients }
    let s2 : State :=
      match j.lane with
      | .a => { s1 with ridge.rejoin := none, ridge.failedA := s1.ridge.failedA + 1 }
      | .b => { s1 with ridge.rejoin := none, ridge.failedB := s1.ridge.failedB + 1 }
    (s2.raise 0x7007 [j.lane.code, j.step, 2]).finish? j.handle stDeviceFault []

/-- The trial comparison of a rejoin (R395). -/
def State.trial (s : State) (mine : Option LaneRecord) (other : Option LaneRecord) : State :=
  match s.ridge.rejoin with
  | none => s
  | some j =>
    if j.step ≠ 5 then s
    else if recordsEqual mine other then
      { s with ridge.rejoin := some { j with equalRun := j.equalRun + 1 } }
    else s.failRejoin

/-- The frame in DEGRADED: the remaining lane's record, without comparison (R89, R388, R390). -/
def State.compareDegraded (s : State) (mine : Option LaneRecord) : State :=
  match mine with
  | none =>
    let run := s.frame.lateRun + 1
    let s1 := { s with frame.lateRun := run, ridge.faultyRun := 0 }.raise 0x7004 [s.frame.number.toNat]
    (if 2 ≤ run then s1.orderHold else s1).dispatch
  | some r =>
    if r.faulty then
      let run := s.ridge.faultyRun + 1
      let s1 := { s with frame.lateRun := 0, ridge.faultyRun := run }
      let s2 := if 2 ≤ run then s1.orderHold else s1
      let s3 := if r.snapshotLost then s2.retagReplies s.frame.number (s.frame.number + 1)
        else s2.releaseReplies r.frame false
      s3.dispatch
    else { s with frame.lateRun := 0, ridge.faultyRun := 0 }.release r

/-- Commands that no lane is left to decide are answered DEVICE_FAULT; a long operation among them ends (R391, R584). -/
def State.refuseUndecided (s : State) : State :=
  s.frame.undecided.foldl (fun s c =>
    match opInfo? c.opcode with
    | none => s
    | some o =>
      (if o.long then s.dropRefused o c.handle else s).crossReply (c.req.reply c.opcode 0 stDeviceFault [])) { s with frame.undecided := [] }

/-- The frame in HOLD or FAILED: nothing is released but the list of command outcomes (R391). -/
def State.compareHeld (s : State) (a b : Option LaneRecord) : State :=
  match s.inService with
  | [] => (s.releaseReplies s.frame.number true).refuseUndecided.dispatch
  | [l] =>
    let r := if l = .a then a else b
    let s1 := if isLost r then s.retagReplies s.frame.number (s.frame.number + 1)
      else s.releaseReplies s.frame.number r.isNone
    s1.dispatch
  | _ =>
    if recordsEqual a b then
      ({ s with ridge.equalRun := s.ridge.equalRun + 1 }.releaseReplies s.frame.number false).dispatch
    else if isLost a && isLost b then
      ({ s with ridge.equalRun := 0 }.retagReplies s.frame.number (s.frame.number + 1)).dispatch
    else ({ s with ridge.equalRun := 0 }.releaseReplies s.frame.number true).dispatch

/-- The comparison of a frame by its health state; the records are used up. -/
def State.compare (s : State) (a b : Option LaneRecord) : State :=
  let s := { s with laneA.slot := none, laneB.slot := none, ridge.halvesRun := 0 }
  match s.ridge.health with
  | .healthy => s.compareHealthy a b
  | .degraded =>
    match s.inService with
    | .b :: _ => (s.compareDegraded b).trial b a
    | _ => (s.compareDegraded a).trial a b
  | _ => s.compareHeld a b

/-- Consecutive frames with SNAPSHOT_LOST from both lanes, where the halves reach no common verdict: the third orders HOLD (R87, R380). -/
def State.countLost (s : State) (a b : Option LaneRecord) : State :=
  let run := if isLost a && isLost b then s.frame.lostRun + 1 else 0
  let s1 : State := { s with frame.lostRun := run }
  if 3 ≤ run then s1.orderHold else s1

/-- RIDGE_COMPARE: the two records of the frame compared and released or withheld (R379 to R381, R89, R390, R391).
`late`: the record is absent; `corrupt`: an error of the lane changed it; `agree`: the halves reach one verdict.
A frame that computes no record dispatches the commands held. -/
def execRidgeCompare (t : Nat) (lateA lateB corruptA corruptB agree : Bool) (s : State) : Result :=
  let s := s.tick t
  match s.frame.replay with
  | .replay => .next s
  | .knownAnswer => .next s.dispatch
  | .none =>
    let a := s.slotOf .a lateA corruptA
    let b := s.slotOf .b lateB corruptB
    let s0 : State := { s with ridge.spoilt := false }
    if agree && !s.ridge.spoilt then .next (s.compare a b)
    else
      let s1 := { s0.halvesDisagree with laneA.slot := none, laneB.slot := none }
      match s.ridge.health with
      | .healthy => .next ((s1.countLost a b).withhold a b false).dispatch
      | .degraded => .next ((s1.trial none none).withhold a b false).dispatch
      | _ => .next (s1.releaseReplies s.frame.number true).dispatch

/-- A lane whose original record differs from the agreed replay (R381). -/
def differsFrom (o : Option LaneRecord) (r : LaneRecord) : Bool :=
  match o with
  | none => true
  | some x => x.faulty || decide ({ x with replayed := true } ≠ { r with replayed := true })

/-- REPLAY_COMPARE: agreeing replays are released and dispatched; otherwise the known-answer set follows (R95, R96, R381). -/
def execReplayCompare (t : Nat) (lateA lateB corruptA corruptB agree : Bool) (s : State) : Result :=
  let s := s.tick t
  if s.frame.replay ≠ .replay then .next s
  else
    let a := s.slotOf .a lateA corruptA
    let b := s.slotOf .b lateB corruptB
    let s := { s with laneA.slot := none, laneB.slot := none }
    let disagreed (s : State) : State :=
      { s with frame.replay := .knownAnswer, laneA.core.stored := s.laneA.core.stored ++ s.laneA.held.toList,
               laneB.core.stored := s.laneB.core.stored ++ s.laneB.held.toList }
    if !agree || s.ridge.spoilt then .next (disagreed { s with ridge.spoilt := false }.halvesDisagree)
    else
      let s := { s with ridge.halvesRun := 0 }
      match a with
      | none => .next (disagreed s)
      | some r =>
        if recordsEqual a b then
          let n := r.frame
          let given := [LaneId.a, LaneId.b].filter fun l =>
            differsFrom (if l = .a then s.ridge.origA else s.ridge.origB) r
          let s1 : State :=
            { s with
              frame.replay := .none
              ridge.withheld := none
              ridge.restore := false
              ridge.katDue := false
              ridge.origA := none
              ridge.origB := none }
          let lost (x : Lane) : Lane :=
            if x.runs && x.held.isNone then { x with slot := some (LaneRecord.lost s1) } else x
          let s2 := (s1.release r).giveTransients given n
          .next { s2 with laneA := lost s2.laneA, laneB := lost s2.laneB }
        else .next (disagreed s)

/-- KNOWN_ANSWER_SET: the set of the frame after a mismatch, and the decision of R381 (R96, R97, R383). -/
def execKnownAnswerSet (t : Nat) (passA passB : Bool) (s : State) : Result :=
  let s := s.tick t
  let s1 := { s with laneA.katPassed := some passA, laneB.katPassed := some passB }
  match s.frame.replay, s.ridge.withheld, s.ridge.katDue with
  | .knownAnswer, some n, true =>
    let s2 := { s1 with ridge.katDue := false }
    if passA && !passB then .next (s2.orderExclusion .b 1)
    else if passB && !passA then .next (s2.orderExclusion .a 1)
    else if passA && s.frame.period < 14 then .next (s2.giveTransients [.a, .b] n)
    else .next s2.orderHold
  | _, _, _ => .next s1

/-- A health reset ends without leaving HOLD (R393). -/
def State.failHealthReset (s : State) : State :=
  { s with ridge.healthReset := none, ridge.healthResetKat := false, ridge.resumeAs := none }.finish?
    s.ridge.healthReset stDeviceFault []

/-- HEALTH_RESET_KAT_COMPLETE: once per reset, in the frame or the window that carries its set: the state the module returns to at the next strobe, or the failure of the reset (R393). -/
def execHealthResetKatComplete (t : Nat) (passA passB : Bool) (s : State) : Result :=
  let s := s.tick t
  match s.ridge.healthReset with
  | none => .next s
  | some _ =>
    if s.ridge.healthResetKat ∨ !(s.frame.katWindow ∨ s.frame.replay = .knownAnswer) then .next s else
    let s1 := { s with laneA.katPassed := some passA, laneB.katPassed := some passB, ridge.healthResetKat := true }
    let goal : Option Health :=
      match s.inService with
      | [.a] => if passA then some .degraded else none
      | [.b] => if passB then some .degraded else none
      | [] => none
      | _ => if passA && passB && 50 ≤ s.ridge.equalRun then some .healthy else none
    match goal with
    | none => .next s1.failHealthReset
    | some h => .next { s1 with ridge.resumeAs := some h }

/-- Entry into HOLD or FAILED: the released commands are frozen for the hold time (R392). A hold in progress goes on. -/
def State.enterHold (s : State) : State :=
  let st : HoldStage :=
    if s.ridge.holdStage ≠ .none then s.ridge.holdStage
    else if 0 < s.paramN 0x70010001 then .frozen
    else if s.paramN 0x70010002 = 1 then .indefinite
    else .ramp 1
  { s with ridge.holdStage := st, ridge.holdSince := if s.ridge.holdStage = .none then s.now else s.ridge.holdSince }

/-- The health state changed at a strobe, with event 0x7006 (R390). -/
def State.setHealth (s : State) (new : Health) : State :=
  if s.ridge.health = new then s
  else
    let old := s.ridge.health
    let s1 :=
      { s with ridge.health := new, frame.lostRun := 0, frame.lateRun := 0, ridge.faultyRun := 0 }.raise 0x7006
        [old.code, new.code]
    let s2 := if new ≠ .degraded && new ≠ .healthy then s1.failRejoin else s1
    let s3 := if old = .hold && s2.ridge.resumeAs.isNone && s2.ridge.healthReset.isSome then s2.failHealthReset else s2
    match new with
    | .hold | .failed => s3.enterHold
    | _ => { s3 with ridge.holdStage := .none }

/-- A lane excluded at a strobe and held in a Lane reset (R387, R390). -/
def State.exclude (s : State) (l : LaneId) (cause : Nat) : State :=
  if (s.lane l).excluded then s
  else
    let alone : Bool := (s.lane l.other).excluded
    let s1 := (s.onLane l fun x =>
      { Lane.reset with excluded := true, inReset := true, transients := x.transients }).raise 0x7005 [l.code, cause]
    let s2 := { s1 with ridge.excludedAt := s.now, ridge.katDue := false }
    match s.ridge.health with
    | .healthy => s2.setHealth .degraded
    | .degraded => s2.setHealth .failed
    | .hold => if alone then s2.setHealth .failed else s2
    | .failed => s2

/-- The state a lane restores at strobe n + 2 after a frame that was never released, with the snapshots of frames n and n + 1 as
inputs (R382). -/
def Lane.restored (x : Lane) (inputs : List Snapshot) : Lane :=
  let c := x.saved.restoredFrom x.core
  { x with core := { c with stored := c.stored ++ inputs }, reapply := true, replaying := false }

/-- The restore of R382 at strobe n + 2; the replies wait for this frame. -/
def State.restoreLanes (s : State) : State :=
  let inputs := s.frame.previous.toList ++ s.frame.current.toList
  let f (x : Lane) : Lane := if x.excluded || x.inReset then x else x.restored inputs
  let s1 : State :=
    { s with
      laneA := f s.laneA
      laneB := f s.laneB
      ridge.restore := false
      ridge.withheld := none
      ridge.katDue := false
      ridge.origA := none
      ridge.origB := none }
  s1.retagReplies (s.frame.number - 1) s.frame.number

/-- The decisions that take effect at a strobe: exclusions, HOLD, FAILED, a return from HOLD, the end of a trial
(R381, R384, R386, R390, R393, R395). -/
def State.healthAtStrobe (s : State) : State :=
  let d := s.ridge.decision
  let s1 := { s with ridge.decision := 0 }
  let s2 := if bit d 0 then s1.exclude .a s.ridge.causeA else s1
  let s3 := if bit d 1 then s2.exclude .b s.ridge.causeB else s2
  let s4 := if bit d 2 && (s3.ridge.health = .healthy || s3.ridge.health = .degraded) then s3.setHealth .hold else s3
  let s5 := if bit d 3 then s4.setHealth .failed else s4
  let s6 :=
    match s5.ridge.resumeAs, s5.ridge.health with
    | some h, .hold =>
      let s' := (s5.setHealth h).finish? s5.ridge.healthReset stOk []
      { s' with ridge.healthReset := none, ridge.healthResetKat := false, ridge.resumeAs := none }
    | _, _ => s5
  match s6.ridge.rejoin with
  | some j =>
    if j.step = 6 && s6.ridge.health = .degraded then
      let s' := s6.onLane j.lane fun x => { x with excluded := false, transients := [] }
      { s' with ridge.rejoin := none }.setHealth .healthy
    else s6
  | none => s6

/-- HOLD_TIME_EXPIRY: the ramp starts, or the freeze goes on (R392). -/
def execHoldTimeExpiry (t : Nat) (s : State) : Result :=
  let s := s.tick t
  if s.unitHeld 0 then .next s else
  if s.ridge.holdStage = .frozen && s.ridge.holdSince + s.paramN 0x70010001 * msNs ≤ s.now then
    .next { s with ridge.holdStage := if s.paramN 0x70010002 = 1 then .indefinite else .ramp 0 }
  else .next s

/-- The next ramp frame (R392). -/
def State.rampFrame (s : State) : State :=
  match s.ridge.holdStage with
  | .ramp j => { s with ridge.holdStage := .ramp (j + 1) }
  | _ => s

/-- The excluded lane, the oldest name first. -/
def State.excludedLane (s : State) : Option LaneId :=
  if s.laneA.excluded then some .a else if s.laneB.excluded then some .b else none

/-- Failed rejoins of a lane. -/
def Ridge.failed (r : Ridge) : LaneId → Nat
  | .a => r.failedA
  | .b => r.failedB

/-- A rejoin starts (R394, R395). -/
def State.startRejoin (s : State) (l : LaneId) (handle : Option Nat) : State :=
  let j : Rejoin :=
    { lane := l, step := 1, frameK := none, caught := false, passed := 0, equalRun := 0, handle := handle, startedAt := s.now }
  { s with ridge.rejoin := some j }.raise 0x7007 [l.code, 1, 0]

/-- Whether a rejoin of a lane is allowed (R394): 0, or the status that refuses it. -/
def State.rejoinRefusal (s : State) (l : LaneId) : Nat :=
  if s.ridge.health ≠ .degraded then stConditions
  else if s.config.commit.isSome then stCommitPending
  else if !(s.lane l).excluded || 3 ≤ s.ridge.failed l then stConditions
  else if s.ridge.rejoin.isSome then stBusy
  else stOk

/-- AUTO_REJOIN: 60 s after exclusion (R394). -/
def execAutoRejoin (t : Nat) (s : State) : Result :=
  let s := s.tick t
  if s.unitHeld 0 then .next s else
  match s.excludedLane with
  | none => .next s
  | some l =>
    if s.paramN 0x70010004 = 1 && s.rejoinRefusal l = stOk && s.ridge.excludedAt + 60 * secNs ≤ s.now then
      .next (s.startRejoin l none)
    else .next s

/-- The store of a lane. -/
def ConfigStore.store (c : ConfigStore) : LaneId → LaneStore
  | .a => c.storeA
  | .b => c.storeB

/-- The store of a lane changed. -/
def State.onStore (s : State) (l : LaneId) (f : LaneStore → LaneStore) : State :=
  match l with
  | .a => { s with config.storeA := f s.config.storeA }
  | .b => { s with config.storeB := f s.config.storeB }

/-- The other lane's banks and parameters copied into the store of a lane, the parameters into its older slot (R606, R607, R622). -/
def LaneStore.copyOf (x y : LaneStore) (params : List (Nat × Word)) : LaneStore :=
  let z : LaneStore := { x with active := y.active, staged := y.staged, paramWrites := y.paramWrites }
  if x.paramCurrent = 0 then { z with params1 := params, paramCurrent := 1 } else { z with params0 := params, paramCurrent := 0 }

/-- REJOIN_BOOT_COMPLETE: steps 1 and 2 end; the lane holds the configuration and parameters of the remaining lane (R395, R607). -/
def execRejoinBootComplete (t : Nat) (bootOk configOk : Bool) (s : State) : Result :=
  let s := s.tick t
  match s.ridge.rejoin with
  | none => .next s
  | some j =>
    if 2 < j.step then .next s
    else if !bootOk then .next s.failRejoin
    else if !configOk then .next { s with ridge.rejoin := some { j with step := 2 } }.failRejoin
    else
      .next ({ s with ridge.rejoin := some { j with step := 3 } }.onStore j.lane fun x =>
        x.copyOf (s.config.store j.lane.other) s.params)

/-- REJOIN_CATCH_UP_COMPLETE: the lane holds the state image and has reached the current frame (R395). -/
def execRejoinCatchUpComplete (t : Nat) (imageOk : Bool) (s : State) : Result :=
  let s := s.tick t
  match s.ridge.rejoin with
  | none => .next s
  | some j =>
    if j.step < 3 ∨ 4 < j.step ∨ j.frameK.isNone then .next s
    else if !imageOk then .next { s with ridge.rejoin := some { j with step := 3 } }.failRejoin
    else .next { s with ridge.rejoin := some { j with step := 4, caught := true } }

/-- REJOIN_CATCH_UP_TIMEOUT: not caught up within 500 frames of strobe k (R395). -/
def execRejoinCatchUpTimeout (t : Nat) (s : State) : Result :=
  let s := s.tick t
  match s.ridge.rejoin with
  | some j =>
    match j.frameK with
    | some k => if j.step ≤ 4 && 500 ≤ (s.frame.number - k).toNat then .next s.failRejoin else .next s
    | none => .next s
  | none => .next s

/-- REJOIN_TRIAL_COMPLETE: 250 consecutive equal records; the module enters HEALTHY at the next strobe (R395). -/
def execRejoinTrialComplete (t : Nat) (s : State) : Result :=
  let s := s.tick t
  match s.ridge.rejoin with
  | some j =>
    if j.step = 5 && 250 ≤ j.equalRun then
      let s1 := { s with ridge.rejoin := some { j with step := 6, handle := none } }.raise 0x7007 [j.lane.code, 5, 1]
      .next (s1.finish? j.handle stOk [])
    else .next s
  | none => .next s

/-- The rejoining lane at a strobe: the state image fixed and passed on, 64 KiB a frame; once caught up it holds the remaining
lane's state and its trial begins (R395). -/
def State.rejoinAtStrobe (s : State) : State :=
  match s.ridge.rejoin with
  | none => s
  | some j =>
    if j.caught && j.step = 4 then
      let fresh (x : Lane) : Lane :=
        { x with core := { x.core with ctl := { x.core.ctl with depthFrames := 0 } } }
      let s0 := s.onLane j.lane.other fresh
      let src := s0.lane j.lane.other
      let s1 := s0.onLane j.lane fun x =>
        { src with
          slot := none
          latest := none
          excluded := true
          inReset := false
          transients := x.transients
          katPassed := x.katPassed
          sliceFailed := false
          outbox := [] }
      { s1 with ridge.rejoin := some { j with step := 5, equalRun := 0 } }
    else if j.step = 3 ∨ j.step = 4 then
      match j.frameK with
      | none => { s with ridge.rejoin := some { j with frameK := some s.frame.number, passed := 65536 } }
      | some _ => { s with ridge.rejoin := some { j with passed := min 4194304 (j.passed + 65536) } }
    else s

/-- The known-answer set of a health reset runs in the background window of a period of 11 ms or more; that frame starts no consequence
case (R98, R393). -/
def State.windowKat (s : State) : Bool := decide (11 ≤ s.frame.period)

/-- HEALTH_RESET (R393): in HOLD only; the set runs in the next background window, or in the next frame when it is shorter than
2 ms. -/
def effHealthReset : Effect := fun s _ _ h =>
  if s.ridge.health ≠ .hold then refused s stConditions
  else if s.ridge.healthReset.isSome then refused s stBusy
  else accepted { s with ridge.healthReset := some h, ridge.healthResetKat := false, frame.katWindow := s.windowKat && decide (s.frame.window ≠ 2) }

/-- HOLD_RAMP (R392): starts the ramp of the frozen commands. -/
def effHoldRamp : Effect := fun s _ _ _ =>
  match s.ridge.health, s.ridge.holdStage with
  | .hold, .indefinite | .failed, .indefinite | .hold, .frozen | .failed, .frozen =>
    served { s with ridge.holdStage := .ramp 0 }
  | .hold, .ramp _ | .failed, .ramp _ => served s
  | _, _ => refused s stConditions

/-- The lane a byte names. -/
def laneOf? : Nat → Option LaneId
  | 0 => some .a
  | 1 => some .b
  | _ => none

/-- LANE_REJOIN (R394). -/
def effLaneRejoin : Effect := fun s _ p h =>
  match laneOf? (field p 0 1), field p 1 3 with
  | some l, 0 =>
    let c := s.rejoinRefusal l
    if c ≠ stOk then refused s c else accepted (s.startRejoin l (some h))
  | _, _ => refused s stBadValue

/-- FULL_TEST (R103): its result is the completion's. -/
def effFullTest : Effect := fun s _ _ h =>
  if s.ridge.fullTest.isSome then refused s stBusy else accepted { s with ridge.fullTest := some h }

end Sys2Proof.Machine
end

