-- ==== Sys2Proof/Machine/Memory.lean ====
section
/-!
DEFINITION. Memory protection: corrected and uncorrectable errors, what they spoil, patrols, the status read (R682 to R688).
-/

namespace Sys2Proof.Machine

/-- Counters of R687 of memory m: 0 corrected, 1 uncorrectable, 2 completed passes. -/
def ctrMemory (kind m : Nat) : Nat := 0xA0F00000 + kind * 256 + m

/-- A memory. -/
def State.mem (s : State) (m : Nat) : Memory := s.memory.mems.getD m .reset

/-- A memory changed. -/
def State.onMem (s : State) (m : Nat) (f : Memory → Memory) : State :=
  { s with memory.mems := setAt s.memory.mems m f }

/-- Operating seconds of 24 h. -/
def dayS : Nat := 86400

/-- A corrected error: event 0xA003 above 16 in 24 operating hours, at most once in 24 operating hours (R687). -/
def State.memCorrected (s : State) (m addr : Nat) : State :=
  let now := s.recorder.opSeconds.toNat
  let recent := (now :: (s.mem m).recent).filter fun t => now < t + dayS
  let s1 := (s.onMem m fun x => { x with corrected := true, lastAddr := addr, recent := recent.take 17 }).count (ctrMemory 0 m)
  let quiet :=
    match (s.mem m).toldAt with
    | none => true
    | some t => decide (t + dayS ≤ now)
  if 16 < recent.length && quiet then (s1.onMem m fun x => { x with toldAt := some now }).raise 0xA003 [m] else s1

/-- A lane fails by an uncorrectable error: excluded at the next strobe, the remaining lane puts the module in FAILED; an open
decision ends (R386, R685). -/
def State.laneError (s : State) (l : LaneId) : State :=
  let early : Bool := (s.lane l).slot.isNone
  let s1 := s.onLane l fun x => { x with sliceFailed := x.sliceFailed || early }
  let s2 : State := { s1 with ridge.katDue := false }
  if (s.lane l).excluded then s
  else if s.ridge.health = .degraded then s2.orderFailed
  else s2.orderExclusion l 5

/-- A host memory error: the host firmware halts (R684). -/
def State.hostHalts (s : State) : State :=
  if s.rst.unitsDown.contains 0x80 then s else { s with rst.unitsDown := s.rst.unitsDown ++ [0x80] }

/-- A request in an Eaves buffer, waiting to cross or not yet in a snapshot, is answered DEVICE_FAULT; its handle is free again
(R598, R684). -/
def State.failForwarded (s : State) (session : Nat) (tag : Half) : State :=
  let mine (c : Command) : Bool := c.req.session = session && c.req.tag = tag
  let buffered := (s.frame.commands ++ s.frame.laterCommands).filter mine
  let hit (c : Forwarded) : Bool := c.session = session && c.tag = tag && !buffered.isEmpty
  let waits (c : Forwarded) : Bool := c.session = session && c.tag = tag
  let all := s.eaves.waitingCommands.filter waits ++ s.eaves.inField.filter hit
  let back := (s.eaves.inField.filter hit).foldl (fun n c => n + c.replyCredits) 0
  let s1 : State :=
    { s with
      eaves.waitingCommands := s.eaves.waitingCommands.filter fun c => !waits c
      frame.commands := s.frame.commands.filter fun c => !mine c
      frame.laterCommands := s.frame.laterCommands.filter fun c => !mine c
      eaves.inField := s.eaves.inField.filter fun c => !hit c
      eaves.reply.credits := s.eaves.reply.credits + back
      eaves.granted := s.eaves.granted - back
      host.handles := s.host.handles.filter fun h => !(buffered.any fun c => c.handle = h.number ∧ c.handle ≠ 0) }
  let held := (s.host.handles.filter fun h => buffered.any fun c => c.handle = h.number ∧ c.handle ≠ 0).foldl (fun n h => n + h.credits) 0
  let s1 := s1.returnCredit held
  all.foldl (fun s c =>
    s.sendReply
      { transport := c.transport, addr := c.addr, session := c.session, tag := c.tag, opcode := BitVec.ofNat 16 c.opcode, handle := 0,
        flags := replyFlags c.session, status := BitVec.ofNat 16 stDeviceFault, payload := [] }) s1

/-- A channel whose memory shows an error loses lock (R126, R684). -/
def State.loseChannel (s : State) (ant ch : Nat) : State :=
  match s.channel? ant ch with
  | none => s
  | some c =>
    if c.locked then
      let had : Bool := decide (ant = 1) && s.gnss.anyLock 1
      ((s.onChannel ant ch fun c => c.lose s.now).count (ctrSlips c.signal)).checkAntB had |>.checkAllLost
    else s

/-- What an uncorrectable error spoils (R684). -/
def State.memSpoils (s : State) (m : Nat) (v : MemVictim) : State :=
  match m, v with
  | 0x00, _ | 0x03, _ | 0x04, _ | 0x07, _ => s.laneError .a
  | 0x01, _ | 0x05, _ | 0x06, _ | 0x08, _ => s.laneError .b
  | 0x02, _ | 0x11, _ => s.hostHalts
  | 0x09, _ => { s with frame.corrupt := true }
  | 0x0A, _ => { s with ridge.spoilt := true }
  | 0x0B, .request a b | 0x0C, .request a b => s.failForwarded a b
  | 0x0B, .event | 0x0C, .event => { s with eaves.events := s.eaves.events.drop 1, eaves.gapNext := true }
  | 0x0B, .bulk h | 0x0C, .bulk h => s.finishBulk h stDeviceFault []
  | 0x0D, .yealm k => { s with recorder.ram := s.recorder.ram.eraseIdx k }
  | 0x0E, .channels cs => cs.foldl (fun s c => s.loseChannel c.1 c.2) s
  | 0x10, .sample k => { s with frame.inFlight := s.frame.inFlight.eraseIdx k }
  | 0x10, .lane l => s.laneError l
  | _, _ => s

/-- An uncorrectable error counted and told by event 0xA002 (R687). -/
def State.memMark (s : State) (m addr : Nat) : State :=
  ((s.onMem m fun x => { x with uncorrectable := true, lastAddr := addr }).count (ctrMemory 1 m)).raise 0xA002
    [m, addr % 4294967296, addr / 4294967296]

/-- An uncorrectable error, treated by its memory's rule (R684). -/
def State.memUncorrectable (s : State) (m addr : Nat) (v : MemVictim) : State := (s.memMark m addr).memSpoils m v

/-- What a read of a memory shows. -/
def State.memRead (s : State) (m : Nat) (r : MemRead) (v : MemVictim) : State :=
  match r with
  | .clean => s
  | .corrected a => s.memCorrected m a
  | .uncorrectable a => s.memUncorrectable m a v

/-- What a solve of a lane finds in its solver memories, 0x07 or 0x08: an uncorrectable error aborts the solve (R336, R363, R684). -/
def State.solveRead (s : State) (l : LaneId) (r : MemRead) (aux : Bool) : State :=
  let m := 7 + l.code
  match r with
  | .clean => s
  | .corrected a => s.memCorrected m a
  | .uncorrectable a =>
    (s.memMark m a).onLane l fun x =>
      { x with solverFault := x.solverFault || !aux, auxFault := x.auxFault || aux }

/-- ALLOCATION_PHASE: the solve, the conversion and the record; `readA`, `readB`: what the primary solver memory of each lane
shows in the solve (R88, R336, R338). -/
def execAllocationPhase (t : Nat) (readA readB : MemRead) (s : State) : Result :=
  .next ((((s.tick t).solveRead .a readA false).solveRead .b readB false).lanesWork fun s w => w.allocationStage s)

/-- CONSEQUENCE_CASE_RUN: the case at the pointer, unless the frame carries a replay or a known-answer run; `readA`, `readB`: what
the auxiliary solver memory of each lane shows (R98, R358, R363). -/
def execConsequenceCaseRun (t : Nat) (readA readB : MemRead) (s : State) : Result :=
  let s := s.tick t
  let dt := s.now - s.frame.strobe
  if !s.frame.begun ∨ s.frame.carries ∨ s.frame.katWindow ∨ s.frame.caseRun ∨ dt < 5 * msNs ∨ s.frame.period * msNs ≤ dt + 3 * msNs then
    .next s
  else
    let s : State := { s with frame.caseRun := true }
    .next (((s.solveRead .a readA true).solveRead .b readB true).lanesWork fun s w => w.runCase s s.frame.period)

/-- A completed scrub pass counted. -/
def State.memPass (s : State) (m : Nat) (done : Bool) : State := if done then s.count (ctrMemory 2 m) else s

/-- MEMORY_PATROL: a hardware or engine patrol reads a unit of memory m (R684). -/
def execMemoryPatrol (t m : Nat) (r : MemRead) (v : MemVictim) (passDone : Bool) (s : State) : Result :=
  let s := s.tick t
  if s.unitHeld 0 then .next s else
  if m ≤ 1 ∨ m = 0x0F ∨ 0x11 < m then .next s else .next ((s.memRead m r v).memPass m passDone)

/-- One scrub step of a lane DRAM: 256 KiB of 14 336 steps a pass (R684). -/
def State.scrubStep (s : State) (l : LaneId) (r : MemRead) : State :=
  let m := l.code
  let next := (s.mem m).scrub + 262144
  let done : Bool := 14336 * 262144 ≤ next
  let s1 := s.onMem m fun x => { x with scrub := if done then 0 else next }
  (s1.memRead m r .none).memPass m done

/-- MSTATE of a memory (R688). -/
def Memory.code (x : Memory) : Nat := if x.uncorrectable then 2 else if x.corrected then 1 else 0

/-- MEMORY_STATUS (R688). -/
def effMemoryStatus : Effect := fun s _ _ _ =>
  let u := s.memory
  let value (kind m : Nat) : List Byte := le 4 (s.counter (ctrMemory kind m)).value.toNat
  answered s <|
    le 4 s.recorder.opSeconds.toNat ++ le 2 18 ++ le 1 u.marchResult ++ le 1 u.marchMem ++ le 8 u.marchAddr
      ++ (List.range 18).flatMap fun m =>
        let x := s.mem m
        le 1 m ++ le 1 x.code ++ le 2 0 ++ value 0 m ++ value 1 m ++ le 8 x.lastAddr ++ value 2 m

end Sys2Proof.Machine
end

