-- ==== Sys2Proof/Machine/Programs.lean ====
section
/-!
DEFINITION. Program images and the coefficient image: how they are read from a bank, and the checks staging makes of them
(R263 to R274).
-/

namespace Sys2Proof.Machine

/-- The instruction words of an image of COUNT instructions. -/
def imageCode (b : List Byte) : List DWord :=
  (List.range (u16 b 8)).map fun k => BitVec.ofNat 64 (field b (32 + 8 * k) 8)

/-- A program image (R269). -/
def Program.of (b : List Byte) : Program :=
  { cls := u8 b 4, slot := u8 b 5, designP := u16 b 6, lo := u16 b 16, hi := u16 b 18, code := imageCode b }

/-- The program images of a bank. -/
def Bank.images (b : Bank) : List (List Byte) := (b.table 0x20 0x11).map (·.2)

/-- The programs of a bank in ascending slot order (R272). -/
def Bank.programs (b : Bank) : List Program :=
  let ps := b.images.map Program.of
  (List.range 16).flatMap fun k => ps.filter fun p => p.slot = k

/-- A coefficient of the image: value, and shift as a signed 6-bit number (R274). -/
def coefOf (b : List Byte) (k : Nat) : Coef :=
  { value := i32 b (16 + 8 * k), shift := signed 6 (u8 b (20 + 8 * k) % 64) }

/-- The coefficients of a bank that are not 0 with shift 0. -/
def Bank.coefs (b : Bank) : List (Nat × Coef) :=
  match b.entry? 0x20 0x12 0 with
  | none => []
  | some e =>
    (List.range 65536).filterMap fun k =>
      let c := coefOf e k
      if c.value = 0 ∧ c.shift = 0 then none else some (k, c)

/-- DESIGN_P of the programs that depend on the period: none when there is none or they differ (R74, R273). -/
def designPeriod (ps : List Program) : Option Nat :=
  match (ps.filter fun p => [0, 2, 3, 4].contains p.cls).map (·.designP) with
  | [] => none
  | d :: rest => if rest.all fun x => x = d then some d else none

/-- The memory an instruction touches for a shape: data ranges read, (start, length, is a matrix); range written; coefficient
range, if any (R264 to R266). -/
structure Extent where
  reads : List (Nat × Nat × Bool)
  write : Option (Nat × Nat × Bool)
  coef : Option (Nat × Nat × Bool)
deriving DecidableEq, Repr

/-- Length of a matrix of m rows and n columns (R265). -/
def matLen (m n : Nat) : Nat := stride m * (n - 1) + m

/-- The extent of an instruction. -/
def BInstr.extent (i : BInstr) (m n k : Nat) : Extent :=
  let l := m * n
  let a (len : Nat) : Nat × Nat × Bool := (i.srca, len, false)
  let b (len : Nat) : Nat × Nat × Bool := (i.srcb, len, false)
  let w (len : Nat) : Option (Nat × Nat × Bool) := some (i.dst, len, false)
  match i.op with
  | 0x04 => { reads := [], write := w l, coef := some (b l) }
  | 0x05 | 0x14 | 0x23 | 0x24 => { reads := [a l], write := w l, coef := none }
  | 0x08 => { reads := [a n], write := w m, coef := some (i.srcb, matLen m n, true) }
  | 0x09 => { reads := [(i.srcb, matLen m n, true), a n], write := w m, coef := none }
  | 0x0A =>
    { reads := [(i.srca, matLen k n, true)], write := some (i.dst, matLen m n, true),
      coef := some (i.srcb, matLen m k, true) }
  | 0x0B =>
    { reads := [(i.srca, matLen k n, true), (i.srcb, matLen m k, true)], write := some (i.dst, matLen m n, true),
      coef := none }
  | 0x0C | 0x18 => { reads := [a l], write := w l, coef := some (b l) }
  | 0x10 | 0x11 | 0x12 | 0x16 | 0x17 | 0x22 => { reads := [a l, b l], write := w l, coef := none }
  | 0x15 => { reads := [a l], write := w l, coef := some (b (2 * l)) }
  | 0x19 => { reads := [a l, b 1], write := w l, coef := none }
  | 0x20 => { reads := [a l], write := w (2 * l), coef := none }
  | 0x21 => { reads := [a (2 * l), b 1], write := w (2 * l), coef := none }
  | 0x25 => { reads := [a (2 * l)], write := w l, coef := none }
  | _ => { reads := [], write := none, coef := none }

/-- Opcodes of R266. -/
def opcodes : List Nat :=
  [0x00, 0x01, 0x02, 0x04, 0x05, 0x08, 0x09, 0x0A, 0x0B, 0x0C, 0x10, 0x11, 0x12, 0x14, 0x15, 0x16, 0x17, 0x18, 0x19,
   0x20, 0x21, 0x22, 0x23, 0x24, 0x25]

/-- Opcode, FMT, reserved fields, ACC and MOD of an instruction (R258, R263, R264, R266). -/
def instrFieldsOk (w : DWord) : Bool :=
  let i := BInstr.ofWord w
  opcodes.contains i.op && i.fmt ≤ 1 && bits w.toNat 48 47 = 0
    && (!i.acc || [0x08, 0x09, 0x0A, 0x0B, 0x0C].contains i.op) && (!i.mod || [0x08, 0x0A, 0x21].contains i.op)
    && (i.op ≠ 0x01 || (i.fmt = 0 && i.dst = 0 && i.srca < 64 && i.srcb < 4096))

/-- A range of addresses lies in a memory of n, a matrix on a column boundary (R265). -/
def rangeOk (size : Nat) (r : Nat × Nat × Bool) : Bool := r.1 + r.2.1 ≤ size && (!r.2.2 || r.1 % 32 = 0)

/-- Two ranges share an address. -/
def meets (a alen lo hi : Nat) : Bool := a ≤ hi && lo < a + alen

/-- A coefficient range reaches no bank area (R274). -/
def coefRangeOk (r : Nat × Nat × Bool) : Bool :=
  rangeOk 65536 r && !meets r.1 r.2.1 0xC400 0xDFFF && !meets r.1 r.2.1 0xE400 0xEFFF

/-- A table at a mapped address a: K from 2 to 256, ascending breakpoints, within `room` entries (R268). -/
def tableAtOk (cs : List (Nat × Coef)) (a room : Nat) : Bool :=
  let v (k : Nat) : Int := ((assoc cs (a + k)).getD { value := 0, shift := 0 }).value1
  let n := (v 0).toNat
  decide (2 ≤ v 0 ∧ v 0 ≤ 256) && 2 * n + 1 ≤ room && (List.range (n - 1)).all fun k => decide (v (k + 1) < v (k + 2))

/-- The mapped addresses a TBL address can select, each with the entries left in its window; outside the windows, the entries up
to the next window or the end (R268, R274). -/
def tablePlaces (a : Nat) : List (Nat × Nat) :=
  if 0xC000 ≤ a ∧ a ≤ 0xC3FF then (List.range 8).map fun b => (a + b * 0x400, 0xC400 - a)
  else if 0xE000 ≤ a ∧ a ≤ 0xE3FF then (List.range 3).map fun b => (a + b * 0x400, 0xE400 - a)
  else if a < 0xC000 then [(a, 0xC000 - a)]
  else if a < 0xF000 then [(a, 0)]
  else [(a, 0x10000 - a)]

/-- The checks of R268 for a TBL address. -/
def tableOk (cs : List (Nat × Coef)) (a : Nat) : Bool := (tablePlaces a).all fun p => tableAtOk cs p.1 p.2

/-- The context, data region and write range of a program allow a write (R271). -/
def writeOk (p : Program) (r : Nat × Nat × Bool) : Bool :=
  let last := r.1 + r.2.1 - 1
  decide (p.lo ≤ r.1 ∧ last ≤ p.hi) && (if p.cls = 0 then 0x7000 ≤ r.1 else last < 0x7000)

/-- Instructions up to END with shape and extents; answers the cycles, none when a check fails (R264 to R266, R271). -/
def walk (cs : List (Nat × Coef)) (p : Program) : Nat → Nat → Nat → Nat → List DWord → Option Nat
  | _, _, _, _, [] => none
  | m, n, k, sum, w :: rest =>
    let i := BInstr.ofWord w
    let x := i.extent m n k
    let ok := instrFieldsOk w && x.reads.all (rangeOk 32768)
      && (match x.write with
          | none => true
          | some r => rangeOk 32768 r && writeOk p r)
      && (match x.coef with
          | none => true
          | some r => coefRangeOk r)
      && (i.op ≠ 0x24 || tableOk cs i.srcb)
    let sum := sum + i.cycles m n k
    if !ok then none
    else if i.op = 2 then (if rest.isEmpty then some sum else none)
    else if i.op = 1 then walk cs p (bits i.srcb 5 0 + 1) (bits i.srcb 11 6 + 1) (bits i.srca 5 0 + 1) sum rest
    else walk cs p m n k sum rest

/-- Largest CYCLES of a class (R270). -/
def classCycles (cls : Nat) : Nat :=
  if cls = 0 then 16000 else if cls = 5 then 60000 else if cls = 1 ∨ cls = 6 then 40000 else 320000

/-- The header of an image: magic, version, class, slot, period, count, CRC (R269, R270). -/
def imageHeaderOk (b : List Byte) : Bool :=
  let c := u8 b 4
  let d := u16 b 6
  let n := u16 b 8
  u16 b 0 = 0xBA7E && u16 b 2 = 1 && decide (c ≤ 6) && decide (u8 b 5 ≤ 15)
    && (if [0, 2, 3, 4].contains c then decide (10 ≤ d ∧ d ≤ 100) else d = 0)
    && decide (2 ≤ n ∧ n ≤ 2048) && b.length = 32 + 8 * n && field b 10 2 = 0 && field b 20 8 = 0
    && u32 b 28 = (crc32c (b.take 28 ++ b.drop 32)).toNat

/-- The checks of R271 for one image against a coefficient image. -/
def imageOk (cs : List (Nat × Coef)) (b : List Byte) : Bool :=
  imageHeaderOk b &&
    match walk cs (Program.of b) 1 1 1 0 (imageCode b) with
    | none => false
    | some sum => sum = u32 b 12 && sum ≤ classCycles (u8 b 4)

/-- The program set of a bank: one program of each class 0, 2, 3, 4 and 5, slots unique, one DESIGN_P, classes 2 to 4 together
within 320 000 cycles, the bank's size (R270, R271, R273). An empty set passes: the default programs then stand. -/
def Bank.programsOk (b : Bank) : Bool :=
  let ps := b.images
  let cls := ps.map fun e => u8 e 4
  let slots := ps.map fun e => u8 e 5
  ps.isEmpty
    || (ps.all (imageOk b.coefs) && [0, 2, 3, 4, 5].all (fun c => (cls.filter fun x => x = c).length = 1)
        && slots.eraseDups.length = slots.length && (designPeriod b.programs).isSome
        && ((ps.filter fun e => [2, 3, 4].contains (u8 e 4)).map fun e => u32 e 12).sum ≤ 320000
        && (ps.map fun e => u16 e 8).sum ≤ 16384)

end Sys2Proof.Machine
end

