-- ==== Sys2Proof/Machine/Checks.lean ====
section
/-!
DEFINITION. The staging checks of every record table: those of one entry or table, made when a piece is complete, and those that
span tables, made at verification (R608, R611, R616, R619 and the rules of the tables' chapters).
-/

namespace Sys2Proof.Machine

/-- A record table of R608: unit, table, entries, bytes of an entry (0 for variable entries), whether an entry ends in its CRC. -/
structure TableInfo where
  unit : Nat
  table : Nat
  entries : Nat
  size : Nat
  crc : Bool
deriving DecidableEq, Repr

/-- A table whose entries end in a CRC. -/
def crcTable (u t n size : Nat) : TableInfo := { unit := u, table := t, entries := n, size := size, crc := true }

/-- A table without. -/
def plainTable (u t n size : Nat) : TableInfo := { unit := u, table := t, entries := n, size := size, crc := false }

/-- The record tables (R608). -/
def tableInfos : List TableInfo :=
  [ plainTable 0x01 0x03 512 8, crcTable 0x02 0x03 64 32, plainTable 0x10 0x02 26 32, crcTable 0x10 0x03 64 48,
    plainTable 0x11 0x05 32 4, plainTable 0x20 0x11 16 0, plainTable 0x20 0x12 1 0, crcTable 0x21 0x02 24 128,
    crcTable 0x21 0x03 24 80, crcTable 0x21 0x04 4 16, crcTable 0x22 0x02 32 32, crcTable 0x22 0x03 2 128,
    crcTable 0x30 0x02 32 16, plainTable 0x30 0x03 64 8, crcTable 0x30 0x04 64 16, crcTable 0x31 0x03 4 24,
    crcTable 0x32 0x02 24 48, crcTable 0x40 0x02 6 128, crcTable 0x40 0x03 384 16, crcTable 0x40 0x04 192 16,
    crcTable 0x40 0x05 192 32, plainTable 0x40 0x06 1024 16, crcTable 0x40 0x07 24 8, crcTable 0x41 0x02 8 32,
    crcTable 0x41 0x03 128 16, crcTable 0x41 0x04 64 32, crcTable 0x50 0x02 4 16, crcTable 0x50 0x03 4 32,
    crcTable 0x50 0x04 16 32 ]

/-- The description of a record table. -/
def tableInfo? (u t : Nat) : Option TableInfo := tableInfos.find? fun i => i.unit = u && i.table = t

/-- Whether a value lies in a range. -/
def within (lo hi v : Nat) : Bool := decide (lo ≤ v ∧ v ≤ hi)

/-- An entry's own CRC (R616). -/
def entryCrcOk (i : TableInfo) (e : List Byte) : Bool := !i.crc || crcOk e (i.size - 4)

/-- Snapshot source limits (R611). -/
def limitOk (e : List Byte) : Bool := within 1 16 (u8 e 2) && u8 e 3 = 0

/-- A waypoint (R300); the end mark is no waypoint. -/
def waypointOk (s : State) (e : List Byte) : Bool :=
  i32 e 0 = -2147483648 || (within 1 (s.paramN 0x02010001) (u32 e 12) && u16 e 20 ≤ 1 && field e 22 6 = 0)

/-- The class of a reference fits its number (R204, R205). -/
def classFits (i cls : Nat) : Bool :=
  if i < 16 then cls ≤ 4 else if i < 20 then cls = 5 || cls = 6 else if i < 23 then cls = 7 else cls = 8

/-- A reference entry (R204, R205, R207). -/
def referenceOk (i : Nat) (e : List Byte) : Bool :=
  u16 e 0 = 0xFFFF
    || (classFits i (u8 e 2) && u8 e 3 < 64 && u16 e 4 < 1024 && u8 e 6 < 4
        && (if u8 e 2 = 3 then u8 e 7 < 8 else u8 e 7 = 0xFF) && (u8 e 2 = 4 || i32 e 28 = 0))

/-- The squared norm of a quaternion departs from 1 by no more than the norm's 2^-20 allows (R215): with n = w² + x² + y² + z² in
units of 2^-60, (1 − 2^-20)² ≤ n ≤ (1 + 2^-20)². -/
def quaternionOk (w x y z : Int) : Bool :=
  let n := w * w + x * x + y * y + z * z
  decide (((2 ^ 30 - 2 ^ 10 : Nat) : Int) ^ 2 ≤ n ∧ n ≤ ((2 ^ 30 + 2 ^ 10 : Nat) : Int) ^ 2)

/-- A Leggett entry (R214, R215). -/
def leggettOk (e : List Byte) : Bool :=
  u16 e 0 = 0xFFFF
    || (u16 e 2 < 32 && decide (0 ≤ i32 e 32 ∧ i32 e 32 ≤ 2000000) && within 16 1024 (u16 e 36) && u16 e 38 = 0
        && (!bit (u16 e 2) 2 || quaternionOk (i32 e 16) (i32 e 20) (i32 e 24) (i32 e 28)))

/-- Forbidden sectors, START ascending: none overlaps or touches the next, widths at most 300° together, arcs of at least 2°
(R316). -/
def sectorsOk (fs : List (Nat × Nat)) : Bool :=
  let sorted := fs.foldl (fun (acc : List (Nat × Nat)) x =>
    acc.filter (fun y => y.1 < x.1) ++ [x] ++ acc.filter fun y => x.1 ≤ y.1) []
  let full := 4294967296
  let n := sorted.length
  let gap (k : Nat) : Int :=
    let a := sorted.getD k (0, 0)
    let b := sorted.getD ((k + 1) % n) (0, 0)
    let start : Nat := if k + 1 < n then b.1 else b.1 + full
    (start : Int) - (a.1 + a.2 : Nat)
  fs.isEmpty
    || ((fs.map (·.2)).sum * 360 ≤ 300 * full
        && (List.range n).all fun k => decide (0 < gap k ∧ (2 * full : Nat) ≤ gap k * 360))

/-- An actuator entry (R307, R315, R316, R329, R347). -/
def actuatorOk (e : List Byte) : Bool :=
  let a := ActEntry.of e
  u8 e 0 = 0xFF
    || (a.typ ≤ 3 && a.section_ ≤ 4 && (if a.typ = 0 then [8, 12, 16].contains a.polyN else a.polyN = 0) && u8 e 3 < 8
        && within 1 1000000 a.tFwd && a.tRev ≤ 1000000 && (a.typ ≠ 0 || a.tRev = 0)
        && decide (a.rateDir * 360 < 900 * 4294967296) && decide (a.liftMax < 1073741824)
        && within 256 16777216 a.wRel && (a.biasGroup ≤ 7 || a.biasGroup = 0xFF) && u8 e 49 ≤ 4 && sectorsOk a.forb
        && (!a.derate || decide (a.derV0 < a.derV1)) && a.derF1 ≤ 65536 && a.cmd1Unit ≤ 2 && u8 e 101 = 0
        && field e 104 20 = 0 && (a.section_ = 0 || a.power))

/-- A power model: T_k ascending, P_k and slopes not falling, P_8 above P_0 (R328, R348). -/
def powerOk (e : List Byte) : Bool :=
  let t (k : Nat) : Int := u32 e (4 + 4 * k)
  let p (k : Nat) : Int := u32 e (40 + 4 * k)
  u8 e 0 < 24 && field e 1 3 = 0 && t 0 = 0
    && (List.range 8).all (fun k => decide (t k < t (k + 1) ∧ p k ≤ p (k + 1)))
    && (List.range 7).all (fun k =>
        decide ((p (k + 1) - p k) * (t (k + 2) - t (k + 1)) ≤ (p (k + 2) - p (k + 1)) * (t (k + 1) - t k)))
    && decide (p 0 < p 8)

/-- A consequence case (R353). -/
def caseOk (e : List Byte) : Bool :=
  u8 e 0 < 2 && field e 1 3 = 0 && u8 e 7 = 0 && u8 e 8 < 16 && field e 9 3 = 0

/-- A load-shed entry (R367). -/
def shedOk (e : List Byte) : Bool := u8 e 0 < 16 && field e 1 3 = 0 && u8 e 103 = 0 && field e 104 20 = 0

/-- A digital channel entry, channel c (R469, R481). -/
def dioOk (s : State) (c : Nat) (e : List Byte) : Bool :=
  let f := u16 e 2
  let peer := s.paramN 0x71010001 = 1
  let out := s.paramN 0x71010004
  let inp := s.paramN 0x71010005
  u8 e 0 ≤ 2 && (u8 e 0 ≠ 1 || u8 e 1 = 1 || u8 e 1 = 3)
    && (u8 e 0 = 0 || (if c ≤ 28 then within 10 5000 f && f % 5 = 0 else within 1 5000 f)) && u8 e 4 < 32
    && u8 e 5 ≤ 4 && u8 e 6 ≤ 2 && u8 e 7 < 64 && u32 e 8 = 0 && (!bit (u8 e 4) 4 || 29 ≤ c)
    && (!peer || c ≠ out || (u8 e 0 = 2 && u8 e 5 = 3)) && (!peer || c ≠ inp || u8 e 0 = 1)
    && (u8 e 5 ≠ 3 || c = out)

/-- A command bit (R470). -/
def commandBitOk (e : List Byte) : Bool :=
  u8 e 0 ≤ 7 && (if within 1 3 (u8 e 0) then u8 e 1 < 24 else u8 e 1 = 0)

/-- An operand code of a logic term (R475). -/
def operandOk (v : Nat) : Bool :=
  v ≤ 0x1F || within 0x40 0x7F v || within 0x80 0xBF v || within 0xC0 0xC3 v || within 0xC8 0xCD v || v = 0xFF

/-- A logic term (R475). -/
def termOk (e : List Byte) : Bool := (List.range 4).all (fun k => operandOk (u8 e k)) && u16 e 10 = 0

/-- An analogue output (R514). -/
def analogOutOk (e : List Byte) : Bool :=
  u8 e 0 ≤ 2 && u8 e 1 ≤ 4 && u8 e 2 < 24 && u8 e 3 ≤ 1 && field e 14 6 = 0

/-- A chain source code whose channel is not Off (R493, R504). -/
def chainInputOk (s : State) (v : Nat) : Bool :=
  if within 1 16 v then s.paramN (0x31010000 + v) ≠ 0
  else if within 0x20 0x22 v || v = 0x28 || v = 0x29 || within 0x30 0x35 v then true
  else if within 0x40 0x43 v then u8 ((s.config.stagedBank.entry? 0x31 0x03 (v - 0x40)).getD []) 0 ≠ 0
  else false

/-- A filter chain (R503, R504). -/
def chainOk (s : State) (e : List Byte) : Bool :=
  let n := u8 e 2
  let stage (k : Nat) : Bool :=
    within 1 1024 (u16 e (8 + 8 * k)) && within 1 1024 (u16 e (10 + 8 * k)) && u8 e (12 + 8 * k) ≤ 31
  u8 e 0 = 0
    || (chainInputOk s (u8 e 0) && u8 e 1 ≤ 4 && u8 e 3 < 8 && (!bit (u8 e 3) 2 || within 1 24 (u8 e 4))
        && (u8 e 1 ≠ 0
            || (within 1 4 n && (List.range n).all stage
                && (List.range n).foldl (fun d k => d * u16 e (10 + 8 * k)) 1 ≤ 50000)))

/-- A bit rate from a prescaler and quanta lies in a range of bit/s. -/
def rateOk (brp tq lo hi : Nat) : Bool := decide (lo * brp * tq ≤ 80000000 ∧ 80000000 ≤ hi * brp * tq)

/-- A timing set at an offset (R527, R528). -/
def timingOk (e : List Byte) (o : Nat) (fd : Bool) : Bool :=
  let brp := u16 e o
  let t1 := u16 e (o + 2)
  let t2 := u8 e (o + 4)
  let sj := u8 e (o + 5)
  let dbrp := u8 e (o + 6)
  let d1 := u8 e (o + 7)
  let d2 := u8 e (o + 8)
  let dsj := u8 e (o + 9)
  let tq := 1 + t1 + t2
  let dtq := 1 + d1 + d2
  within 1 1024 brp && within 1 256 t1 && within 1 128 t2 && within 1 128 sj && rateOk brp tq 10000 1000000
    && 8 ≤ tq && sj ≤ t1 && sj ≤ t2
    && (!fd
        || (within 1 32 dbrp && within 1 32 d1 && within 1 16 d2 && within 1 16 dsj && u8 e (o + 10) ≤ 127
            && decide (dbrp * dtq ≤ brp * tq) && rateOk dbrp dtq 1 5000000 && 5 ≤ dtq && dsj ≤ d1 && dsj ≤ d2))

/-- A bus controller (R526 to R528). -/
def busOk (e : List Byte) : Bool :=
  let fd := bit (u8 e 1) 0
  u8 e 0 ≤ 3
    && (u8 e 0 = 0
        || (u8 e 1 < 64 && u8 e 2 ≤ 8 && within 500 60000 (u16 e 4) && u16 e 6 = 0 && timingOk e 8 fd
            && (List.range (u8 e 2)).all (fun k => timingOk e (20 + 12 * k) fd) && field e 116 8 = 0))

/-- An acceptance filter (R530). -/
def filterOk (e : List Byte) : Bool := bits (u8 e 8) 6 4 = 0 && u8 e 9 ≤ 31 && u16 e 10 = 0

/-- A mailbox (R531). -/
def mailboxOk (e : List Byte) : Bool := u8 e 0 ≤ 2 && u8 e 1 < 16 && u8 e 4 ≤ 16 && field e 5 7 = 0

/-- Lengths of a bus message (R546). -/
def messageLens (fd : Bool) : List Nat := if fd then [0, 1, 2, 3, 4, 5, 6, 7, 8, 12, 16, 20, 24, 32, 48, 64] else [0, 1, 2, 3, 4, 5, 6, 7, 8]

/-- The fields a bus and a serial message share (R546, R559). -/
def messageCommonOk (e : List Byte) : Bool :=
  bits (u8 e 5) 6 3 = 0 && within 1 100 (u8 e 7) && u8 e 8 < 128 && u8 e 9 = 0 && within 1 16 (u8 e 12)
    && field e 13 15 = 0

/-- A bus transmit message (R546). -/
def busMessageOk (e : List Byte) : Bool :=
  !bit (u8 e 5) 7 || (messageCommonOk e && u8 e 5 % 4 ≤ 2 && (messageLens (bit (u32 e 0) 30)).contains (u8 e 4))

/-- A serial transmit message (R559). -/
def serialMessageOk (e : List Byte) : Bool :=
  !bit (u8 e 5) 7 || (messageCommonOk e && within 1 255 (u8 e 4))

/-- A field descriptor (R548, R549). -/
def descriptorOk (e : List Byte) : Bool :=
  let k := u8 e 0
  k = 0
    || ((within 0x01 0x0C k || within 0x81 0x85 k || within 0x90 0x9F k) && u8 e 2 < 4 && within 1 32 (u8 e 3)
        && u16 e 6 = 0 && (!within 1 5 k || u8 e 1 < 24) && (k ≠ 6 || u8 e 1 < 64)
        && (!bit (u8 e 2) 1 || (u16 e 4 % 8 = 0 && u8 e 3 % 8 = 0)))

/-- A serial rate the divider can make within 1 % (R552): 80 MHz / (16 × d / 16) for d sixteenths. -/
def baudOk (b : Nat) : Bool :=
  let d := max 1 ((2 * 80000000 + b) / (2 * b))
  within 300 921600 b && decide (100 * d * b ≤ 101 * 80000000 ∧ 99 * 80000000 ≤ 100 * d * b)

/-- A serial port (R552, R553). -/
def portOk (e : List Byte) : Bool :=
  let f := u8 e 2
  u8 e 0 ≤ 2
    && (u8 e 0 = 0
        || (u8 e 1 ≤ 3 && f < 64 && bits f 2 1 ≤ 2 && within 2 255 (u8 e 3) && baudOk (u32 e 4) && field e 22 6 = 0
            && (u8 e 1 ≠ 2
                || (within 1 4 (u8 e 12)
                    && (if u8 e 13 = 0xFF then within 1 1024 (u16 e 16) else within 1 2 (u8 e 14))
                    && u8 e 19 ≤ 4 && u8 e 20 ≤ 5))))

/-- A serial slot (R554). -/
def slotOk (e : List Byte) : Bool := u8 e 0 ≤ 3 && u8 e 1 = 0 && u8 e 10 ≤ 16 && u8 e 11 = 0

/-- A safety circuit (R417, R451, R452). -/
def circuitOk (e : List Byte) : Bool :=
  u8 e 0 ≤ 3 && (if u8 e 0 = 3 then within 1 3 (u8 e 1) else u8 e 1 = 0)
    && (u8 e 0 = 0 || within 4 3000 (u16 e 2)) && field e 4 8 = 0

/-- A run permit (R451). -/
def permitOk (e : List Byte) : Bool :=
  u8 e 0 < 8 && u8 e 1 < 16 && (!bit (u8 e 0) 0 || within 20 1000 (u16 e 2)) && field e 20 8 = 0

/-- A Xiros connection (R398, R443, R449, R452). -/
def connectionOk (e : List Byte) : Bool :=
  let can := 4 ≤ u8 e 5
  u8 e 4 ≤ 2
    && (u8 e 4 = 0
        || (u8 e 5 ≤ 9 && (if can then within 1 58 (u8 e 6) else within 1 64 (u8 e 6)) && (u8 e 4 = 1 || u8 e 6 = 8)
            && (if u8 e 4 = 1 then 1 ≤ u8 e 7 && within 20 2000 (u16 e 8) else within 10 1000 (u16 e 8))
            && (if can then u16 e 10 = 0 else u16 e 10 ≠ 48411 && u16 e 10 ≠ 48412) && u16 e 16 < 4
            && field e 18 10 = 0 && (!bit (u16 e 16) 0 || 2 ≤ u8 e 6)))

/-- The content checks of entry i of a table. -/
def entryOk (s : State) (u t i : Nat) (e : List Byte) : Bool :=
  match tableKey u t with
  | 0x0103 => limitOk e
  | 0x0203 => waypointOk s e
  | 0x1002 => referenceOk i e
  | 0x1003 => leggettOk e
  | 0x2011 => imageHeaderOk e
  | 0x2012 => u16 e 0 = 0xC0EF && e.length = 16 + 65536 * 8 && (u32 e 8 = (crc32c (e.drop 16)).toNat)
  | 0x2102 => actuatorOk e
  | 0x2103 => powerOk e
  | 0x2104 => field e 4 8 = 0
  | 0x2202 => caseOk e
  | 0x2203 => shedOk e
  | 0x3002 => dioOk s (i + 1) e
  | 0x3003 => commandBitOk e
  | 0x3004 => termOk e
  | 0x3103 => analogOutOk e
  | 0x3202 => chainOk s e
  | 0x4002 => busOk e
  | 0x4003 => filterOk e
  | 0x4004 => mailboxOk e
  | 0x4005 => busMessageOk e
  | 0x4006 => descriptorOk e
  | 0x4007 => u8 e 3 = 0
  | 0x4102 => portOk e
  | 0x4103 => slotOk e
  | 0x4104 => serialMessageOk e
  | 0x5002 => circuitOk e
  | 0x5003 => permitOk e
  | 0x5004 => connectionOk e
  | _ => true

/-- A section of n samples of some bytes each, at its size in a snapshot (R84). -/
def sectionBytes (n bytes : Nat) : Nat := 8 + n * (20 + (bytes + 3) / 4 * 4)

/-- The GNSS sources at their largest size: the epoch header, the two antennas with 192 records each, the same of a late epoch, and the
navigation data (R133 to R138). -/
def gnssBytes : Nat :=
  2 * (sectionBytes 1 48 + 2 * (sectionBytes 1 16 + 8 * (20 + 24 * 40))) + sectionBytes 16 256

/-- A GNSS source (R133). -/
def gnssSource (n : Nat) : Bool := [0x0100, 0x0101, 0x0102, 0x0103, 0x0108, 0x0109, 0x010A].contains n

/-- Bytes of snapshots that the source limits allow at most; the GNSS sources count at their largest size (R83, R137, R611). -/
def Bank.snapshotBytes (b : Bank) : Nat :=
  52 + gnssBytes
    + (((b.table 0x01 0x03).filter fun p => !gnssSource (u16 p.2 0)).map fun p => sectionBytes (u8 p.2 2) (u32 p.2 4)).sum

/-- References fit together: at most one GNSS-INT and one GNSS-HEADING, and a position reference needs a lever arm (R205, R214). -/
def Bank.referencesOk (b : Bank) : Bool :=
  let rs := (List.range 26).filterMap fun i => (b.ref? i).map fun e => (i, e)
  (rs.filter fun r => r.2.cls = 1).length ≤ 1 && (rs.filter fun r => r.2.cls = 6).length ≤ 1
    && rs.all fun r => !(r.1 < 16) ||
      (match b.entry? 0x10 0x03 r.2.leggett with
       | none => false
       | some e => u16 e 0 ≠ 0xFFFF && bit (u16 e 2) 0 && bit (u16 e 2) 1)

/-- Value kinds a binary reference of a class needs (R551). -/
def neededValues (cls : Nat) : List Nat :=
  if cls = 2 ∨ cls = 3 then [0x90, 0x91] else if cls = 5 then [0x90] else if cls = 7 then [0x90, 0x91, 0x92] else []

/-- Descriptor sets of binary references hold their required values (R551). -/
def Bank.binaryOk (b : Bank) : Bool :=
  (List.range 26).all fun i =>
    match b.ref? i with
    | none => true
    | some e =>
      let ds := b.sourceDescs e.source
      ds.isEmpty || (neededValues e.cls).all fun k => ds.any fun d => d.kind = k

/-- Rows of the allocation problem that an actuator brings (R312, R328). -/
def actRows (a : ActEntry) : Nat :=
  if a.typ = 0 then a.polyN + 2 + (if a.power then 8 else 0)
  else if a.typ = 2 then 2 + (if a.power then 10 else 0)
  else if a.power then 10 else 0

/-- Variables that an actuator brings (R308). -/
def actVars (a : ActEntry) : Nat := (if a.typ = 0 ∨ a.typ = 2 then 2 else 1) + (if a.power then 2 else 0)

/-- Variables and rows of the allocation problem (R308, R311). -/
def Bank.problemSize (b : Bank) : Nat × Nat :=
  let secs := (List.range 4).filter fun k => b.acts.any fun q => q.2.section_ = k + 1
  ((b.acts.map fun q => actVars q.2).sum + 3, (b.acts.map fun q => actRows q.2).sum + secs.length)

/-- A conversion table covers the actuator's range at every place its address can select (R344). -/
def coversRange (cs : List (Nat × Coef)) (addr : Nat) (lo hi : Int) : Bool :=
  tableOk cs addr && (tablePlaces addr).all fun p =>
    let v (k : Nat) : Int := ((assoc cs (p.1 + k)).getD { value := 0, shift := 0 }).value1
    decide (v 1 ≤ lo ∧ hi ≤ v (v 0).toNat)

/-- Conversion tables and power models of the actuators (R328, R344). A bank without a coefficient image keeps the factory's, whose
tables no rule gives (DESIGN CHOICE, log 47). -/
def Bank.actuatorsOk (b : Bank) : Bool :=
  b.acts.all fun q =>
    let a := q.2
    let lo : Int := if a.typ = 0 then -100 else -(a.tRev : Int) - 100
    ((b.entry? 0x20 0x12 0).isNone || (coversRange b.coefs a.cmd1Tbl lo (a.tFwd + 100)
      && (a.typ ≠ 2 || a.cmd2Tbl = 0xFFFF || tableOk b.coefs a.cmd2Tbl)))
      && (!a.power || ((b.power q.1).getLast?.map (·.1)) = some a.tFwd)

/-- An enabled case loses an actuator and names only used ones (R354). -/
def Bank.casesOk (b : Bank) : Bool :=
  (List.range 32).all fun i =>
    match b.case? i with
    | none => true
    | some c =>
      !c.enabled
        || ((b.acts.any fun q => bit c.actMask q.1 || (1 ≤ q.2.section_ && bit c.secMask (q.2.section_ - 1)))
            && (List.range 24).all fun a => !bit c.actMask a || (b.act? a).isSome)

/-- The safety tables of a bank. -/
def Bank.safetyTables (b : Bank) : SafetyTables :=
  { circuits := b.table 0x50 0x02, permits := b.table 0x50 0x03, conns := b.table 0x50 0x04 }

/-- Circuits, permits and connections fit together (R449, R452). -/
def SafetyTables.ok (t : SafetyTables) : Bool :=
  let namur := (List.range 4).filterMap fun i =>
    if entryField t.circuits i 0 1 = 3 then some (entryField t.circuits i 1 1) else none
  let used := (List.range 16).filter fun c => entryField t.conns c 4 1 ≠ 0
  let ids := used.map fun c => entryField t.conns c 0 4
  namur.eraseDups.length = namur.length && ids.eraseDups.length = ids.length
    && (List.range 4).all fun p =>
      let circ := entryField t.permits p 1 1
      let rem (c : Nat) : Nat := entryField t.permits p (4 + c) 1
      (List.range 4).all (fun i => !bit circ i || entryField t.circuits i 0 1 ≠ 0)
        && (List.range 16).all (fun c => rem c = 0 || entryField t.conns c 4 1 = 1)
        && (!bit (entryField t.permits p 0 1) 0 || circ ≠ 0 || (List.range 16).any fun c => rem c ≠ 0)

/-- A receive connection of bus b (R531). -/
def SafetyTables.busReceives (t : SafetyTables) (b c : Nat) : Bool :=
  entryField t.conns c 4 1 = 1 && entryField t.conns c 5 1 = 3 + b

/-- Filters and mailboxes of the buses (R530, R531). -/
def Bank.filtersOk (b : Bank) : Bool :=
  (b.table 0x40 0x03).all (fun p =>
      !bit (u8 p.2 8) 7 || u8 ((b.entry? 0x40 0x04 (p.1 / 64 * 32 + u8 p.2 9)).getD []) 0 ≠ 0)
    && (b.table 0x40 0x04).all fun p => u8 p.2 0 ≠ 2 || b.safetyTables.busReceives (p.1 / 32 + 1) (u8 p.2 1)

/-- Messages and transmit connections that can wait on bus b: buffer, identifier and format (R535). -/
def Bank.senders (b : Bank) (bus : Nat) : List (Nat × Nat × Bool) :=
  ((List.range 32).filterMap fun k =>
    match b.entry? 0x40 0x05 (32 * (bus - 1) + k) with
    | none => none
    | some e =>
      if bit (u8 e 5) 7 then some (u8 e 5 % 4, u32 e 0 % 536870912, bit (u32 e 0) 31) else none)
  ++ (List.range 16).filterMap fun c =>
    let t := b.safetyTables
    if entryField t.conns c 4 1 = 2 ∧ entryField t.conns c 5 1 = 3 + bus then
      let v := entryField t.conns c 12 4
      some (1, v % 536870912, bit v 31)
    else none

/-- At most 16 senders to a buffer, identifiers unique on a controller (R535). -/
def Bank.buffersOk (b : Bank) : Bool :=
  (List.range 6).all fun i =>
    let xs := b.senders (i + 1)
    let ids := xs.map (·.2)
    (List.range 3).all (fun k => (xs.filter fun x => x.1 = k).length ≤ 16) && ids.eraseDups.length = ids.length

/-- Every field of a used message lies within its LEN (R548). -/
def Bank.fieldsOk (b : Bank) : Bool :=
  (b.table 0x40 0x05 ++ b.table 0x41 0x04).all fun p =>
    let e := p.2
    !bit (u8 e 5) 7
      || (b.descs (u16 e 10) (u8 e 12)).all fun d =>
        if d.big then d.pos / 8 + d.width / 8 ≤ u8 e 4 else d.pos + d.width ≤ 8 * u8 e 4

/-- A headroom input with a section assigned keeps a chain (R502). -/
def Bank.headroomOk (s : State) (b : Bank) : Bool :=
  [(0x22040005, 0x28), (0x22040007, 0x29)].all fun p =>
    s.paramN p.1 = 0 || (b.table 0x32 0x02).any fun e => u8 e.2 0 = p.2

/-- The peer's duty discrete channels are mapped while peer operation is enabled (R481). -/
def Bank.discreteOk (s : State) (b : Bank) : Bool :=
  s.paramN 0x71010001 = 0
    || (let o := (b.entry? 0x30 0x02 (s.paramN 0x71010004 - 1)).getD []
        let i := (b.entry? 0x30 0x02 (s.paramN 0x71010005 - 1)).getD []
        u8 o 0 = 2 && u8 o 5 = 3 && u8 i 0 = 1)

/-- Every check that spans tables or totals (R619). -/
def Bank.verified (s : State) (b : Bank) : Bool :=
  let size := b.problemSize
  b.snapshotBytes ≤ 262144 && b.referencesOk && b.binaryOk && b.programsOk && size.1 ≤ 99 && size.2 ≤ 384
    && solveCycles size.1 size.2 (s.paramN 0x21010001) ≤ 720000 && b.actuatorsOk && b.casesOk && b.safetyTables.ok
    && b.filtersOk && b.buffersOk && b.fieldsOk && b.headroomOk s && b.discreteOk s

end Sys2Proof.Machine
end

