-- ==== Sys2Proof/Machine/ParamChecks.lean ====
section
/-!
DEFINITION. The checks of a parameter value: its range and encoding, and the checks that involve several parameters
(R113, R302, R337, R376, R499, R502, R582, R602, R637).
-/

namespace Sys2Proof.Machine

/-- A system whose acquisition signal is disabled has no other signal enabled (R113). -/
def signalsOk (w : Nat) : Bool :=
  w < 8192 && (bit w 0 || bits w 3 1 = 0) && (bit w 4 || !bit w 5) && (bit w 6 || bits w 8 7 = 0)
    && (bit w 9 || bits w 11 10 = 0)

/-- The address lies outside the blocks that are not unicast (R602). -/
def outsideBlocks (a : Nat) : Bool := !(a / 16777216 = 0) && !(a / 16777216 = 127) && a < 0xE0000000

/-- A value within the range and encoding of a parameter (R582); a read-only item takes none. -/
def PRange.admits (r : PRange) (w : Word) : Bool :=
  let n := w.toNat
  match r with
  | .nat lo hi => decide (lo ≤ n ∧ n ≤ hi)
  | .int lo hi => decide (lo ≤ w.toInt ∧ w.toInt ≤ hi)
  | .natOr lo hi other => decide (lo ≤ n ∧ n ≤ hi) || n = other
  | .sourceList => n < 4096 && [0, 4, 8].all fun k => within 1 3 (n / 2 ^ k % 16)
  | .levels => n < 64 && [0, 2, 4].all fun k => within 1 3 (n / 2 ^ k % 4)
  | .signals => signalsOk n
  | .ipv4 => outsideBlocks n
  | .trend => bits n 15 4 = 0 && bits n 29 16 % 4 = 0
  | .readOnly => false

/-- A check over several parameters: the parameters that take part, and whether the stored values pass. -/
structure CrossCheck where
  ids : List Nat
  ok : Bool

/-- The thresholds ascend strictly (R302). -/
def State.ascending (s : State) : Bool :=
  (List.range 6).all fun k => s.paramN (0x20010002 + k) < s.paramN (0x20010003 + k)

/-- The host part of an address is neither all zeros nor all ones (R602). -/
def State.hostPartOk (s : State) (id : Nat) : Bool :=
  let n := 2 ^ (32 - s.paramN (id + 1))
  let h := s.paramN id % n
  h ≠ 0 && h ≠ n - 1

/-- An axis has F− below C below F+ (R499). -/
def State.axisOk (s : State) (k : Nat) : Bool :=
  decide (s.paramI (0x31010011 + k) < s.paramI (0x31010014 + k)
    ∧ s.paramI (0x31010017 + k) < s.paramI (0x31010011 + k))

/-- The sum of WORDS over the trend items is at most 54 (R637). -/
def State.trendSumOk (s : State) : Bool := ((List.range 16).map fun k => s.paramN (0x60020001 + k) % 16).sum ≤ 54

/-- An iteration cap keeps the solve within its time, with the actuator table in force (R337). -/
def State.capOk (s : State) (b : Bank) (id : Nat) : Bool :=
  let z := b.problemSize
  solveCycles z.1 z.2 (s.paramN id) ≤ 720000

/-- PTP instances on one port differ in their domains; a disabled one uses no port (R185). -/
def State.ptpApart (s : State) : Bool :=
  s.paramN 0x12020001 = 0 || s.paramN 0x12030001 = 0 || decide (s.paramN 0x12020002 ≠ s.paramN 0x12030002)
    || decide (s.paramN 0x12020003 ≠ s.paramN 0x12030003)

/-- Every check over several parameters or tables, with bank b in force. -/
def State.crossChecks (s : State) (b : Bank) : List CrossCheck :=
  [ { ids := (List.range 7).map (0x20010002 + ·), ok := s.ascending },
    { ids := [0x80010002, 0x80010003], ok := s.hostPartOk 0x80010002 },
    { ids := [0x80010004, 0x80010005], ok := s.hostPartOk 0x80010004 },
    { ids := (List.range 16).map (0x60020001 + ·), ok := s.trendSumOk },
    { ids := [0x22010003, 0x22010004], ok := s.paramN 0x22010004 ≤ s.paramN 0x22010003 },
    { ids := [0x21010001], ok := s.capOk b 0x21010001 },
    { ids := [0x22010002], ok := s.capOk b 0x22010002 },
    { ids := [0x22040005, 0x22040007], ok := b.headroomOk s },
    { ids := [0x71010001, 0x71010004, 0x71010005], ok := b.discreteOk s },
    { ids := [1, 2, 3].map (0x12020000 + ·) ++ [1, 2, 3].map (0x12030000 + ·), ok := s.ptpApart } ]
  ++ (List.range 3).map fun k =>
      { ids := [0x31010011 + k, 0x31010014 + k, 0x31010017 + k], ok := s.axisOk k }

/-- The stored values with some written over them. -/
def State.withParams (s : State) (es : List (Nat × Word)) : State :=
  { s with params := es.foldl (fun ps e => assocSet ps e.1 e.2) s.params }

/-- The values written by the entries take part in no failing check; else the first entry that takes part in one (R582). While a
commit is pending the checks are made on what will stand after the swap (R302). -/
def State.crossFailure (s : State) (es : List (Nat × Word)) : Option Nat :=
  let t := s.withParams es
  let checks :=
    match s.config.commit, s.config.staged with
    | some _, some g => (t.withParams g.params).crossChecks s.config.stagedBank
    | _, _ => t.crossChecks s.config.active
  let bad := checks.filter fun c => !c.ok
  (es.find? fun e => bad.any fun c => c.ids.contains e.1).map (·.1)

end Sys2Proof.Machine
end

