-- ==== Sys2Proof/Machine/ConfigStore.lean ====
section
/-!
DEFINITION. The configuration stores: bank images and digests, staging, verification, the swap, persistence, parameter writes,
the configuration at start-up, firmware packages (R251, R604 to R628).
-/

namespace Sys2Proof.Machine

/-- Counters of R628: refused pieces, discarded sets, failed persistence writes. -/
def ctrConfig (k : Nat) : Nat := 0x01F00000 + k

/-- Marker bytes at the start of an unused entry. -/
def unusedMarker (key : Nat) : List Byte :=
  match key with
  | 0x1002 | 0x1003 => [0xFF, 0xFF]
  | 0x2102 => [0xFF]
  | 0x0203 => le 4 0x80000000
  | _ => []

/-- An unused entry: its marker, every other byte 0, its CRC (R718). -/
def TableInfo.unused (i : TableInfo) : List Byte :=
  let m := unusedMarker (tableKey i.unit i.table)
  let n := if i.crc then i.size - 4 else i.size
  let body := m ++ List.replicate (n - m.length) 0
  if i.crc then body ++ le 4 (crc32c body).toNat else body

/-- The image of a table (R612): every entry of a table of fixed entries; the images written, of the others. -/
def Bank.image (b : Bank) (i : TableInfo) : List Byte :=
  let es := b.table i.unit i.table
  if i.size = 0 then es.flatMap (·.2)
  else (List.range i.entries).flatMap fun k => (assoc es k).getD i.unused

/-- Bytes of a table image. -/
def Bank.imageBytes (b : Bank) (i : TableInfo) : Nat :=
  if i.size = 0 then ((b.table i.unit i.table).map fun e => e.2.length).sum else i.entries * i.size

/-- The next multiple of 64. -/
def to64 (n : Nat) : Nat := (n + 63) / 64 * 64

/-- Offsets of the table images (R612). -/
def Bank.offsets (b : Bank) : List Nat :=
  (tableInfos.foldl (fun (a : List Nat × Nat) i => (a.1 ++ [a.2], a.2 + to64 (b.imageBytes i)))
    ([], to64 (64 + 16 * tableInfos.length))).1

/-- LENGTH of a bank (R612): up to the last byte of its last image. -/
def Bank.length (b : Bank) : Nat :=
  let last := tableInfos.getLast?
  match b.offsets.getLast?, last with
  | some o, some i => o + b.imageBytes i
  | _, _ => 64

/-- Zeros up to an offset. -/
def padTo (n : Nat) (bs : List Byte) : List Byte := bs ++ List.replicate (n - bs.length) 0

/-- The directory of a bank (R612). -/
def Bank.directory (b : Bank) : List Byte :=
  (tableInfos.zip b.offsets).flatMap fun p =>
    let count := if p.1.size = 0 then (b.table p.1.unit p.1.table).length else p.1.entries
    le 1 p.1.unit ++ le 1 p.1.table ++ le 2 1 ++ le 2 p.1.size ++ le 2 count ++ le 4 p.2 ++ le 4 (b.imageBytes p.1)

/-- Bytes 64 to LENGTH − 1 of a bank. -/
def Bank.body (b : Bank) : List Byte :=
  (tableInfos.zip b.offsets).foldl (fun bs p => padTo (p.2 - 64) bs ++ b.image p.1) b.directory

/-- DIGEST of a bank (R612). -/
def Bank.digest (b : Bank) : Word := crc32c b.body

/-- The header of a bank (R612). -/
def Bank.header (b : Bank) : List Byte :=
  le 2 0xCF6B ++ le 2 1 ++ le 4 b.generation.toNat ++ le 4 b.length ++ le 4 b.digest.toNat ++ le 2 tableInfos.length
    ++ le 2 b.user ++ le 6 b.commitS ++ le 4 b.commitNs ++ List.replicate 34 0

/-- Free bytes of a bank of 64 MiB. -/
def Bank.free (b : Bank) : Nat := 67108864 - b.length

/-- The lanes that hold a configuration: running and not excluded. -/
def State.holders (s : State) : List LaneId := s.inService.filter fun l => (s.lane l).runs

/-- The banks of some lanes are the module's: they were copied, written or exchanged alike (R44, R614, R615, R620, R622). -/
def State.banksTo (s : State) (ls : List LaneId) : State :=
  ls.foldl (fun s l => s.onStore l fun x => { x with active := s.config.active, staged := s.config.stagedBank }) s

/-- The banks of the lanes in service. -/
def State.syncBanks (s : State) : State := s.banksTo s.holders

/-- Both lanes persist the parameters in their older parameter slot (R606). -/
def State.persistParams (s : State) : State :=
  s.holders.foldl (fun s l => s.onStore l fun x =>
    if x.paramCurrent = 0 then
      { x with params1 := s.params, paramCurrent := 1, paramWrites := s.config.storeA.paramWrites.max s.config.storeB.paramWrites + 1 }
    else
      { x with params0 := s.params, paramCurrent := 0, paramWrites := s.config.storeA.paramWrites.max s.config.storeB.paramWrites + 1 }) s

/-- Polarity of a load-shed contact changed: whether it applies is judged anew (R366). -/
def Contact.judge (c : Contact) (opensSheds : Bool) : Contact :=
  { c with applied := if opensSheds then !c.closed else c.closed }

/-- A parameter written, with what follows from the new value (R250, R290, R359, R366, R396). -/
def State.setParam (s : State) (id : Nat) (v : Word) : State :=
  let old := s.param id
  let s1 := { s with params := assocSet s.params id v }
  if id = 0x2001000A then s1.laneCommand (.gain v.toNat)
  else if old = v then s1
  else if id = 0x22010001 then (if v = 1 then s1.laneCommand .restartCases else s1)
  else if id = 0x10060001 then s1.onCores fun c => { c with shadows := [] }
  else if id = 0x22040001 then { s1 with out.ls1 := s1.out.ls1.judge (v = 1) }
  else if id = 0x22040002 then { s1 with out.ls2 := s1.out.ls2.judge (v = 1) }
  else if id = 0x71010001 then (if v = 0 then { s1 with peer.duty := .duty } else s1)
  else s1.timeParamWritten id

/-- Several parameters written and persisted. -/
def State.setParams (s : State) (es : List (Nat × Word)) : State :=
  if es.isEmpty then s else (es.foldl (fun s e => s.setParam e.1 e.2) s).persistParams

/-- The staged set discarded (R616, R617, R619, R622): cause 1 a refused piece, 2 STAGE_DISCARD, 3 time, 4 verification, 5 a run
permit, 6 a lane. Its pieces and its commit end. -/
def State.discardSet (s : State) (cause final : Nat) : State :=
  match s.config.staged with
  | none => s
  | some g =>
    let s1 :=
      { s with
        config.staged := none
        frame.bankSwap := false
        safety.x.staged := none
        safety.y.staged := none }
    let s2 := g.pieces.foldl (fun s p => s.finishBulk p.handle stCancelled []) s1
    let s3 : State :=
      match s2.config.commit with
      | some c => { s2 with config.commit := none }.finish c.handle final []
      | none => s2
    (s3.count (ctrConfig 2)).raise 0x0102 [cause]

/-- A staging opcode restarts the 10 min of R617. -/
def State.touchStaged (s : State) : State :=
  { s with config.staged := s.config.staged.map fun (g : Staged) => { g with lastActivity := s.now } }

/-- STAGE_OPEN (R614). -/
def effStageOpen : Effect := fun s r p _ =>
  let base := BitVec.ofNat 32 (field p 0 4)
  let new := BitVec.ofNat 32 (field p 4 4)
  let d := (new - base).toNat
  if p.length ≠ 8 then refused s stBadLength
  else if s.config.commit.isSome then refused s stCommitPending
  else if s.config.staged.isSome then refused s stBusy
  else if base ≠ s.config.active.generation ∨ new = 0 ∨ d = 0 ∨ 2147483648 ≤ d then refused s stConditions
  else
    let g : Staged :=
      { baseGen := base, newGen := new, session := r.session, user := s.userOf r, lastActivity := s.now, params := [],
        pieces := [] }
    answered { s with config.staged := some g, config.stagedBank := s.config.active }.syncBanks
      (le 4 base.toNat ++ le 4 new.toNat ++ le 4 s.config.active.free)

/-- STAGE_PIECE (R615): its data follows with the handle. -/
def effStagePiece : Effect := fun s _ p h =>
  if p.length ≠ 16 then refused s stBadLength
  else if s.config.commit.isSome then refused s stCommitPending
  else
    match s.config.staged with
    | none => refused s stConditions
    | some g =>
      let k := u8 p 2
      if 2 < k ∨ u8 p 3 ≠ 0 then refused s stBadValue
      else
        let x : Piece :=
          { handle := h, unit := u8 p 0, table := u8 p 1, kind := k, first := u16 p 4, count := u16 p 6,
            length := u32 p 8, crc := BitVec.ofNat 32 (u32 p 12), data := [] }
        let known := (tableInfo? x.unit x.table).isSome
        let fits :=
          match tableInfo? x.unit x.table with
          | none => true
          | some i => if k = 0 then i.size ≠ 0 && decide (x.first + x.count ≤ i.entries) else decide (x.count ≤ i.entries)
        if k ≠ 2 ∧ !known then refused s stBadId
        else if k ≠ 2 ∧ !fits then refused s stBadValue
        else
          let s1 : State := { s with config.staged := some { g with pieces := g.pieces ++ [x], lastActivity := s.now } }
          accepted (s1.openBulk h false [])

/-- What the checks of a piece find: entry and check code, 1 length, 2 PCRC, 3 the CRC of an entry, 4 content (R616). -/
abbrev PieceFault := Option (Nat × Nat)

/-- The pairs of a parameter piece. -/
def pieceParams (data : List Byte) (n : Nat) : List (Nat × Word) :=
  (List.range n).map fun k => (u32 data (8 * k), BitVec.ofNat 32 (u32 data (8 * k + 4)))

/-- A parameter piece checked for ID and range (R616). -/
def paramFault (es : List (Nat × Word)) : PieceFault :=
  (es.zipIdx.find? fun e =>
    match paramDesc e.1.1 with
    | none => true
    | some d => !d.range.admits e.1.2).map fun e => (e.2, 4)

/-- Program images one after another: their length follows from COUNT in their headers (R269). -/
def splitImages : Nat → List Byte → Option (List (List Byte))
  | 0, bs => if bs.isEmpty then some [] else none
  | n + 1, bs =>
    let len := 32 + 8 * u16 bs 8
    if bs.length < len then none else (splitImages n (bs.drop len)).map (bs.take len :: ·)

/-- The entries a piece carries; none when its length does not fit them. -/
def Piece.entries (x : Piece) (i : TableInfo) (data : List Byte) : Option (List (List Byte)) :=
  if i.size ≠ 0 then
    if data.length = x.count * i.size then some ((List.range x.count).map fun k => slice data (k * i.size) i.size) else none
  else if x.table = 0x11 then splitImages x.count data
  else if x.count = 1 then some [data]
  else if data.isEmpty then some [] else none

/-- The checks of entries that concern them alone (R616). -/
def entriesFault (s : State) (i : TableInfo) (first : Nat) (es : List (List Byte)) : PieceFault :=
  match es.zipIdx.find? fun e => !entryCrcOk i e.1 with
  | some e => some (first + e.2, 3)
  | none => (es.zipIdx.find? fun e => !entryOk s i.unit i.table (first + e.2) e.1).map fun e => (first + e.2, 4)

/-- The staged set with a piece applied, or what its checks found (R615, R616). -/
def State.applyPiece (s : State) (g : Staged) (x : Piece) (data : List Byte) : Sum (State × Staged) (Nat × Nat) :=
  if data.length ≠ x.length then .inr (x.first, 1)
  else if crc32c data ≠ x.crc then .inr (x.first, 2)
  else if x.kind = 2 then
    if data.length ≠ 8 * x.count then .inr (0, 1)
    else
      let es := pieceParams data x.count
      match paramFault es with
      | some f => .inr f
      | none => .inl (s, { g with params := es.foldl (fun ps e => assocSet ps e.1 e.2) g.params })
  else
    match tableInfo? x.unit x.table with
    | none => .inr (x.first, 1)
    | some i =>
      match x.entries i data with
      | none => .inr (x.first, 1)
      | some es =>
        let first := if x.kind = 1 then 0 else x.first
        match entriesFault s i first es with
        | some f => .inr f
        | none =>
          let old := if x.kind = 1 then [] else s.config.stagedBank.table x.unit x.table
          let new := es.zipIdx.foldl (fun t e => assocSet t (first + e.2) e.1) old
          .inl ({ s with config.stagedBank := s.config.stagedBank.setTable x.unit x.table new }.syncBanks, g)

/-- STAGE_PIECE_COMPLETE: the data of a piece is complete and checked (R616). -/
def execStagePieceComplete (t h : Nat) (s : State) : Result :=
  let s := s.tick t
  match s.config.staged with
  | none => .next s
  | some g =>
    match g.pieces.find? fun x => x.handle = h with
    | none => .next s
    | some x =>
      let data := s.bulkData h
      if data.length < x.length then .next s
      else
        match s.applyPiece g x data with
        | .inl (s1, g1) =>
          let s2 : State := { s1 with config.staged := some { g1 with pieces := g.pieces.filter fun y => y.handle ≠ h } }
          .next (s2.finishBulk h stOk (le 4 s2.config.stagedBank.digest.toNat))
        | .inr (entry, code) =>
          let s1 := (s.count (ctrConfig 1)).finishBulk h stStagingRefused
            (le 1 x.unit ++ le 1 x.table ++ le 2 entry ++ le 4 code)
          let s2 : State := { s1 with config.staged := some { g with pieces := g.pieces.filter fun y => y.handle ≠ h } }
          .next (s2.discardSet 1 stStagingRefused)

/-- STAGE_DISCARD (R617, R622). -/
def effStageDiscard : Effect := fun s _ _ _ =>
  match s.config.staged, s.config.commit with
  | some _, _ => answered (s.discardSet 2 stCancelled) []
  | none, some _ => refused s stCommitPending
  | none, none => refused s stConditions

/-- STAGED_SET_EXPIRY: no staging opcode for 10 min (R617). -/
def execStagedSetExpiry (t : Nat) (s : State) : Result :=
  let s := s.tick t
  match s.config.staged, s.config.commit with
  | some g, none => if g.lastActivity + 600 * secNs ≤ s.now then .next (s.discardSet 3 stCancelled) else .next s
  | _, _ => .next s

/-- The bytes of an entry that are standby-only (R608): offset and length. -/
def standbyBytes (key : Nat) : List (Nat × Nat) :=
  match key with
  | 0x0103 => [(0, 8)]
  | 0x2102 => [(0, 1)]
  | 0x3002 => [(0, 2), (5, 1)]
  | 0x3103 => [(0, 2)]
  | 0x4002 => [(0, 1), (8, 108)]
  | 0x4005 => [(0, 4), (4, 1), (5, 1), (8, 1)]
  | 0x4102 => [(0, 2), (4, 4)]
  | 0x4104 => [(4, 1), (5, 1), (8, 1)]
  | 0x5002 => [(0, 16)]
  | 0x5003 => [(0, 32)]
  | 0x5004 => [(0, 32)]
  | _ => []

/-- The bits of byte 5 of a transmit message that belong to CLASS (R546); other bytes count whole. -/
def standbyField (key o n : Nat) (e : List Byte) : List Byte :=
  if (key = 0x4005 ∨ key = 0x4104) ∧ o = 5 then le 1 (u8 e 5 / 4 % 2) else slice e o n

/-- Whether two banks differ in a standby-only field of a table. -/
def standbyDiffers (a b : Bank) (i : TableInfo) : Bool :=
  let key := tableKey i.unit i.table
  let fs := standbyBytes key
  !fs.isEmpty && (List.range i.entries).any fun k =>
    let x := (a.entry? i.unit i.table k).getD i.unused
    let y := (b.entry? i.unit i.table k).getD i.unused
    fs.any fun f => standbyField key f.1 f.2 x ≠ standbyField key f.1 f.2 y

/-- The staged set changes a standby-only field or an RWS parameter (R618). -/
def State.standbyChange (s : State) (g : Staged) : Bool :=
  tableInfos.any (standbyDiffers s.config.active s.config.stagedBank)
    || g.params.any fun e =>
      match paramDesc e.1 with
      | none => false
      | some d => d.standbyOnly

/-- The staged set changes a safety table (R452). -/
def State.safetyChange (s : State) : Bool :=
  (tableInfos.filter fun i => i.unit = 0x50).any fun i =>
    standbyDiffers s.config.active s.config.stagedBank i

/-- Status that refuses a COMMIT, 0 for none (R618). -/
def State.commitRefusal (s : State) (newGen : Word) : Nat :=
  match s.config.staged with
  | none => if s.config.commit.isSome then stCommitPending else stConditions
  | some g =>
    if s.config.commit.isSome then stCommitPending
    else if g.newGen ≠ newGen ∨ !g.pieces.isEmpty then stConditions
    else if s.ridge.rejoin.isSome then stLaneRejoin
    else if s.ridge.health = .failed then stHealthState
    else if s.standbyChange g && !s.quiet then stNotInStandby
    else if s.safetyChange && s.safety.anyPermitOn then stConditions
    else if s.mode.isDp && decide (designPeriod s.config.stagedBank.programs ≠ some s.frame.period)
      && !s.config.stagedBank.images.isEmpty then stConditions
    else stOk

/-- A commit accepted under a handle. -/
def State.startCommit (s : State) (h : Nat) (expect : Word) : State :=
  let c : Commit :=
    { handle := h, expect := expect, verA := .running, verB := .running, swapSet := false, swapped := false, swapFrame := 0 }
  { s with config.commit := some c }

/-- COMMIT (R618). -/
def effCommit : Effect := fun s _ p h =>
  let c := s.commitRefusal (BitVec.ofNat 32 (field p 0 4))
  if p.length ≠ 8 then refused s stBadLength
  else if c ≠ stOk then refused s c
  else accepted ((s.touchStaged).startCommit h (BitVec.ofNat 32 (field p 4 4)))

/-- What a lane shows. -/
def Commit.shows (c : Commit) : LaneId → Verify
  | .a => c.verA
  | .b => c.verB

/-- The verification of every lane that holds a configuration: none while one runs (R619). -/
def State.verdict (s : State) (c : Commit) : Option (List Verify) :=
  let vs := s.holders.map c.shows
  if vs.contains .running then none else some vs

/-- The digest every lane shows VERIFIED with; none when one failed or they differ. -/
def agreedDigest : List Verify → Option Word
  | .verified d :: rest => if rest.all fun v => v = .verified d then some d else none
  | _ => none

/-- The engines load the staged bank; each safety channel stores the staged safety tables (R255, R452). -/
def State.loadStaged (s : State) (l : LaneId) : State :=
  let b := (s.config.store l).staged
  let load (e : Engine) : Engine := { e with stagedPrograms := b.programs, stagedCoefs := b.coefs }
  let s1 := s.onLane l fun x => { x with core := { x.core with engine := load x.core.engine } }
  if s.safetyChange then
    let u := s1.safety
    { s1 with safety := { u with x := { u.x with staged := some b.safetyTables }, y := { u.y with staged := some b.safetyTables } } }
  else s1

/-- The result of the verification once every lane has shown it (R619). -/
def State.judgeVerification (s : State) (c : Commit) : State :=
  match s.verdict c with
  | none => s
  | some vs =>
    match agreedDigest vs with
    | some d => if c.expect ≠ 0 ∧ d ≠ c.expect then s.discardSet 4 stStagingRefused else s
    | none => if vs.all fun v => v = .failed then s.discardSet 4 stStagingRefused else s.discardSet 4 stDeviceFault

/-- VERIFICATION_COMPLETE: a lane finishes its verification; `fault`: an error of the lane makes it fail (R619). -/
def execVerificationComplete (t : Nat) (lane : LaneId) (fault : Bool) (s : State) : Result :=
  let s := s.tick t
  match s.config.commit, s.config.staged with
  | some c, some g =>
    if c.swapped ∨ !s.holders.contains lane ∨ c.shows lane ≠ .running then .next s
    else
      let b := (s.config.store lane).staged
      let ok := !fault && b.length ≤ 67108864 && b.verified (s.withParams g.params)
        && (((s.withParams g.params).crossChecks b).all fun x => x.ok)
      let v : Verify := if ok then .verified b.digest else .failed
      let c1 : Commit :=
        match lane with
        | .a => { c with verA := v }
        | .b => { c with verB := v }
      let s1 : State := { s with config.commit := some c1 }
      let s2 := if ok then s1.loadStaged lane else s1
      .next (s2.judgeVerification c1)
  | _, _ => .next s

/-- The first cut-off at which every lane shows VERIFIED with equal digests: the swap is set for the strobe (R620, R622). -/
def State.swapAtCutoff (s : State) : State :=
  match s.config.commit with
  | none => s
  | some c =>
    if c.swapSet ∨ c.swapped then s
    else
      match s.verdict c with
      | none => s
      | some vs =>
        if (agreedDigest vs).isNone then s
        else if s.safetyChange && s.safety.anyPermitOn then s.discardSet 5 stConditions
        else { s with config.commit := some { c with swapSet := true }, frame.bankSwap := true }

/-- Whether entry k of a table differs between two banks. -/
def entryDiffers (a b : Bank) (u t k : Nat) : Bool := a.entry? u t k ≠ b.entry? u t k

/-- A reference whose entry, or whose Leggett entry, a swap changes (R610). -/
def refChanged (a b : Bank) (i : Nat) : Bool :=
  entryDiffers a b 0x10 0x02 i ||
    match b.ref? i with
    | none => false
    | some e => entryDiffers a b 0x10 0x03 e.leggett || (e.cls ≤ 1 && entryDiffers a b 0x10 0x03 (e.leggett + 1))

/-- A reference continues as from STALE, its track and clock model restarted (R226, R610). -/
def RefState.restartStale (r : RefState) : RefState :=
  { r with
    stale := true
    suspect := false
    track := none
    restart := true
    fixedPoint := none
    last := none
    clock := { bins := [] }
    varSince := none
    divSince := none
    drift := []
    innovations := []
    cause := 22 }

/-- A route changed during TRACK is converted again; the set-point goes on towards the waypoint with the same index (R301). -/
def Core.swapRoute (c : Core) (a b : Bank) : Control :=
  if c.ctl.mode = .track ∧ a.table 0x02 0x03 ≠ b.table 0x02 0x03 then
    { c.ctl with
      route := c.convertRoute b
      held := if c.ctl.held = .last then .none else c.ctl.held
      lastSeen := false }
  else c.ctl

/-- What a swap from bank a to bank b does to what a lane computes from (R250, R255, R301, R334, R610). -/
def Core.swapBanks (c : Core) (a b : Bank) : Core :=
  let refs := c.fusion.refs.zipIdx.map fun p => if refChanged a b p.2 then p.1.restartStale else p.1
  let types (x : Bank) : List (Nat × Nat) := x.acts.map fun q => (q.1, q.2.typ)
  let e := c.engine
  { c with
    fusion := { c.fusion with refs := refs }
    ctl := c.swapRoute a b
    shadows := c.shadows.filter fun x => !entryDiffers a b 0x10 0x03 x.entry
    alloc := { c.alloc with fresh := c.alloc.fresh || types a ≠ types b }
    engine := { e with programs := b.programs, stagedPrograms := e.programs, coefs := b.coefs, stagedCoefs := e.coefs } }

/-- The satellites of the exclusion list of a bank (R118). DESIGN CHOICE, log 122: of an entry byte 0 is the system, byte 1 the SVID, and SVID 0
marks an unused entry. -/
def Bank.excludedSats (b : Bank) : List (Nat × Nat) :=
  (b.table 0x11 0x05).filterMap fun e => if u8 e.2 1 = 0 then none else some (u8 e.2 0, u8 e.2 1)

/-- The effects of a new bank outside the lanes (R452, R507, R526, R539, R609). -/
def State.swapUnits (s : State) (a b : Bank) : State :=
  let chains := s.fio.chains.zipIdx.map fun p => if entryDiffers a b 0x32 0x02 p.2 then Chain.restart else p.1
  let due : Bool := s.safety.x.staged.isSome
  let s1 : State :=
    { s with
      fio.chains := chains
      gnss.excluded := b.excludedSats
      safety.x.swapDue := due
      safety.y.swapDue := due }
  ((s1.withdrawEntries fun bus k => entryDiffers a b 0x40 0x05 (32 * (bus - 1) + k)).withdrawSerial fun p k =>
    entryDiffers a b 0x41 0x04 (8 * (p - 1) + k)).stopOffBuses

/-- The swap at the strobe of a snapshot with BANK_SWAP (R81, R620). -/
def State.swapBanks (s : State) : State :=
  match s.config.commit, s.config.staged with
  | some c, some g =>
    if !c.swapSet ∨ c.swapped then s
    else
      let a := s.config.active
      let b : Bank :=
        { s.config.stagedBank with generation := g.newGen, user := g.user, commitS := s.taiS, commitNs := s.taiNs }
      let f (x : Lane) : Lane := { x with core := x.core.swapBanks a b, saved := x.saved.swapBanks a b }
      let s1 : State :=
        { s with
          config.active := b
          config.stagedBank := a
          config.staged := none
          config.commit := some { c with swapped := true, swapFrame := s.frame.number }
          laneA := f s.laneA
          laneB := f s.laneB }.syncBanks
      let s2 := (s1.swapUnits a b).setParams g.params
      let s3 := if a.table 0x22 0x02 = b.table 0x22 0x02 then s2 else s2.laneCommand .restartCases
      s3.raise 0x0101 [a.generation.toNat, b.generation.toNat]
  | _, _ => s

/-- A lane excluded, or FAILED entered, before the swap: the set is discarded (R622). -/
def State.dropOnLaneLoss (s : State) : State :=
  match s.config.commit with
  | some c => if c.swapped then s else s.discardSet 6 stDeviceFault
  | none => s

/-- A lane writes the active bank to its older slot and marks it current (R621). -/
def LaneStore.persist (x : LaneStore) (b : Bank) : LaneStore :=
  if x.current = 0 then { x with slot1 := some b, current := 1 } else { x with slot0 := some b, current := 0 }

/-- COMMIT_PERSISTED: every lane has written the new bank; `ok`: no write failed (R621). -/
def execCommitPersisted (t : Nat) (ok : Bool) (s : State) : Result :=
  let s := s.tick t
  match s.config.commit with
  | none => .next s
  | some c =>
    if !c.swapped then .next s
    else
      let b := s.config.active
      let adopts : Bool :=
        match s.handle? c.handle with
        | some h => h.opcode = 0x1004
        | none => false
      let s1 : State := { s with config.commit := none }
      if !ok then .next ((s1.count (ctrConfig 3)).finish c.handle stStorageFailed [])
      else
        let s2 := s1.holders.foldl (fun s l => s.onStore l fun x => x.persist b) s1
        let s3 := s2.finish c.handle stOk (le 4 c.swapFrame.toNat ++ le 4 b.generation.toNat ++ le 4 b.digest.toNat)
        let s4 := s3.raise 0x0103 []
        .next (s4.raiseIf adopts 0x100B [])

/-- A Leggett entry with the shadow's arm, the next refinement generation and a new CRC (R251). -/
def Shadow.adopted (x : Shadow) (e : List Byte) : List Byte :=
  let body := slice e 0 4 ++ leInt 4 x.x ++ leInt 4 x.y ++ slice e 12 28 ++ le 4 ((u32 e 40 + 1) % 4294967296)
  body ++ le 4 (crc32c body).toNat

/-- REFINE_ADOPT: the shadows of the named entries staged and committed under the next generation (R251). -/
def effRefineAdopt : Effect := fun s r p h =>
  let names := (List.range 64).filter fun e => bit (field p 0 8) e
  let shadows := names.filterMap s.core.shadow?
  let b := s.config.active
  let new := b.generation + 1
  if names.isEmpty then refused s stBadValue
  else if s.paramN 0x10060001 = 0 then refused s stConditions
  else if s.config.commit.isSome then refused s stCommitPending
  else if s.config.staged.isSome then refused s stBusy
  else if shadows.length ≠ names.length then refused s stConditions
  else
    let staged := shadows.foldl (fun (b : Bank) x =>
      b.setEntry 0x10 0x03 x.entry (x.adopted ((b.entry? 0x10 0x03 x.entry).getD []))) b
    let g : Staged :=
      { baseGen := b.generation, newGen := if new = 0 then 1 else new, session := r.session, user := s.userOf r,
        lastActivity := s.now, params := [], pieces := [] }
    let s1 : State := { s with config.staged := some g, config.stagedBank := staged }.syncBanks
    let c := s1.commitRefusal g.newGen
    if c ≠ stOk then refused s c else accepted (s1.startCommit h 0)

/-- TABLE_READ: the table image as a transfer (R583, R594). -/
def effTableRead : Effect := fun s _ p h =>
  if 1 < u8 p 2 ∨ u8 p 3 ≠ 0 then refused s stBadValue
  else
    match tableInfo? (u8 p 0) (u8 p 1) with
    | none => refused s stBadId
    | some i => accepted (s.openBulk h true ((if u8 p 2 = 0 then s.config.active else s.config.stagedBank).image i))

/-- The slot a lane takes at bring-up: the one marked current, else the other (R624). -/
def LaneStore.taken (x : LaneStore) : Option Bank :=
  let (cur, other) := if x.current = 0 then (x.slot0, x.slot1) else (x.slot1, x.slot0)
  cur.orElse fun _ => other

/-- The banks a lane holds. -/
def LaneStore.banks (x : LaneStore) : List Bank := x.slot0.toList ++ x.slot1.toList

/-- The latest generation of a list under R21, when one is later than every other. -/
def latestGen (gs : List Word) : Option Word :=
  gs.find? fun g => gs.all fun o => o = g || seqLater 32 g.toNat o.toNat

/-- The bank the lanes take at start-up, and the generation that event 0x0104 names as left out, if it is raised (R624). -/
def ConfigStore.startBank (c : ConfigStore) : Bank × Option Word :=
  let a := c.storeA.taken
  let b := c.storeB.taken
  match a, b with
  | some x, some y =>
    if x.generation = y.generation then (x, none)
    else
      let both := c.storeA.banks.filter fun k => c.storeB.banks.any fun j => j.generation = k.generation
      let gens := (both.map (·.generation)).eraseDups
      let out (g : Word) : Option Word := some (if x.generation = g then y.generation else x.generation)
      let byGen (g : Word) : Option Bank := both.find? fun k => k.generation = g
      match latestGen gens with
      | some g => ((byGen g).getD .factory, out g)
      | none =>
        match if c.storeA.current = 0 then c.storeA.slot0 else c.storeA.slot1 with
        | some k => if gens.contains k.generation then (k, out k.generation) else (.factory, some k.generation)
        | none => (.factory, some x.generation)
  | some x, none => (.factory, some x.generation)
  | none, some y => (.factory, some y.generation)
  | none, none => (.factory, some 0)

/-- The parameter store that took the latest write (R606, R624). -/
def ConfigStore.startParams (c : ConfigStore) : List (Nat × Word) :=
  let x := if c.storeA.paramWrites < c.storeB.paramWrites then c.storeB else c.storeA
  if x.paramCurrent = 0 then x.params0 else x.params1

/-- A slot of a lane that a bring-up finds wrong: 0 and 1 configuration slots, 2 and 3 parameter slots (R624). -/
def LaneStore.damaged (x : LaneStore) (k : Nat) : LaneStore :=
  match k with
  | 0 => { x with slot0 := none }
  | 1 => { x with slot1 := none }
  | 2 => { x with params0 := [], paramCurrent := if x.paramCurrent = 0 then 1 else x.paramCurrent }
  | 3 => { x with params1 := [], paramCurrent := if x.paramCurrent = 1 then 0 else x.paramCurrent }
  | _ => x

/-- The configuration loaded at a bring-up of Warm reach or higher, from the slots whose header, DIGEST or check is correct (R624). -/
def State.loadConfig (s : State) (wrong : List (LaneId × Nat)) : State :=
  let s := wrong.foldl (fun s p => s.onStore p.1 fun x => x.damaged p.2) s
  let (b, out) := s.config.startBank
  let s1 : State :=
    { s with
      config.active := b
      config.staged := none
      config.commit := none
      params := s.config.startParams
      gnss.excluded := b.excludedSats }.banksTo [.a, .b]
  let s2 :=
    match out with
    | some g => s1.raise 0x0104 [g.toNat]
    | none => s1
  match s2.config.lost with
  | some g => { s2 with config.lost := none }.raise 0x0105 [g.toNat]
  | none => s2

/-- A part of a firmware package: PART, VERSION, SEC_VERSION (R690). -/
structure FwPart where
  part : Nat
  version : Nat
  sec : Nat
deriving DecidableEq, Repr

/-- The parts of a package: signature blocks of 256 bytes, each before its image; none when a part fails a check of R690 or R691. -/
def packageParts (s : State) : Nat → List Byte → Option (List FwPart)
  | 0, bs => if bs.isEmpty then some [] else none
  | n + 1, bs =>
    if bs.isEmpty then some []
    else
      let len := field bs 16 8
      let image := slice bs 256 len
      let slot := u8 bs 3
      let ok := 256 + len ≤ bs.length && u16 bs 0 = 0x5B0C && u8 bs 2 ≤ 5 && slot ≤ 3 && !bit s.security.revoked slot
        && u32 bs 12 ≤ 64 && s.security.secCounter ≤ u32 bs 12 && field (slice bs 168 88) 0 88 = 0
        && slice bs 24 48 = sha384 image && Config.signatureOk slot (bs.take 72) (slice bs 72 96)
      if !ok then none
      else (packageParts s n (bs.drop (256 + len))).map
        ({ part := u8 bs 2, version := field bs 4 8, sec := u32 bs 12 } :: ·)

/-- FIRMWARE_STAGE (R625): the package follows as a transfer. -/
def effFirmwareStage : Effect := fun s _ _ h =>
  if s.busyWith [0x0140] && (s.host.handles.any fun k => k.outstanding && decide (k.opcode = 0x0140) && decide (k.number ≠ h)) then
    refused s stBusy
  else accepted (s.openBulk h false [])

/-- The end of a FIRMWARE_STAGE: every part checked and written (R625, R691). -/
def State.firmwareStaged (s : State) (h : Nat) (stored : Bool) : State :=
  let data := s.bulkData h
  match packageParts s 6 data with
  | none => s.finishBulk h stTestFailed []
  | some ps =>
    if ps.isEmpty then s.finishBulk h stTestFailed []
    else if !stored then s.finishBulk h stStorageFailed []
    else
      let fw := s.config.firmware
      let lane (x : LaneStore) : LaneStore :=
        match ps.find? fun p => p.part = 1 with
        | none => x
        | some p => if fw.slot = 0 then { x with image1 := p.version } else { x with image0 := p.version }
      let s1 : State :=
        { s with
          config.storeA := lane s.config.storeA
          config.storeB := lane s.config.storeB
          config.firmware :=
            { fw with staged := ps.map fun p => (p.part, p.version)
                      stagedSec := ps.map fun p => (p.part, p.sec)
                      stagedFormats := Config.neededFormats data
                      stagedRevoke := if ps.any fun p => p.part = 5 then Config.revocations data % 16 else 0 } }
      s1.finishBulk h stOk []

/-- Whether a package holds a safety part. -/
def Firmware.safetyPart (f : Firmware) : Bool := f.staged.any fun p => p.1 = 2 || p.1 = 3

/-- FIRMWARE_ACTIVATE (R626): the staged parts become the preferred images, and a reset is ordered, Cold with a safety part. -/
def effFirmwareActivate : Effect := fun s _ _ _ =>
  let f := s.config.firmware
  if !s.quiet then refused s stNotInStandby
  else if s.config.commit.isSome then refused s stCommitPending
  else if f.staged.isEmpty || f.stagedFormats.any (fun x => 1 < x.2) || (f.safetyPart && s.safety.anyPermitOn) then
    refused s stConditions
  else
    let run := f.running.zipIdx.map fun p => ((assoc f.staged p.2)).getD p.1
    let s1 : State :=
      { s with
        config.firmware := { f with slot := if (assoc f.staged 1).isSome then 1 - f.slot else f.slot, previousSlot := f.slot, running := run, previous := f.running, staged := [], stagedFormats := [],
                                    trial := true, trialDue := 0 }
        rst.swr := some (if f.safetyPart then 0 else 1, 0)
        rst.swrAt := s.now }
    accepted s1

end Sys2Proof.Machine
end

