-- ==== Sys2Proof/Machine/Peer.lean ====
section
/-!
DEFINITION. The peer: its messages, the peer link, duty and the duty discrete (R396 to R406).
-/

namespace Sys2Proof.Machine

/-- Counters of the peer unit: 1 state messages that fail their check or are discarded, 2 data messages discarded. -/
def ctrPeer (k : Nat) : Nat := 0x71F00000 + k

/-- Peer operation is enabled. -/
def State.peerEnabled (s : State) : Bool := s.paramN 0x71010001 = 1

/-- Connection ID of the messages sent by a role (R398). -/
def peerConnId (roleB : Bool) : Nat := if roleB then 0x710100B1 else 0x710100A1

/-- The module has role B. -/
def State.roleB (s : State) : Bool := s.paramN 0x71010002 = 1

/-- A peer state message from its 64 bytes (R396). -/
def PeerState.of (d : List Byte) : PeerState :=
  { frame := BitVec.ofNat 32 (u32 d 0), serial := BitVec.ofNat 32 (u32 d 4), health := u8 d 8, mode := u8 d 9,
    duty := u8 d 10, pflags := u8 d 11, configGen := BitVec.ofNat 32 (u32 d 12), spN := i32 d 16, spE := i32 d 20,
    spH := u32 d 24, vdN := i32 d 28, vdE := i32 d 32, vdH := i32 d 36, gain := u8 d 40, bin := u8 d 41,
    waypoint := u8 d 42, trackNo := u8 d 43 }

/-- The 64 bytes of a peer state message. -/
def PeerState.bytes (x : PeerState) : List Byte :=
  le 4 x.frame.toNat ++ le 4 x.serial.toNat ++ le 1 x.health ++ le 1 x.mode ++ le 1 x.duty ++ le 1 x.pflags
    ++ le 4 x.configGen.toNat ++ leInt 4 x.spN ++ leInt 4 x.spE ++ le 4 x.spH ++ leInt 4 x.vdN ++ leInt 4 x.vdE
    ++ leInt 4 x.vdH ++ le 1 x.gain ++ le 1 x.bin ++ le 1 x.waypoint ++ le 1 x.trackNo ++ List.replicate 20 0

/-- A peer data message from its bytes (R397). -/
def PeerData.of (d : List Byte) : PeerData :=
  { frame := BitVec.ofNat 32 (u32 d 0), configGen := BitVec.ofNat 32 (u32 d 4), originLat := i32 d 8, originLon := u32 d 12,
    tn := i32 d 16, te := i32 d 20, th := u32 d 24,
    dispatched := (List.range 24).map fun k => (i32 d (32 + 8 * k), i32 d (36 + 8 * k)) }

/-- The 228 bytes of a peer data message. -/
def PeerData.bytes (x : PeerData) : List Byte :=
  let body := le 4 x.frame.toNat ++ le 4 x.configGen.toNat ++ leInt 4 x.originLat ++ le 4 x.originLon ++ leInt 4 x.tn
    ++ leInt 4 x.te ++ le 4 x.th ++ le 4 0 ++ x.dispatched.flatMap fun f => leInt 4 f.1 ++ leInt 4 f.2
  body ++ le 4 (crc32c body).toNat

/-- A peer state PDU has its length and the CRC of the peer's connection (R398, R442). -/
def State.peerPduOk (s : State) (bytes : List Byte) : Bool :=
  bytes.length = 70 && bytes = pduBytes (peerConnId (!s.roleB)) (field bytes 0 2) (slice bytes 2 64)

/-- The peer link is regained after 10 consecutive valid messages (R399). -/
def State.regainLink (s : State) : State :=
  if !s.peer.up && 10 ≤ s.peer.validRun then { s with peer.up := true, peer.dataFresh := false }.raise 0x7103 [] else s

/-- PEER_STATE_RECEIVE: a peer state PDU received and checked under the Xiros rules (R396, R398, R399). -/
def execPeerStateReceive (t : Nat) (bytes : List Byte) (s : State) : Result :=
  let s := s.tick t
  if s.unitHeld 0x31 then .next s else
  if !s.peerPduOk bytes then .next ({ s with peer.validRun := 0 }.count (ctrPeer 1))
  else
    let data := slice bytes 2 64
    let r := s.peer.conn.tick.receive s.now 8 (field bytes 0 2) data false
    let s1 : State := { s with peer.conn := r.1, peer.physical := true }
    if r.2.1 = 0 then
      .next { s1 with peer.state := some (.of data), peer.validRun := s.peer.validRun + 1 }.regainLink
    else .next ({ s1 with peer.validRun := 0 }.count (ctrPeer 1))

/-- PEER_DATA_RECEIVE: CRC, then a frame later than the last accepted one; used while the link is up (R397 to R399). -/
def execPeerDataReceive (t : Nat) (bytes : List Byte) (s : State) : Result :=
  let s := s.tick t
  if s.unitHeld 0x31 then .next s else
  let d := PeerData.of bytes
  let later : Bool :=
    match s.peer.data with
    | none => true
    | some x => seqLater 32 d.frame.toNat x.frame.toNat
  if bytes.length ≠ 228 ∨ !crcOk bytes 224 ∨ !later then .next (s.count (ctrPeer 2))
  else if !s.peer.up then .next s
  else .next { s with peer.data := some d, peer.dataFresh := true }

/-- PEER_LINK_LOST: the watchdog expires, or PEER loses its link (`physicalUp` false) (R399). -/
def execPeerLinkLost (t : Nat) (physicalUp : Bool) (s : State) : Result :=
  let s := s.tick t
  let expired := s.peer.conn.lastAt + s.paramN 0x71010003 * msNs ≤ s.now
  if physicalUp && !expired then .next s
  else
    let s1 : State :=
      { s with
        peer.physical := physicalUp
        peer.up := false
        peer.validRun := 0
        peer.dataFresh := false
        peer.conn := { s.peer.conn with st := .fault, data := [] } }
    .next (s1.raiseIf s.peer.up 0x7102 [])

/-- The peer's discrete can be read: its input channel is an input whose value is valid (R401). -/
def State.discreteReadable (s : State) : Bool :=
  let c := s.paramN 0x71010005
  s.dioDir c = 1 && s.dioValid c

/-- The peer's discrete is readable and low. -/
def State.discreteLow (s : State) : Bool := s.discreteReadable && !s.peer.discrete

/-- The peer shows a duty code over a link that is up. -/
def State.peerShows (s : State) (duty : Nat) : Bool :=
  s.peer.up &&
    match s.peer.state with
    | some x => x.duty = duty
    | none => false

/-- The peer is in STANDBY-TWIN over a link that is up, with health at most a code. -/
def State.peerTwin (s : State) (health : Nat) : Bool :=
  s.peerShows 0 &&
    match s.peer.state with
    | some x => x.health ≤ health
    | none => false

/-- Every command output stops (R400, R403). -/
def State.stopCommands (s : State) : State :=
  let s1 : State := { s with out.sent := [], fio.duty := false }
  (s1.dioPass).aoPass

/-- Duty code in messages and statuses (R396). -/
def Duty.code : Duty → Nat
  | .twin => 0
  | .duty => 1
  | .release => 2

/-- Duty released at a strobe (R403). -/
def State.releaseDuty (s : State) : State :=
  let s1 : State := { s with peer.duty := .release, peer.transferAsked := false, peer.dualRun := 0 }
  s1.stopCommands.raise 0x7101 [2]

/-- Duty taken at a strobe: the discrete goes high and every automatic axis starts from a preset integrator (R294, R403). -/
def State.takeDuty (s : State) : State :=
  let s1 : State := { s with peer.duty := .duty, peer.disagree := false, peer.dualRun := 0, fio.duty := true }
  let s2 := s1.onCores fun c => { c with ctl := { c.ctl with autoAxes := [false, false, false] } }
  s2.dioPass.raise 0x7101 [1]

/-- The health state lets the module act. -/
def Health.good (h : Health) : Bool := h = .healthy ∨ h = .degraded

/-- The rules of a module in DUTY; `before`: its health before this strobe (R402). -/
def State.dutyRules (s : State) (before : Health) : State :=
  let h := s.ridge.health
  let twinKnown := s.peerTwin 1 || (!s.peer.up && s.discreteLow)
  let equalGen : Bool :=
    match s.peer.state with
    | some x => x.configGen = s.config.active.generation
    | none => false
  if before.good && !h.good && twinKnown then s.releaseDuty
  else if before = .healthy && h = .degraded && s.paramN 0x71010006 = 1 && s.peerTwin 0 then s.releaseDuty
  else if s.peer.transferAsked then
    (if s.peerTwin 1 && equalGen then s.releaseDuty else { s with peer.transferAsked := false })
  else if s.peerShows 1 || s.peer.discrete then { s with peer.dualRun := s.peer.dualRun + 1 }
  else { s with peer.dualRun := 0 }

/-- The rules of a module in STANDBY-TWIN (R402, R406). -/
def State.twinRules (s : State) : State :=
  if !s.ridge.health.good || !s.peer.settled then s
  else if s.peerShows 1 && s.discreteLow then
    (if s.peer.disagree then s else { s with peer.disagree := true }.raise 0x7104 [])
  else
    let s1 : State := { s with peer.disagree := false }
    if (s.peerShows 0 || s.peerShows 2 || !s.peer.up) && s.discreteLow then s1.takeDuty else s1

/-- Whether the start-up conditions of R406 hold; a role A module is settled with them. -/
def State.settle (s : State) : State :=
  if s.peer.settled || !s.ridge.health.good || s.mode ≠ .standby then s
  else
    match s.peer.readySince with
    | some _ => s
    | none => { s with peer.readySince := some s.now, peer.settled := !s.roleB }

/-- The duty decision of a strobe (R402, R403, R406). -/
def State.dutyDecision (s : State) (before : Health) : State :=
  if !s.peerEnabled then { s with peer.duty := .duty }
  else
    match s.peer.duty with
    | .release => { s with peer.duty := .twin }
    | .duty => s.dutyRules before
    | .twin => s.settle.twinRules

/-- ROLE_B_WAIT: the further 3 s of a role B module have passed (R406); duty is taken at a strobe (R402). -/
def execRoleBWait (t : Nat) (s : State) : Result :=
  let s := s.tick t
  if s.roleB && s.since s.peer.readySince (3 * secNs) then .next { s with peer.settled := true } else .next s

/-- DUAL_DUTY_RELEASE: both modules have held duty for 3 consecutive frames (R404). -/
def execDualDutyRelease (t : Nat) (s : State) : Result :=
  let s := s.tick t
  if s.peer.duty ≠ .duty ∨ s.peer.dualRun < 3 then .next s
  else
    let s1 := { s with peer.dualRun := 0 }.raise 0x7105 []
    let mine := (BitVec.ofNat 32 s.rst.options.serial).toNat
    let yields : Bool :=
      match s.peer.state with
      | some x => if bit x.pflags 0 = s.roleB then x.serial.toNat < mine else s.roleB
      | none => s.roleB
    if yields then .next s1.releaseDuty else .next s1

/-- The peer state message of a frame (R396). -/
def State.peerMessage (s : State) : PeerState :=
  let c := s.core
  let e := c.engine
  let driven := s.peerEnabled && s.peer.duty = .duty
  { frame := s.frame.number, serial := BitVec.ofNat 32 s.rst.options.serial, health := s.ridge.health.code,
    mode := c.ctl.mode.code, duty := s.peer.duty.code,
    pflags := b2n s.roleB + 2 * b2n driven + 4 * b2n s.peer.discrete + 8 * b2n (c.conseq.failAlm ≠ 0),
    configGen := s.config.active.generation, spN := e.int 0x1110, spE := e.int 0x1111, spH := (e.word 0x1112).toNat,
    vdN := e.int 0x1113, vdE := e.int 0x1114, vdH := e.int 0x1115, gain := e.level, bin := e.bin,
    waypoint := if c.ctl.mode = .track then c.ctl.leg else 0xFF,
    trackNo := if c.ctl.mode = .followTarget then c.ctl.follow else 0xFF }

/-- The peer data message of the duty module (R397). -/
def State.peerDataMessage (s : State) : PeerData :=
  let c := s.core
  let o : Int × Nat :=
    match c.origin.site, c.origin.geo with
    | true, some g => (g.lat, g.lon)
    | _, _ => (-2147483648, 0)
  { frame := s.frame.number, configGen := s.config.active.generation, originLat := o.1, originLon := o.2, tn := c.ctl.tn,
    te := c.ctl.te, th := c.ctl.th, dispatched := s.out.dispatched }

/-- The messages sent after a strobe (R396, R397). -/
def State.peerSend (s : State) : State :=
  { s with
    peer.sent := some s.peerMessage
    peer.pdu := pduBytes (peerConnId s.roleB) s.peer.txSeq s.peerMessage.bytes
    peer.txSeq := (s.peer.txSeq + 1) % 65536
    peer.sentData := if s.peer.duty = .duty then some s.peerDataMessage else none }

/-- What a module in STANDBY-TWIN takes from the peer in DUTY at a strobe (R400). -/
def Work.adoptPeer (s : State) (w : Work) (x : PeerState) (d : Option PeerData) : Work :=
  match Mode.ofCode x.mode with
  | none => w
  | some m =>
    let old := w.core.ctl
    let w := if old.mode = m ∧ (m ≠ .followTarget ∨ old.follow = x.trackNo) then w
      else w.changeMode s m x.trackNo (s.paramN 0x0201000E) (s.paramN 0x0201000F)
    let w :=
      match d with
      | some y => if m.isDp && !w.core.origin.site && !w.core.originDue then w.takePeerOrigin s y else w
      | none => w
    let c := w.core
    let ctl : Control :=
      match d with
      | some y => { c.ctl with tn := y.tn, te := y.te, th := y.th }
      | none => c.ctl
    let ctl : Control :=
      { ctl with leg := if m = .track ∧ x.waypoint ≠ 0xFF then x.waypoint else ctl.leg, blend := 0, heldLevel := none }
    let e := (c.engine.setInts 0x1110 [x.spN, x.spE, (x.spH : Int)]).setInts 0x1113 [x.vdN, x.vdE, x.vdH]
    let e := { e with prevLevel := x.gain, level := x.gain }
    w.setCore { c with ctl := ctl, engine := e }

/-- The peer's values at a strobe in STANDBY-TWIN (R400). -/
def State.followPeer (s : State) : State :=
  match s.peer.duty, s.peer.up, s.peer.atCutoff with
  | .twin, true, some x =>
    if x.duty ≠ 1 then s
    else
      let d := if s.peer.dataFresh then s.peer.dataAtCutoff else none
      let s1 := s.lanesWork fun s w => w.adoptPeer s x d
      let s2 := if s.mode = .maintenance ∧ s1.mode ≠ .maintenance then s1.unforce else s1
      match d with
      | some y => { s2 with out.fromPeer := some y.dispatched }
      | none => s2
  | _, _, _ => s

/-- DUTY_TRANSFER (R402): released at the next strobe. -/
def effDutyTransfer : Effect := fun s _ _ _ =>
  let equalGen : Bool :=
    match s.peer.state with
    | some x => x.configGen = s.config.active.generation
    | none => false
  if s.peerEnabled && s.peer.duty = .duty && s.peerTwin 1 && equalGen then served { s with peer.transferAsked := true }
  else refused s stConditions

end Sys2Proof.Machine
end

