-- ==== Sys2Proof/Machine/Frame.lean ====
section
/-!
DEFINITION. The control frame: arrival of samples, cut-offs, the strobe, delivery of snapshots and sub-snapshots
(R71 to R98, R305, R382, R620).
-/

namespace Sys2Proof.Machine

/-- Snapshot-overrun counter of a source (R82). -/
def ctrOverrun (source : Nat) : Nat := 0x01F10000 + source

/-- A sample put into the queue of its source: at most 16, a further one overwrites the oldest and sets OVERRUN on the newest
entry; answers whether it did (R82). -/
def enqueueSample (secs : List Section) (source : Nat) (x : Sample) : List Section × Bool :=
  match secs.find? fun k => k.source = source with
  | none => (secs ++ [{ source := source, samples := [x] }], false)
  | some k =>
    let full : Bool := 16 ≤ k.samples.length
    let x1 : Sample := if full then { x with sflags := x.sflags ||| 1#16 } else x
    let kept := if full then k.samples.drop 1 else k.samples
    (secs.map fun y => if y.source = source then { y with samples := kept ++ [x1] } else y, full)

/-- The sources of motion reference units (R90, R207). -/
def Bank.motionSources (b : Bank) : List Nat := [20, 21, 22].filterMap fun i => (b.ref? i).map (·.source)

/-- The queue a motion sample that arrives now belongs to, by the first cut-off it beats: 1 to 7 the sub-frames of this frame, 8 the
frame cut-off, 9 sub-frame 1 of the next frame (R90, R91). Before the first strobe there is the frame cut-off alone. -/
def State.motionKey (s : State) : Nat :=
  let f := s.frame
  if s.pastCutoff then 9
  else if !f.begun then 8
  else ((List.range' 1 7).find? fun k => decide (s.now + 100 * usNs < f.strobe + k * f.period * msNs / 8)).getD 8

/-- A sample stamped with its arrival time and put into the queue of the snapshot or sub-snapshot whose cut-off it beats: one that
arrives exactly at a cut-off belongs to the next (R78, R82, R91). -/
def State.arrive (s : State) (source : Nat) (x : Sample) : State :=
  let x : Sample := { x with arrival := s.now }
  let put (secs : List Section) : List Section × Bool := enqueueSample secs source x
  let r : State × Bool :=
    if s.config.active.motionSources.contains source then
      let k := s.motionKey
      let q := put ((assoc s.frame.motion k).getD [])
      ({ s with frame.motion := assocSet s.frame.motion k q.1 }, q.2)
    else if s.pastCutoff then
      let q := put s.frame.later
      ({ s with frame.later := q.1 }, q.2)
    else
      let q := put s.frame.building
      ({ s with frame.building := q.1 }, q.2)
  if r.2 then r.1.count (ctrOverrun source) else r.1

/-- SAMPLE_ARRIVAL (R78). -/
def execSampleArrival (t : Nat) (a : Arriving) (s : State) : Result :=
  let s := s.tick t
  if s.unitHeld 0 then .next s else
  match a with
  | .message source portTs sflags data =>
    .next (s.arrive source { arrival := 0, portTs := portTs, sflags := BitVec.ofNat 16 sflags, data := data })
  | .inFlight k =>
    match s.frame.inFlight[k]? with
    | none => .next s
    | some x => .next ({ s with frame.inFlight := s.frame.inFlight.eraseIdx k }.arrive x.1 x.2)

/-- A section of one sample latched at the cut-off. -/
def State.latchedSection (s : State) (source : Nat) (data : List Byte) : Section :=
  { source := source, samples := [{ arrival := s.now, portTs := s.now, sflags := 0, data := data }] }

/-- The DISPATCHED section (R305). -/
def State.dispatchedBytes (s : State) : List Byte := s.out.dispatched.flatMap fun f => leInt 4 f.1 ++ leInt 4 f.2

/-- Some sections with the samples of others behind them, source by source (R82). -/
def joinSections (a b : List Section) : List Section :=
  b.foldl (fun acc k => k.samples.foldl (fun acc x => (enqueueSample acc k.source x).1) acc) a

/-- The motion samples of the frame snapshot: those that beat no sub-frame cut-off before the frame's, and those whose sub-snapshot was
never sent (R91). -/
def FrameUnit.motionClosed (f : FrameUnit) : List Section :=
  (List.range' 1 8).foldl (fun acc k => joinSections acc ((assoc f.motion k).getD [])) []

/-- The repeat of the latest SBAS message of the next type, where the frame has room: it arrives just before the cut-off (R139; DESIGN
CHOICE, log 113). -/
def State.sbasJoin (s : State) : State :=
  match s.sbasRepeat with
  | none => s
  | some n =>
    if s.unitHeld 0x30 then s
    else
      let x : Sample := { arrival := s.now - 1, portTs := s.now - 1, sflags := 0, data := n.bytes 3 }
      { s with
        gnss.sbasAt := (s.gnss.sbasAt + 1) % s.gnss.sbas.length
        frame.building := (enqueueSample s.frame.building 0x0103 x).1 }

/-- The work of a cut-off: latched sections join the queues, which are closed, and the commands that have arrived close with them; the swap is set where it is due (R78, R79, R305,
R370, R400, R453, R620). -/
def State.cutoffWork (s : State) : State :=
  let s1 := s.sbasJoin.swapAtCutoff
  let safe := s1.safety.sample
  let (ls, s2) := s1.lshedSample
  let (pulse, s3) := s2.pulseSample
  let latched :=
    [s3.latchedSection 0x0020 s3.dispatchedBytes, s3.latchedSection 0x0021 ls, s3.latchedSection 0x0030 safe,
     s3.latchedSection 0x0040 s3.dioSample, s3.latchedSection 0x0050 pulse]
  let s4 : State :=
    { s3 with
      safety.latched := safe
      peer.atCutoff := s3.peer.state
      peer.dataAtCutoff := s3.peer.data
      frame.closed := some (s3.frame.building ++ s3.frame.motionClosed ++ latched)
      frame.building := []
      frame.motion := s3.frame.motion.filter fun q => q.1 = 9
      frame.closedCommands := s3.frame.commands
      frame.commands := [] }
  s4.ephNextFrame

/-- SNAPSHOT_CUTOFF: at t0 − 0.5 ms the builder closes the snapshot of the frame (R78). The first one has no strobe before it to be
timed from. -/
def execSnapshotCutoff (t : Nat) (s : State) : Result :=
  let s := s.tick t
  if s.rst.up ≠ .up ∨ s.frame.closed.isSome ∨ s.pastCutoff ≠ s.frame.begun then .next s else .next s.cutoffWork

/-- FLAGS of a snapshot (R84). -/
def snapshotFlags (period replay bank : Bool) : Half :=
  BitVec.ofNat 16 (2 * b2n period + 4 * b2n replay + 128 * b2n bank)

/-- The header of the present frame over some sections. -/
def State.snapshot (s : State) (flags : Half) (secs : List Section) : Snapshot :=
  { flags := flags, frame := s.frame.number, strobeMono := s.frame.strobe, taiS := s.taiS, taiNs := s.taiNs,
    timeStatus := s.timeStatus, periodMs := s.frame.period, configGen := s.config.active.generation, sections := secs,
    commands := [] }

/-- The frame number and the times of a strobe; the first one after a bring-up falls at its own time (R71, R73, R75). -/
def State.strobeTimes (s : State) : State :=
  let f := s.frame
  let t0 := if f.begun then f.nextStrobe else s.now
  let p := s.paramN 0x01010001
  { s with
    now := max s.now t0
    frame.number := if f.begun then f.number + 1 else 0
    frame.begun := true
    frame.strobe := t0
    frame.period := p
    frame.nextStrobe := t0 + p * msNs }

/-- At a new period the rewind buffers are emptied (R73, R245). -/
def Core.newPeriod (c : Core) (strobe old : Nat) : Core :=
  { c with rewind := [], late := [], periodAt := strobe, oldPeriod := old, ctl := { c.ctl with depthFrames := 0 } }

/-- Both lanes at the strobe that changes the period from an old one. -/
def State.newPeriod (s : State) (old : Nat) : State :=
  let f (x : Lane) : Lane :=
    { x with core := x.core.newPeriod s.frame.strobe old, saved := x.saved.newPeriod s.frame.strobe old }
  { s with laneA := f s.laneA, laneB := f s.laneB }

/-- Whether the coming strobe is the first at a new period (R73, R84). -/
def State.periodChanges (s : State) : Bool := s.frame.begun && decide (s.frame.period ≠ s.paramN 0x01010001)

/-- The health decisions of a strobe, with what they do to a pending commit (R390, R622). -/
def State.strobeHealth (s : State) : State :=
  let before := s.inService.length
  let failed : Bool := s.ridge.health = .failed
  let s1 := s.rampFrame.healthAtStrobe
  if s1.inService.length < before ∨ (s1.ridge.health = .failed ∧ !failed) then s1.dropOnLaneLoss else s1

/-- What the frame that starts carries: a replay or a known-answer set after a mismatch in the frame before, or the set of a health
reset at a period below 11 ms; at strobe n + 2 the lanes restore (R94, R96, R97, R382, R393). -/
def State.strobeStage (s : State) : State :=
  let n := s.frame.number
  match s.ridge.withheld, s.ridge.restore with
  | some w, true =>
    if n = w + 1 then
      let st : ReplayStage := if s.ridge.katDue && 14 ≤ s.frame.period && s.ridge.health = .healthy then .replay else .knownAnswer
      { s with frame.replay := st }
    else { s.restoreLanes with frame.replay := .none }
  | _, _ =>
    let kat : Bool := s.ridge.healthReset.isSome && !s.ridge.healthResetKat && s.frame.period < 11
    { s with frame.replay := if kat then .knownAnswer else .none }

/-- The entry of the rewind buffer of a frame takes the sub-snapshots of that frame, once it is over (R93). -/
def Core.storeSubs (c : Core) (subs : List Snapshot) : Core :=
  match c.rewind, subs with
  | e :: rest, x :: _ => if e.strobe = x.strobeMono then { c with rewind := { e with subs := subs } :: rest } else c
  | _, _ => c

/-- A lane at the start of a frame: nothing delivered, no snapshot held, the numeric status word begun (R262); the sub-snapshots of the frame before stand with its stored
inputs (R93). -/
def Lane.newFrame (x : Lane) : Lane :=
  let c := x.core.storeSubs x.subs
  { x with slot := none, held := none, subs := [], deadline := false, fused := false, core := { c with engine := c.engine.nextFrame } }

/-- Both lanes take over the bias group enable at the strobe (R327). -/
def State.latchBias (s : State) : State :=
  let m := s.paramN 0x21010009
  let f (x : Lane) : Lane := { x with core := { x.core with alloc := { x.core.alloc with biasMask := m } } }
  { s with laneA := f s.laneA, laneB := f s.laneB }

/-- The snapshot of the frame formed from the closed sections (R84). -/
def State.formSnapshot (s : State) (changed : Bool) : State :=
  let secs := s.frame.closed.getD []
  let x : Snapshot :=
    { s.snapshot (snapshotFlags changed (s.frame.replay = .replay) s.frame.bankSwap) secs with commands := s.frame.closedCommands }
  { s with
    frame.previous := s.frame.current
    frame.current := some x
    frame.previousSubs := s.frame.subs
    frame.subs := []
    frame.nextSub := 1
    frame.closed := none
    frame.building := s.frame.later
    frame.later := []
    frame.motion := (s.frame.motion.filter fun q => q.1 = 9).map fun q => (1, q.2)
    frame.undecided := s.frame.undecided ++ s.frame.closedCommands
    frame.closedCommands := []
    frame.commands := s.frame.laterCommands
    frame.laterCommands := []
    frame.window := 0
    frame.katWindow := s.ridge.healthReset.isSome && !s.ridge.healthResetKat && s.windowKat
    frame.caseRun := false
    frame.corrupt := false
    frame.bankSwap := false
    frame.carried := s.frame.carries
    frame.carries := s.frame.replay ≠ .none
    laneA := s.laneA.newFrame
    laneB := s.laneB.newFrame }

/-- A strobe at or after 200 ms of a power-fail sequence: the number goes on, the lanes compute no frame (R676); a new period takes
effect as at any strobe (R73). -/
def State.idleStrobe (s : State) : State :=
  let s1 := s.strobeTimes
  let s2 : State :=
    { s1 with
      frame.current := none
      frame.closed := none
      frame.building := []
      laneA := s1.laneA.newFrame
      laneB := s1.laneB.newFrame }
  if s.periodChanges then s2.newPeriod s.frame.period else s2

/-- FRAME_STROBE (R71): number and times, health, bank swap, replay stage, snapshot, GNSS epoch, duty, peer messages. -/
def execFrameStrobe (t : Nat) (e : Option Epoch) (s : State) : Result :=
  let s := s.tick t
  if s.rst.up ≠ .up then .next s
  else if s.power.pfStopped then .next s.idleStrobe
  else
    let s0 := if s.frame.closed.isSome then s else s.cutoffWork
    let changed := s0.periodChanges
    let before := s0.ridge.health
    let s1 := s0.strobeTimes.strobeHealth.swapBanks.strobeStage
    let s2 := (s1.formSnapshot changed).latchBias.rejoinAtStrobe
    let s3 := if changed then s2.newPeriod s0.frame.period else s2
    let s4 := ((s3.epochAtStrobe e).checkSources).learnUtc
    let s5 := ((s4.dutyDecision before).followPeer).peerSend
    .next { s5 with fio.undispatched := s5.fio.undispatched + 1 }

/-- The snapshot with the epoch sections that were complete in time (R80). -/
def State.joinEpoch (s : State) : State :=
  { s with
    frame.current := s.frame.current.map fun (x : Snapshot) => { x with sections := x.sections ++ s.frame.gnssPending }
    frame.gnssPending := [] }

/-- What a lane holds after a copy of the snapshot: the snapshot, one whose changed bytes still pass the digest, or nothing (R86). -/
def SnapCopy.read (c : SnapCopy) (x : Snapshot) : Option Snapshot :=
  match c with
  | .intact => some x
  | .missing => none
  | .damaged err =>
    let bs := changedBytes (x.body ++ le 4 x.digest.toNat) err
    let n := bs.length - 4
    if (crc32c (bs.take n)).toNat = field bs n 4 then
      some (if bs.take n = x.body then x else { x with sections := Config.damagedSections (bs.take n) })
    else none

/-- The copies a lane reads one after the other, the broadcast first and then read requests to the builder, until one is valid (R86).
A builder whose copy fails its digest delivers none (R684). -/
def State.readCopies (s : State) (x : Snapshot) (copies : List SnapCopy) : Option Snapshot :=
  if s.frame.corrupt then none else copies.findSome? fun c => c.read x

/-- A lane takes a snapshot: it holds it as input of the frame; in a frame that computes no record it keeps it as an input of the
next one; a new sea-state bin applies and sub-frame 0 of the inertial program runs (R86, R91, R245, R286). -/
def Work.takeSnapshot (s : State) (w : Work) (x : Snapshot) (ps : List Parsed) : Work :=
  let w0 := if s.frame.replay = .none then w.applyBin s else w
  let w1 : Work := { w0 with lane := { w0.lane with held := some x } }
  let keep : Bool := s.frame.replay = .knownAnswer && !s.ridge.restore
  let w2 := if keep then w1.setCore { w1.core with stored := w1.core.stored ++ [x] } else w1
  w2.runInertial s 0 x.periodMs x.strobeMono x.sections ps

/-- The broadcast of the snapshot: its digest goes to the Ridge comparator (R85). -/
def State.broadcastDigest (s : State) (x : Snapshot) : State := { s with ridge.snapDigest := x.digest }

/-- SNAPSHOT_RECEIVE: a lane reads its copies of the snapshot, until t0 + 0.5 ms and its deadline, and holds the first valid one (R85,
R86). -/
def execSnapshotReceive (t : Nat) (lane : LaneId) (copies : List SnapCopy) (ps : List Parsed) (s : State) : Result :=
  let s := (s.tick t).joinEpoch
  match s.frame.current with
  | none => .next s
  | some x =>
    let s := s.broadcastDigest x
    let open_ : Bool := (s.lane lane).runs && (s.lane lane).held.isNone && !(s.lane lane).deadline
      && decide (s.now ≤ s.frame.strobe + 500 * usNs)
    match open_, s.readCopies x copies with
    | true, some y => .next (s.laneWork lane fun w => w.takeSnapshot s y ps)
    | _, _ => .next s

/-- SNAPSHOT_DEADLINE: a lane without a valid snapshot at t0 + 0.5 ms delivers a record that carries only SNAPSHOT_LOST; the snapshot,
kept by the builder, is an input of its next computed frame, and its state is stored, so that a replay starts from it (R86, R87, R94,
R245). -/
def execSnapshotDeadline (t : Nat) (lane : LaneId) (s : State) : Result :=
  let s := s.tick t
  let x := s.lane lane
  if s.frame.current.isNone || !x.runs || x.held.isSome || x.deadline || decide (s.now < s.frame.strobe + 500 * usNs) then .next s
  else
    let slot := if s.frame.replay = .none then some (LaneRecord.lost s) else x.slot
    let s1 := if s.frame.replay = .none then s.laneWork lane fun w => w.storeState s else s
    let stored := if s.ridge.restore then x.core.stored else x.core.stored ++ s.frame.current.toList
    .next (s1.onLane lane fun x => { x with core := { x.core with stored := stored }, slot := slot, deadline := true })

/-- The sub-snapshot of sub-frame k: the header of the frame's snapshot with the flags of R90, the motion samples that beat its cut-off,
and those of an earlier one that was not sent (R84, R90, R91). -/
def State.subSnapshot (s : State) (k : Nat) (x : Snapshot) : Snapshot :=
  { x with
    flags := BitVec.ofNat 16 (8 + 16 * k)
    sections := (List.range' 1 k).foldl (fun acc j => joinSections acc ((assoc s.frame.motion j).getD [])) []
    commands := [] }

/-- A lane takes a sub-snapshot it holds a valid copy of, and runs the inertial program on it; without one the program runs on no new
sample (R86, R90, R92). -/
def State.takeSub (s : State) (l : LaneId) (k : Nat) (x : Snapshot) (copies : List SnapCopy) (ps : List Parsed) : State :=
  if !(s.lane l).runs then s
  else
    let got := (copies.findSome? fun c => c.read x).toList
    s.laneWork l fun w =>
      ({ w with lane := { w.lane with subs := w.lane.subs ++ got } } : Work).runInertial s k s.frame.period s.frame.strobe
        (got.flatMap (·.sections)) ps

/-- SUBFRAME_CUTOFF: at t0 + k P / 8 − 0.1 ms the builder sends the sub-snapshot of sub-frame k; each lane reads its copies of it and runs
the inertial program (R90 to R93, R277). -/
def execSubframeCutoff (t : Nat) (copiesA copiesB : List SnapCopy) (ps : List Parsed) (s : State) : Result :=
  let s := s.tick t
  let k := s.frame.nextSub
  match s.frame.current with
  | none => .next s
  | some c =>
    if s.rst.up ≠ .up ∨ 7 < k ∨ s.now + 100 * usNs < s.frame.strobe + k * s.frame.period * msNs / 8 then .next s
    else
      let x := s.subSnapshot k c
      let s1 : State :=
        { s with
          frame.subs := s.frame.subs ++ [x]
          frame.motion := s.frame.motion.filter fun q => k < q.1
          frame.nextSub := k + 1 }
      .next ((s1.takeSub .a k x copiesA ps).takeSub .b k x copiesB ps)

/-- A failed online known-answer slice of a lane (R386). -/
def State.sliceFails (s : State) (l : LaneId) : State :=
  if (s.lane l).excluded || !(s.lane l).runs then s
  else if s.ridge.health = .degraded then s.orderFailed
  else s.orderExclusion l 3

end Sys2Proof.Machine
end

