-- ==== Sys2Proof/Machine/Recorder.lean ====
section
/-!
DEFINITION. The event recorder: records, repeats, trends, yealms, the NAND devices, the incident freeze, exports (R629 to R650).
-/

namespace Sys2Proof.Machine

/-- Counters of the recorder (R652): 1 repeats that started a new record at saturation, 2 skipped yealms, 3 and 4 failed read-backs
of device A and B. -/
def ctrRecorder (k : Nat) : Nat := 0x60F00000 + k

/-- Severity of a record (R634, R635). -/
def Record.severity (r : Record) : Nat := Sys2Proof.Machine.severity r.code

/-- A record as bytes (R629). -/
def Record.bytes (r : Record) : List Byte :=
  le 6 r.seq ++ le 2 r.code ++ le 4 r.opSeconds.toNat ++ le 4 r.powerCycles.toNat ++ le 6 r.taiS ++ le 4 r.taiNs
    ++ le 2 r.tstatus.toNat ++ le 2 r.repeats ++ le 1 r.payload.length ++ le 1 (r.severity + 8 * r.kind) ++ pad4 r.payload

/-- Bytes of some records. -/
def bodyLength (rs : List Record) : Nat := (rs.map fun r => r.bytes.length).sum

/-- Largest body of a yealm (R638). -/
def bodyMax : Nat := 65312

/-- The first and the last record of a list, for a field. -/
def ends (rs : List Record) (f : Record → Nat) : Nat × Nat :=
  ((rs.head?.map f).getD 0, (rs.getLast?.map f).getD 0)

/-- Bytes 0 to 65407 of a yealm: what is digested and signed (R638). -/
def Yealm.signed (y : Yealm) : List Byte :=
  let body := y.records.flatMap Record.bytes
  let q := ends y.records (·.seq)
  let o := ends y.records fun r => r.opSeconds.toNat
  le 2 0x7EA1 ++ le 2 1 ++ le 1 y.region ++ le 1 y.cause ++ le 2 y.records.length ++ le 8 y.yseq ++ le 8 q.1 ++ le 8 q.2
    ++ le 4 o.1 ++ le 4 o.2 ++ le 4 y.powerCycles.toNat ++ le 4 body.length ++ y.prevDigest ++ le 8 y.serial ++ le 4 y.keyId
    ++ le 4 0 ++ body ++ List.replicate (bodyMax - body.length) 0xFF#8

/-- The 65 536 bytes of a yealm (R638). -/
def Yealm.bytes (y : Yealm) : List Byte :=
  let b := y.signed ++ y.digest ++ y.signature ++ List.replicate 28 0
  b ++ le 4 (crc32c b).toNat

/-- OP_SECONDS of the last record of a yealm. -/
def Yealm.opsLast (y : Yealm) : Nat := (ends y.records fun r => r.opSeconds.toNat).2

/-- SEQ of the first and of the last record of a yealm. -/
def Yealm.seqs (y : Yealm) : Nat × Nat := ends y.records (·.seq)

/-- Both devices are out of service: the recorder is LOST (R644). -/
def Recorder.lost (r : Recorder) : Bool := r.devA.st ≠ .inService && r.devB.st ≠ .inService

/-- The open yealm of a region. -/
def Recorder.openOf (r : Recorder) (region : Nat) : OpenYealm := if region = 0 then r.openEvents else r.openTrends

/-- The open yealm of a region replaced. -/
def Recorder.setOpen (r : Recorder) (region : Nat) (y : OpenYealm) : Recorder :=
  if region = 0 then { r with openEvents := y } else { r with openTrends := y }

/-- DIGEST of the newest closed yealm of a region: in RAM, else as FRAM holds it (R639). -/
def Recorder.newestDigest (r : Recorder) (region : Nat) : List Byte :=
  match (r.ram.filter fun y => y.region = region).getLast? with
  | some y => y.digest
  | none => if region = 0 then r.digestE else r.digestT

/-- The counter block of FRAM as it stands now (R646). -/
def Recorder.block (r : Recorder) : CounterBlock :=
  { opSeconds := r.opSeconds, powerCycles := r.powerCycles, nextSeq := r.nextSeq, nextYseq := r.nextYseq, stA := r.devA.st,
    stB := r.devB.st }

/-- The counter block written over the older of its two copies (R646). -/
def Recorder.stamp (r : Recorder) : Recorder :=
  if r.framNext = 0 then { r with fram0 := r.block, framNext := 1 } else { r with fram1 := r.block, framNext := 0 }

/-- The same in a state. -/
def State.stampFram (s : State) : State := { s with recorder := s.recorder.stamp }

/-- The counters of a block taken over. -/
def Recorder.take (r : Recorder) (b : CounterBlock) : Recorder :=
  { r with opSeconds := b.opSeconds, powerCycles := b.powerCycles, nextSeq := b.nextSeq, nextYseq := b.nextYseq,
           devA := { r.devA with st := b.stA }, devB := { r.devB with st := b.stB } }

/-- Copy 0 rather than copy 1: the higher SEQ; with equal ones the one of more operating seconds, which never decrease (R631; DEDUCED,
log 124). -/
def CounterBlock.newer (a b : CounterBlock) : Bool :=
  decide (b.nextSeq < a.nextSeq) || (a.nextSeq = b.nextSeq && decide (b.opSeconds.toNat ≤ a.opSeconds.toNat))

/-- The counters at a bring-up, from the valid copy with the higher SEQ; `wrong`: the copies whose CRC fails. With neither valid what they
read is open (R646; DESIGN CHOICE, log 124). -/
def State.readFram (s : State) (wrong : List Nat) : State :=
  let r := s.recorder
  match wrong.contains 0, wrong.contains 1 with
  | false, true => { s with recorder := r.take r.fram0 }
  | true, false => { s with recorder := r.take r.fram1 }
  | false, false => { s with recorder := r.take (if r.fram0.newer r.fram1 then r.fram0 else r.fram1) }
  | true, true =>
    let (o, p, q, y) := Config.lostCounters s.freeCtr
    { s with
      freeCtr := s.freeCtr + 1
      recorder := { r with opSeconds := o, powerCycles := p, nextSeq := q, nextYseq := y } }

/-- A closed yealm joins those not yet in NAND; in LOST the oldest of 64 is overwritten, with event 0x6006 once per bring-up
(R644). -/
def State.keepClosed (s : State) (y : Yealm) : State :=
  let spill : Bool := s.recorder.lost && 64 ≤ s.recorder.ram.length
  let ram := (if spill then s.recorder.ram.drop 1 else s.recorder.ram) ++ [y]
  let s1 : State := { s with recorder.ram := ram, recorder.overwriteTold := s.recorder.overwriteTold || spill }
  s1.raiseIf (spill && !s.recorder.overwriteTold) 0x6006 []

/-- The open yealm of a region closed and signed (R638 to R640, R700); one with no record stays. -/
def State.closeYealm (s : State) (region cause : Nat) : State :=
  let r := s.recorder
  let rs := (r.openOf region).records
  if rs.isEmpty then s
  else
    let keyId := if s.security.keyHeld && !s.security.unprovisioned then s.security.keyId else 0
    let y0 : Yealm :=
      { region := region, cause := cause, yseq := r.nextYseq, records := rs, powerCycles := r.powerCycles,
        prevDigest := r.newestDigest region, serial := s.rst.options.serial, keyId := keyId, digest := [], signature := [] }
    let sig := if keyId = 0 then List.replicate 64 0 else be 64 (Config.ecdsa keyId y0.signed).toNat
    let y : Yealm := { y0 with digest := sha256 y0.signed, signature := sig }
    let r1 := { (r.setOpen region { records := [] }) with nextYseq := r.nextYseq + 1 }
    { s with recorder := r1 }.keepClosed y |>.stampFram

/-- Both open yealms closed. -/
def State.closeBoth (s : State) (cause : Nat) : State := (s.closeYealm 0 cause).closeYealm 1 cause

/-- The last-gasp area takes a record of severity MAJOR or higher: into a free slot, else over the lowest SEQ (R646). -/
def lastGasp (rs : List Record) (r : Record) : List Record :=
  if r.severity < 3 then rs
  else if rs.length < 256 then rs ++ [r]
  else
    let low := rs.foldl (fun m x => min m x.seq) r.seq
    rs.map fun x => if x.seq = low then r else x

/-- A record enters the open yealm of its region, with the next SEQ (R630, R640, R646); `close`: a severe record closes it. -/
def State.addRecord (s : State) (region : Nat) (e : Event) (close : Bool) : State :=
  let r0 := s.recorder
  let x : Record :=
    { seq := r0.nextSeq, code := e.code.toNat, opSeconds := r0.opSeconds, powerCycles := r0.powerCycles, taiS := e.taiS,
      taiNs := e.taiNs, tstatus := e.tstatus, repeats := 0, kind := e.kind, payload := e.payload, mono := e.mono }
  let full := bodyMax < bodyLength (r0.openOf region).records + x.bytes.length
  let s1 := if full then s.closeYealm region 0 else s
  let r := s1.recorder
  let r1 := r.setOpen region { records := (r.openOf region).records ++ [x] }
  let s2 := { s1 with recorder := { r1 with nextSeq := r.nextSeq + 1, lastGasp := lastGasp r.lastGasp x } }.stampFram
  if close && region = 0 && 3 ≤ x.severity then s2.closeYealm 0 2 else s2

/-- An event recorded and given to the host sessions; other records never travel (R591, R634). -/
def State.recordNow (s : State) (e : Event) (close : Bool) : State :=
  let s1 := s.addRecord 0 e close
  if e.kind = 0 then
    { s1 with toHost := s1.toHost ++ [e.forHost s.recorder.opSeconds s.recorder.nextSeq] }
  else s1

/-- An incident trigger with its event code, 0 for FREEZE_TRIGGER (R642, R652): both yealms close and the copy starts, or the
trigger is recorded as ignored. -/
def State.freezeTrigger (s : State) (code : Nat) : State :=
  let busy : Bool := s.recorder.freezeLocked || s.recorder.copying.isSome
  if s.recorder.lost then s
  else
    let e := s.makeEvent 0x6004 0 (le 4 code ++ le 4 (b2n busy))
    let seq := s.recorder.nextSeq
    if busy then s.recordNow e true
    else
      let s1 := (s.recordNow e false).closeBoth 5
      let wipe (d : Nand) : Nand := if d.st = .inService then { d with freeze := [] } else d
      { s1 with
        recorder.copying := some (s.recorder.opSeconds.toNat, seq)
        recorder.devA := wipe s1.recorder.devA
        recorder.devB := wipe s1.recorder.devB }

/-- Whether an event triggers the incident freeze (R642). -/
def State.isIncident (s : State) (code : Nat) : Bool :=
  code ≠ 0x6004 && (severity code = 4 || (code ≠ 0 && (List.range 8).any fun k => s.paramN (0x60030001 + k) = code))

/-- An event has the code and payload of a record and comes within 10 s of it (R636). -/
def sameEvent (r : Record) (e : Event) : Bool :=
  r.kind = 0 && r.code = e.code.toNat && r.payload = e.payload && e.mono < r.mono + 10 * secNs

/-- An event repeats a record of the open event yealm (R636), whose REPEAT can still rise (R25). -/
def isRepeat (r : Record) (e : Event) : Bool := decide (r.repeats < 65535) && sameEvent r e

/-- One more occurrence of a record's event (R636). -/
def Record.again (r : Record) : Record := { r with repeats := r.repeats + 1 }

/-- EVENT_RECORD: the recorder accepts the oldest raised event as a repeat or as a new record (R636). -/
def execEventRecord (t : Nat) (s : State) : Result :=
  let s := s.tick t
  if s.unitHeld 0x40 then .next s else
  match s.toRecorder with
  | [] => .next s
  | e :: rest =>
    let s1 : State := { s with toRecorder := rest }
    let open_ := s1.recorder.openEvents.records
    let s2 :=
      if e.kind = 0 && open_.any fun r => isRepeat r e then
        { s1 with recorder.openEvents := { records := open_.map fun r => if isRepeat r e then r.again else r } }
      else (if e.kind = 0 && open_.any fun r => sameEvent r e then s1.count (ctrRecorder 1) else s1).recordNow e true
    .next (if e.kind = 0 && s1.isIncident e.code.toNat then s2.freezeTrigger e.code.toNat else s2)

/-- YEALM_AGE_EXPIRY: the flush age has passed since the first record of a region's open yealm (R640). -/
def execYealmAgeExpiry (t region : Nat) (s : State) : Result :=
  let s := s.tick t
  if s.unitHeld 0x40 then .next s else
  match (s.recorder.openOf region).records with
  | [] => .next s
  | r :: _ => if 1 < region ∨ s.now < r.mono + s.paramN 0x60010001 * msNs then .next s else .next (s.closeYealm region 1)

/-- A device. -/
def Recorder.dev (r : Recorder) (d : Nat) : Nand := if d = 0 then r.devA else r.devB

/-- A device changed. -/
def State.onNand (s : State) (d : Nat) (f : Nand → Nand) : State :=
  if d = 0 then { s with recorder.devA := f s.recorder.devA } else { s with recorder.devB := f s.recorder.devB }

/-- A device fails: retired, with event 0x6002; with both retired the recorder is LOST, with event 0x6001 (R643, R644). -/
def State.retireNand (s : State) (d cause : Nat) : State :=
  let s0 := (s.onNand d fun x => { x with st := .retired, cause := cause }).stampFram
  let s1 := (if cause = 3 then s0.count (ctrRecorder (3 + d)) else s0).raise 0x6002 [d, cause]
  let s2 : State := if s1.recorder.lost then { s1 with recorder.copying := none } else s1
  s2.raiseIf s1.recorder.lost 0x6001 [s1.recorder.devA.cause, s1.recorder.devB.cause]

/-- Yealms a region of NAND holds (R642). -/
def regionSize (region : Nat) : Nat := if region = 0 then 32768 else 28672

/-- A yealm awaits the freeze copy of a trigger: its OP_SECONDS and the SEQ of its event 0x6004 (R642). -/
def awaitsCopy (copying : Option (Nat × Nat)) (y : Yealm) : Bool :=
  copying.any fun c => decide (c.1 ≤ y.opsLast + 600) && decide (y.seqs.1 ≤ c.2)

/-- A ring takes a yealm; when full its oldest erase block of four goes first, but for yealms that await a copy (R642). -/
def ringPut (copying : Option (Nat × Nat)) (region : Nat) (ys : List Yealm) (y : Yealm) : List Yealm :=
  (if regionSize region ≤ ys.length then (ys.take 4).filter (awaitsCopy copying) ++ ys.drop 4 else ys) ++ [y]

/-- A device takes a yealm. -/
def Nand.put (x : Nand) (copying : Option (Nat × Nat)) (y : Yealm) : Nand :=
  if y.region = 0 then { x with events := ringPut copying 0 x.events y }
  else { x with trends := ringPut copying 1 x.trends y }

/-- A yealm written: FRAM holds its DIGEST; replies that waited for it may go (R639, R640). -/
def State.yealmWritten (s : State) (y : Yealm) : State :=
  let s1 : State :=
    { s with
      recorder.ram := s.recorder.ram.drop 1
      recorder.digestE := if y.region = 0 then y.digest else s.recorder.digestE
      recorder.digestT := if y.region = 1 then y.digest else s.recorder.digestT }
  match s1.ridge.releasedFrame with
  | some n => s1.releaseReplies n false
  | none => s1

/-- YEALM_WRITE_COMPLETE: programming and read-back of the oldest closed yealm end on each device in service; a device's cause of
failure, none when it succeeds (R643). -/
def execYealmWriteComplete (t : Nat) (failA failB : Option Nat) (s : State) : Result :=
  let s := s.tick t
  if s.unitHeld 0x40 then .next s else
  match s.recorder.ram with
  | [] => .next s
  | y :: _ =>
    let step (s : State) (d : Nat) (fail : Option Nat) : State :=
      if (s.recorder.dev d).st = .retired then s
      else
        match fail with
        | none => s.onNand d fun x => x.put s.recorder.copying y
        | some c => s.retireNand d c
    let ok : Bool := (s.recorder.devA.st = .inService && failA.isNone) || (s.recorder.devB.st = .inService && failB.isNone)
    if s.recorder.lost then .next s
    else
      let s1 := step (step s 0 failA) 1 failB
      .next (if ok then s1.yealmWritten y else s1)

/-- NAND_TIMEOUT: a device in service that has not answered since `asked` for 100 ms fails (R643). -/
def execNandTimeout (t d asked : Nat) (s : State) : Result :=
  let s := s.tick t
  if s.unitHeld 0x40 then .next s else
  if 1 < d ∨ (s.recorder.dev d).st ≠ .inService ∨ s.now < asked + 100 * msNs then .next s else .next (s.retireNand d 4)

/-- TREND_RECORD (R637): the trend sample that the outbox has handed over becomes a record, one for each whole multiple of the trend
period. -/
def execTrendRecord (t : Nat) (s : State) : Result :=
  let s := s.tick t
  if s.unitHeld 0x40 then .next s else
  if s.recorder.powerFail ∨ s.trendIndex = s.recorder.trendAt then .next s
  else
    match s.recorder.trendSample with
    | none => .next s
    | some p =>
      .next ({ s with recorder.trendAt := s.trendIndex, recorder.trendSample := none }.addRecord 1 (s.makeEvent 0x60F8 1 p) false)

/-- OPERATING_SECOND: a second of monotonic time since the last one, counted and written to FRAM; the count holds at its end (R23, R631).
The readings of the second are noted (R711). -/
def execOperatingSecond (t : Nat) (temp : Int) (s : State) : Result :=
  let s := (s.tick t).noteTemperature temp
  if s.now < s.recorder.opAt + secNs then .next s
  else
    let n := if s.recorder.opSeconds = 0xFFFFFFFF#32 then s.recorder.opSeconds else s.recorder.opSeconds + 1
    .next ({ s with recorder.opSeconds := n, recorder.opAt := s.recorder.opAt + secNs }.stampFram)

/-- Yealms of the event and trend regions of the devices in service, in YSEQ order. -/
def Recorder.stored (r : Recorder) : List Yealm :=
  let d := if r.devA.st = .inService then r.devA else r.devB
  (d.events ++ d.trends).mergeSort fun a b => a.yseq ≤ b.yseq

/-- FREEZE_COPY_COMPLETE (R642): the copies include yealms closed by then and still on their way to the rings. -/
def execFreezeCopyComplete (t : Nat) (s : State) : Result :=
  let s := s.tick t
  if s.unitHeld 0x40 then .next s else
  match s.recorder.copying with
  | none => .next s
  | some (ops, seq) =>
    let ys := (s.recorder.stored ++ s.recorder.ram).filter (awaitsCopy (some (ops, seq)))
    let kept := ys.drop (ys.length - 4096)
    let put (x : Nand) : Nand := if x.st = .inService then { x with freeze := kept } else x
    .next { s with
      recorder.devA := put s.recorder.devA
      recorder.devB := put s.recorder.devB
      recorder.copying := none
      recorder.freezeLocked := true }

/-- REC_FLUSH (R640). -/
def effRecFlush : Effect := fun s _ _ _ =>
  if s.recorder.lost then refused s stStorageFailed else served (s.closeBoth 4)

/-- FREEZE_TRIGGER (R642). -/
def effFreezeTrigger : Effect := fun s _ _ _ =>
  if s.recorder.freezeLocked ∨ s.recorder.copying.isSome ∨ s.recorder.lost then refused (s.freezeTrigger 0) stConditions
  else served (s.freezeTrigger 0)

/-- FREEZE_RELEASE (R642). -/
def effFreezeRelease : Effect := fun s _ _ _ =>
  if s.recorder.copying.isSome ∨ !s.recorder.freezeLocked then refused s stConditions
  else served ({ s with recorder.freezeLocked := false }.raise 0x6005 [])

/-- NAND_RETURN (R645). -/
def effNandReturn : Effect := fun s _ p h =>
  let d := u8 p 0
  if 1 < d ∨ field p 1 3 ≠ 0 then refused s stBadValue
  else if s.recorder.returning.isSome then refused s stBusy
  else if (s.recorder.dev d).st ≠ .retired then refused s stConditions
  else
    accepted
      ({ (s.onNand d fun x => { x with st := .returning, events := [], trends := [], freeze := [] }) with
          recorder.returning := some (h, d) }.stampFram)

/-- NAND_RETURN_COMPLETE: the device passes or fails its test (R645). -/
def execNandReturnComplete (t : Nat) (ok : Bool) (s : State) : Result :=
  let s := s.tick t
  if s.unitHeld 0x40 then .next s else
  match s.recorder.returning with
  | none => .next s
  | some (h, d) =>
    let s1 : State := { s with recorder.returning := none }
    if !ok ∨ (s.recorder.dev d).st ≠ .returning then .next ((s1.onNand d fun x => { x with st := .retired }).stampFram.finish h stTestFailed [])
    else
      let other := s1.recorder.dev (1 - d)
      let back (x : Nand) : Nand := { x with st := .inService, cause := 0 }
      let s2 :=
        if other.st = .inService then
          s1.onNand d fun x => back { x with events := other.events, trends := other.trends, freeze := other.freeze }
        else
          let s' := s1.onNand d fun x => back (s1.recorder.ram.foldl (fun x y => x.put none y) x)
          s1.recorder.ram.foldl (fun s y => s.yealmWritten y) s'
      .next ((s2.stampFram.raise 0x6003 [d]).finish h stOk [])

/-- The yealms of an export (R649). -/
def State.exportRange (s : State) (region lo hi : Nat) : List Yealm :=
  let d := if s.recorder.devA.st = .inService then s.recorder.devA else s.recorder.devB
  let dead := s.recorder.lost
  let all :=
    match region with
    | 0 => if dead then [] else d.events
    | 1 => if dead then [] else d.trends
    | 2 => if dead then [] else d.freeze
    | _ => s.recorder.ram
  all.filter fun y => lo ≤ y.yseq && y.yseq ≤ hi

/-- The last-gasp area: 256 slots of 256 bytes (R646). -/
def Recorder.gaspBytes (r : Recorder) : List Byte :=
  let used := r.lastGasp.flatMap fun x => padTo 256 x.bytes
  padTo 65536 used

/-- REC_EXPORT (R649). -/
def effRecExport : Effect := fun s _ p h =>
  if p.length ≠ 20 then refused s stBadLength
  else if 3 < u8 p 0 ∨ 1 < u8 p 1 ∨ u16 p 2 ≠ 0 then refused s stBadValue
  else if 2 ≤ s.recorder.exports.length then refused s stBusy
  else
    let s1 := if u8 p 0 = 3 then s.closeBoth 4 else s
    let ys := s1.exportRange (u8 p 0) (field p 4 8) (field p 12 8)
    let tail := if u8 p 1 = 1 then s1.recorder.gaspBytes else []
    let s2 : State := { s1 with recorder.exports := s1.recorder.exports ++ [(h, u8 p 0, ys, 0)] }
    accepted (s2.openBulk h true (ys.flatMap Yealm.bytes ++ tail))

/-- Broken PREV_DIGEST links between successive yealms of one region of a range (R649). -/
def chainBreaks (ys : List Yealm) : Nat :=
  let one (r : Nat) : Nat :=
    let zs := ys.filter fun y => y.region = r
    ((zs.zip (zs.drop 1)).filter fun p => p.1.digest ≠ p.2.prevDigest).length
  one 0 + one 1

/-- REC_EXPORT_COMPLETE: an export ends; `skipped`: yealms that could not be read (R649). -/
def execRecExportComplete (t h skipped : Nat) (s : State) : Result :=
  let s := s.tick t
  if s.unitHeld 0x40 then .next s else
  match s.recorder.exports.find? fun x => x.1 = h with
  | none => .next s
  | some x =>
    let ys := x.2.2.1
    let q := ((ys.head?.map (·.yseq)).getD 0, (ys.getLast?.map (·.yseq)).getD 0)
    let result := le 4 (ys.length - skipped) ++ le 4 skipped ++ le 8 q.1 ++ le 8 q.2 ++ le 4 (chainBreaks ys)
    let s1 : State := { s with recorder.exports := s.recorder.exports.filter fun y => y.1 ≠ h }.countN (ctrRecorder 2) skipped
    let sent : Bool := (s.bulk? h).all fun b => b.running || b.finished
    .next (if sent then (s1.raise 0x6008 []).finish h stOk result else s)

/-- The recorder status parameter (R650). -/
def State.recorderStatus (s : State) : Nat :=
  let r := s.recorder
  let code (x : NandState) : Nat :=
    match x with
    | .inService => 0
    | .retired => 1
    | .returning => 2
  4 * b2n (!r.exports.isEmpty) + 8 * b2n r.lost + 16 * code r.devA.st + 64 * code r.devB.st
    + 16384 * b2n r.copying.isSome + 32768 * b2n r.freezeLocked + 16777216 * min 255 r.ram.length

end Sys2Proof.Machine
end

