-- ==== Sys2Proof/Machine/Resets.lean ====
section
/-!
DEFINITION. The reset controller: sources and their levels, what a reset holds, episodes, release and bring-up, option load,
clock monitors (R61, R62, R653 to R670, R680).
-/

namespace Sys2Proof.Machine

/-- Counters of the reset controller: 0 to 9 episodes with a source, 16 failed option reads, 17 ignored PIN pulses (R670). -/
def ctrReset (k : Nat) : Nat := 0x90F00000 + k

/-- Unit code of the host processor unit (R657). -/
def unitHost : Nat := 0x80

/-- Unit codes of R657 that a reset can name. -/
def unitCodes : List Nat :=
  [1, 2, 3, 4, 5, 6, 0x11, 0x12, 0x13, 0x14, 0x15, 0x16, 0x17, 0x18, 0x20, 0x21, 0x30, 0x31, 0x40, 0x80, 0x50]

/-- A level with its target. -/
abbrev Reach := Nat × Nat

/-- Cold. -/
def reachCold : Reach := (0, 0)
/-- Warm. -/
def reachWarm : Reach := (1, 0)
/-- One lane. -/
def reachLane (l : LaneId) : Reach := (2, l.code)
/-- One unit. -/
def reachUnit (u : Nat) : Reach := (3, u)

/-- A field of the fuse map selects its level (R658, R659). -/
def State.fuseLevel (s : State) (shift : Nat) (dflt alt : Reach) : Reach :=
  match bits s.rst.fuses (shift + 1) shift with
  | 0 => dflt
  | 1 => reachCold
  | 2 => reachWarm
  | _ => alt

/-- The fuse default of an island's CKF (R61). -/
def islandDefault (i : Nat) : Reach :=
  if i = 5 ∨ i = 6 then reachLane .a else if i = 7 ∨ i = 8 then reachLane .b
  else if i = 15 ∨ i = 16 then reachUnit 0x50 else reachWarm

/-- The level of an island's CKF at 0b11 (R655). -/
def islandAlt (i : Nat) : Reach :=
  if 1 ≤ i ∧ i ≤ 3 then reachUnit unitHost
  else if i = 9 ∨ i = 10 then reachUnit 0x30
  else if i = 12 then reachUnit 0x31
  else if i = 17 then reachUnit 0x40
  else islandDefault i

/-- Level and target of a source (R655, R657). -/
def State.causeReach (s : State) (c : ResetCause) : Reach :=
  match c with
  | .por | .bor _ => reachCold
  | .pin _ => s.fuseLevel 0 reachWarm (reachUnit unitHost)
  | .hostWatchdog => s.fuseLevel 2 reachWarm (reachUnit unitHost)
  | .laneWatchdog .a => s.fuseLevel 4 (reachLane .a) (reachLane .a)
  | .laneWatchdog .b => s.fuseLevel 6 (reachLane .b) (reachLane .b)
  | .software => s.rst.swr.getD reachWarm
  | .debug => s.fuseLevel 10 reachWarm (reachUnit unitHost)
  | .clock i => s.fuseLevel (16 + 2 * i) (islandDefault i) (islandAlt i)
  | .lockup .hostCore => s.fuseLevel 12 reachWarm (reachUnit unitHost)
  | .lockup (.laneCore l) => s.fuseLevel 12 reachWarm (reachLane l)
  | .lockup .router => s.fuseLevel 12 reachWarm reachWarm

/-- Bit of a source (R655). -/
def ResetCause.bit : ResetCause → Nat
  | .por => 0
  | .bor _ => 1
  | .pin _ => 2
  | .hostWatchdog => 3
  | .laneWatchdog .a => 4
  | .laneWatchdog .b => 5
  | .software => 6
  | .debug => 7
  | .clock _ => 8
  | .lockup _ => 9

/-- Island of a CKF; 0xFF for another source. -/
def ResetCause.island : ResetCause → Nat
  | .clock i => i
  | _ => 0xFF

/-- Sources of the host side that reach the reset controller across the barrier (R39, R656). -/
def ResetCause.hostSide : ResetCause → Bool
  | .pin _ | .hostWatchdog | .software | .debug | .lockup .hostCore => true
  | .clock i => decide (1 ≤ i ∧ i ≤ 3)
  | _ => false

/-- A source as asserted. -/
def State.sourceOf (s : State) (c : ResetCause) : ResetSource :=
  let r := s.causeReach c
  { bit := c.bit, level := r.1, target := r.2, island := c.island }

/-- A new episode (R670). -/
def State.newEpisode (s : State) (x : ResetSource) : ResetEpisode :=
  { opSeconds := s.recorder.opSeconds, powerCycles := s.recorder.powerCycles, sources := 0, level := x.level, target := x.target,
    island := 0xFF, phase := x.level, copyUsed := s.rst.options.copyUsed, failedReads := 0, storm := false, pinStuck := false,
    dropped := false }

/-- A source noted in an episode. -/
def ResetEpisode.note (e : ResetEpisode) (x : ResetSource) : ResetEpisode :=
  { e with
    sources := e.sources ||| 2 ^ x.bit
    level := min e.level x.level
    target := if x.level ≤ 1 then 0 else e.target
    island := if e.island = 0xFF then x.island else e.island
    pinStuck := e.pinStuck }

/-- An episode joins the history, newest first, 62 at most; its sources are counted (R670). -/
def State.keepEpisode (s : State) (e : ResetEpisode) : State :=
  let s1 : State := { s with rst.history := (e :: s.rst.history).take 62 }
  (List.range 10).foldl (fun s k => if bit e.sources k then s.count (ctrReset k) else s) s1

/-- Starts of Warm or Cold episodes within the 60 operating seconds up to now (R666). -/
def State.recentStarts (s : State) : List Nat :=
  s.rst.starts.filter fun t => s.recorder.opSeconds.toNat ≤ t + 60

/-- An episode of the safety unit lies outside the reach of Warm (R653, R660). -/
def outsideWarm (level : Nat) (e : ResetEpisode) : Bool := level = 1 && e.level = 3 && e.target = 0x50

/-- A source of Warm or Cold reach noted; a new episode stores its start and may be a storm episode (R666). Lane and Unit episodes
within its reach are absorbed (R660). -/
def State.noteGlobal (s : State) (x : ResetSource) : State :=
  let absorbed := (s.rst.unitEpisodes.filter fun e => !outsideWarm x.level e).foldl (fun n e => n ||| e.sources) 0
  let stay := s.rst.unitEpisodes.filter (outsideWarm x.level)
  match s.rst.episode with
  | some e =>
    let e1 := e.note x
    { s with rst.episode := some { e1 with sources := e1.sources ||| absorbed }, rst.unitEpisodes := stay }
  | none =>
    let old := s.recentStarts
    let e := (s.newEpisode x).note x
    { s with
      rst.episode := some { e with storm := 8 ≤ old.length, sources := e.sources ||| absorbed }
      rst.unitEpisodes := stay
      rst.starts := s.recorder.opSeconds.toNat :: old }

/-- A source of Lane or Unit reach noted: absorbed by a running Warm or Cold episode, else in the episode of its target (R660). -/
def State.noteUnit (s : State) (x : ResetSource) : State :=
  match s.rst.episode.filter fun e => !outsideWarm e.level (s.newEpisode x) with
  | some e => { s with rst.episode := some { e with sources := e.sources ||| 2 ^ x.bit } }
  | none =>
    let same (e : ResetEpisode) : Bool := e.level = x.level && e.target = x.target
    if s.rst.unitEpisodes.any same then
      { s with rst.unitEpisodes := s.rst.unitEpisodes.map fun e => if same e then e.note x else e }
    else { s with rst.unitEpisodes := s.rst.unitEpisodes ++ [(s.newEpisode x).note x] }

/-- The baseband held in reset: its assistance store and the exclusion list stay (R118, R122, R154). -/
def State.gnssRestarted (s : State) : Gnss :=
  { Gnss.reset with
    assist := s.gnss.assist
    assistAt := s.gnss.assistAt
    excluded := s.gnss.excluded
    antA := s.gnss.antA
    antB := s.gnss.antB
    divider := s.gnss.divider }

/-- What the time unit keeps through a reset of Warm reach (R162, R654). -/
def TimeUnit.kept (u : TimeUnit) : TimeUnit :=
  { TimeUnit.reset with
    gnss := u.gnss
    ptp1Src := u.ptp1Src
    ptp2Src := u.ptp2Src
    offset := u.offset
    st := u.st
    source := u.source
    stepGen := u.stepGen
    lastStep := u.lastStep
    utcValid := u.utcValid
    leap := u.leap
    leapStart := u.leapStart
    taiUtc := u.taiUtc
    warming := u.warming
    ocxoFail := u.ocxoFail
    ocxoWord := u.ocxoWord
    ocxoLoaded := u.ocxoLoaded
    offsetRate := u.offsetRate
    operatorUnc := u.operatorUnc
    hold := u.hold
    startUnc := u.startUnc
    nextPulse := u.nextPulse
    pulseDriven := u.pulseDriven
    lastMark := u.lastMark }

/-- The host side held in reset: sessions, handles, stored replies and transfers are lost; the user table and the next session and
handle numbers stay (R568, R573, R654, R693). -/
def HostUnit.restarted (h : HostUnit) : HostUnit :=
  { HostUnit.reset with nextSession := h.nextSession, nextHandle := h.nextHandle, users := h.users }

/-- A field I/O unit held in reset; the supply monitors read on (R474, R477). -/
def FieldIo.held (f : FieldIo) : FieldIo :=
  { FieldIo.reset with
    inReset := true
    inhibit := f.inhibit
    fld1 := f.fld1
    fld2 := f.fld2
    inputs := FieldIo.reset.inputs.zip f.inputs |>.map fun p => { p.1 with offset := p.2.offset, gain := p.2.gain } }

/-- A device on its way back to service is retired again (R643, R645). -/
def Nand.interrupted (x : Nand) : Nand := if x.st = .returning then { x with st := .retired } else x

/-- The recorder held in reset: exports, copies and returns end; the RAM buffer stays (R573, R647). -/
def Recorder.held (r : Recorder) : Recorder :=
  Recorder.stamp { r with
    overwriteTold := false
    copying := none
    exports := []
    returning := none
    devA := r.devA.interrupted
    devB := r.devB.interrupted }

/-- A lane held in reset (R654). -/
def Lane.held_ (x : Lane) : Lane := { Lane.reset with excluded := x.excluded, inReset := true, transients := x.transients }

/-- A contact through a reset: its level stays, its changes are forgotten. -/
def Contact.kept (c : Contact) : Contact := { c with changes := 0, ts := 0 }

/-- Every unit of Warm reach held (R653, R654, R573, R622). The time sources restart unqualified, which the time unit keeps to tell the
recorder (R162, R173; log 19). -/
def State.holdWarm (s : State) : State :=
  let lost :=
    match s.config.commit with
    | some c => if c.swapped then some s.config.active.generation else s.config.lost
    | none => s.config.lost
  let held : State := { s with
    counters := s.counters.filter fun c => c.1 / 16777216 = 0x50 || c.1 / 16777216 = 0x90
    toRecorder := []
    toHost := []
    frame := .reset
    purlin := .reset
    gnss := s.gnssRestarted
    time := s.time.kept
    host := s.host.restarted
    eaves := .reset
    config := { s.config with staged := none, commit := none, lost := lost }
    laneA := { Lane.reset with inReset := true }
    laneB := { Lane.reset with inReset := true }
    ridge := .reset
    out := { OutStage.reset with ls1 := s.out.ls1.kept, ls2 := s.out.ls2.kept }
    peer := .reset
    fio := s.fio.held
    buses.can := List.replicate 6 { BusCtl.reset with inReset := true }
    buses.ser := List.replicate 8 .reset
    recorder := s.recorder.held
    memory := { s.memory with mems := List.replicate 18 .reset, march := none }
    security := { s.security with debugHandle := none, reprovision := none }
    rst.unitsDown := []
    rst.released := []
    rst.priorHealth := if s.rst.up = .up then s.ridge.health.code else s.rst.priorHealth
    rst.priorMode := if s.rst.up = .up then s.mode.code else s.rst.priorMode }
  held.sourcesLost

/-- What a Cold reset holds beside: the safety unit and the recorder buffer; the debug ports close (R416, R647, R654, R699). -/
def State.holdCold (s : State) : State :=
  let s1 := { s.holdWarm with safety.restart := none }.resetSafety
  { s1 with
    safety.sent := []
    recorder.openEvents := { records := [] }
    recorder.openTrends := { records := [] }
    recorder.ram := []
    security.debugStep := if s.security.debugStep = 4 then 0 else s.security.debugStep }

/-- Monotonic time and the whole time unit restart, and with them what holds monotonic times (R13, R160, R162). -/
def State.clockRestart (s : State) : State :=
  let ant (a : Antenna) : Antenna := { a with lowSince := none, highSince := none, retestDue := a.retestDue.map fun _ => 5 * secNs }
  { s with
    now := 0
    time := TimeUnit.reset
    gnss.assistAt := 0
    gnss.antA := ant s.gnss.antA
    gnss.antB := ant s.gnss.antB
    recorder.trendAt := 0
    recorder.opAt := 0
    toRecorder := []
    rst.priorMode := 0
    rst.pinAt := 0
    rst.swrAt := 0
    rst.released := s.rst.released.map fun x => (x.1, 0)
    power.downA := s.power.downA.map fun _ => 0
    power.downB := s.power.downB.map fun _ => 0
    config.firmware.trialDue := 0
    power.pfSince := s.power.pfSince.map fun _ => 0
    security.debugAt := 0 }

/-- The level whose phase the next bring-up starts from, with one more (R660). -/
def UpState.with (u : UpState) (level : Nat) : UpState :=
  match u with
  | .up => .held level
  | .held l => .held (min l level)
  | .bringup l _ => .held (min l level)
  | .off => .off

/-- A reset of Cold or Warm reach takes hold. -/
def State.holdAll (s : State) (level : Nat) : State :=
  let s1 := if level = 0 then s.holdCold else s.holdWarm
  { s1 with rst.up := s.rst.up.with level }

/-- A lane held in a Lane reset: excluded at the next strobe with cause RESET; a rejoin of it fails (R394, R661). -/
def State.holdLane (s : State) (l : LaneId) : State :=
  if (s.lane l).excluded then
    match s.ridge.rejoin with
    | some j => if j.lane = l then s.failRejoin else s
    | none => s
  else { (s.onLane l Lane.held_).orderExclusion l 4 with ridge.katDue := false }

/-- The host processor unit held: everything it keeps, and what it had across the barrier, is lost (R32, R573, R654). -/
def State.holdHost (s : State) : State :=
  { s with
    host := { s.host.restarted with fieldUnreachable := s.host.fieldUnreachable }
    eaves :=
      { Eaves.reset with
        link0 := s.eaves.link0
        link1 := s.eaves.link1
        bothDownSince := s.eaves.bothDownSince
        bothDownTold := s.eaves.bothDownTold }
    toHost := []
    time.host := .reset }

/-- The peer link lost with its MAC. -/
def State.holdMacs (s : State) : State :=
  let s1 : State :=
    { s with
      peer.physical := false
      peer.up := false
      peer.validRun := 0
      peer.dataFresh := false
      peer.conn := { s.peer.conn with st := .fault, data := [] } }
  s1.raiseIf s.peer.up 0x7102 []

/-- The operations that run in a unit (R657). -/
def unitOps (u : Nat) : List Nat :=
  match u with
  | 0x21 => [0x3003, 0x3103, 0x3104]
  | 0x30 => [0x1102, 0x1103]
  | 0x40 => [0x6001, 0x6005]
  | _ => []

/-- Operations of a unit that a reset reaches complete with DEVICE_FAULT (R587). -/
def State.failOps (s : State) (u : Nat) : State :=
  let hs := s.host.handles.filter fun h =>
    h.outstanding && ((unitOps u).contains h.opcode ||
      (decide (1 ≤ u ∧ u ≤ 6) && decide (h.opcode = 0x4001) && decide ((s.bus u).detectHandle = some h.number)))
  hs.foldl (fun s h => s.finishBulk h.number stDeviceFault []) s

/-- One unit held in reset (R653, R657). -/
def State.holdUnit (s0 : State) (u : Nat) : State :=
  let s := s0.failOps u
  let known : Bool := s.rst.unitsDown.contains u || u = 0x50
  let s1 : State :=
    { s with
      rst.unitsDown := if known then s.rst.unitsDown else s.rst.unitsDown ++ [u]
      rst.released := s.rst.released.filter fun x => x.1 ≠ u }
  if 1 ≤ u ∧ u ≤ 6 then s1.resetBus u
  else if 0x11 ≤ u ∧ u ≤ 0x18 then s1.onSer (u - 0x10) fun _ => .reset
  else
    match u with
    | 0x20 => s1.restartChains fun _ => true
    | 0x21 => { s1 with fio := s1.fio.held }
    | 0x30 => { s1 with gnss := s1.gnssRestarted }.checkSources
    | 0x31 => s1.holdMacs
    | 0x40 => { s1 with recorder := s1.recorder.held }
    | 0x50 => s1.resetSafety
    | 0x80 => s1.holdHost
    | _ => s1

/-- A source takes effect by its level. -/
def State.holdBy (s : State) (x : ResetSource) : State :=
  match x.level with
  | 0 => s.holdAll 0
  | 1 => s.holdAll 1
  | 2 => s.holdLane (if x.target = 0 then .a else .b)
  | _ => s.holdUnit x.target

/-- A Lane reset names the other lane too, before either is excluded (R661). -/
def State.namesOther (s : State) (l : LaneId) : Bool :=
  !(s.lane l).excluded && !(s.lane l.other).excluded &&
    (s.rst.asserted.any (fun y => y.level = 2 && decide (y.target = l.other.code)) ||
      (bit s.ridge.decision l.other.code && decide ((if l.other = .a then s.ridge.causeA else s.ridge.causeB) = 4)))

/-- A source asserted and acted on (R660, R661). -/
def State.actOn (s : State) (x : ResetSource) : State :=
  let x1 : ResetSource :=
    if x.level = 2 ∧ s.namesOther (if x.target = 0 then .a else .b) = true then { x with level := 1, target := 0 } else x
  let s1 : State := { s with rst.asserted := s.rst.asserted ++ [x1] }
  let s2 := if x1.level ≤ 1 then s1.noteGlobal x1 else s1.noteUnit x1
  s2.holdBy x1

/-- Both Eaves links are down. -/
def State.bothLinksDown (s : State) : Bool := !s.eaves.link0.up && !s.eaves.link1.up

/-- A unit that no source holds starts its bring-up now (R657, R660). -/
def State.noteRelease (s : State) (u : Nat) : State :=
  { s with rst.released := (s.rst.released.filter fun x => x.1 ≠ u) ++ [(u, s.now)] }

/-- A control symbol on a link that is up, if any (R35, R39). -/
def State.signal (s : State) (x : EavesSymbol) : State :=
  if s.eaves.link0.up then s.sendSymbol 0 x else if s.eaves.link1.up then s.sendSymbol 1 x else s

/-- A source of the host side reaches the reset controller as a reset request; the host side's share of any reset goes to it as a reset
order (R39). -/
def State.orderReset (s : State) (x : ResetSource) (hostSide : Bool) : State :=
  let s1 := (if hostSide then s.signal .resetRequest else s).actOn x
  if s1.rst.asserted.any fun y => y.level ≤ 1 || (y.level = 3 && y.target = unitHost) then s1.signal .resetOrder else s1

/-- A source asserted: recorded only between shutdown and power good (R678), held during a power-fail sequence (R662), confined to
the host processor unit while both links are down when it comes from the host side (R656), else acted on. -/
def State.assertFrom (s : State) (c : ResetCause) (hostSide : Bool) : State :=
  let x := s.sourceOf c
  if s.rst.up = .off then { s with rst.episode := s.rst.episode.map fun e => { e with sources := e.sources ||| 2 ^ x.bit } }
  else if s.power.pfSince.isSome ∧ 1 ≤ x.level then
    { s with rst.held := s.rst.held ++ [(x, false)] }.raise 0x900C [x.bit, x.level]
  else if hostSide && s.bothLinksDown then
    ({ s with rst.lateHost := s.rst.lateHost ++ [x.bit] }.holdUnit unitHost).noteRelease unitHost
  else
    let s1 := s.orderReset x hostSide
    match c with
    | .por | .bor true => s1.clockRestart
    | _ => s1

/-- A source asserted where it arises. -/
def State.assertSource (s : State) (c : ResetCause) : State := s.assertFrom c c.hostSide

/-- Whether a released source is the one a cause names. -/
def ResetSource.named (x : ResetSource) (c : ResetCause) (r : Reach) : Bool :=
  x.bit = c.bit && x.island = c.island &&
    match c with
    | .lockup _ => decide (x.level ≤ 1 ∨ (x.level = r.1 ∧ x.target = r.2))
    | _ => true

/-- Parts neither slot of which verifies do not run (R690, R692). -/
def State.bootCheck (s : State) (parts : List Nat) : State :=
  let bad := parts.filter fun p => p ≤ 4 && !s.rst.bootFailed.contains p
  bad.foldl (fun s p => s.raise 0xA101 [p]) { s with rst.bootFailed := s.rst.bootFailed ++ bad }

/-- The bring-up of the whole module starts, from the phase of the greatest reach; the episode ends (R660, R665 to R668). -/
def State.beginBringup (s : State) (level : Nat) (parts : List Nat) : State :=
  let e := s.rst.episode.getD (s.newEpisode { bit := 0, level := level, target := 0, island := 0xFF })
  let e1 : ResetEpisode := { e with phase := level, copyUsed := s.rst.options.copyUsed, failedReads := 0 }
  let invalid : Bool := s.rst.bringup = 1 && level ≠ 0
  let b := if invalid then 1 else if e1.storm then 2 else 0
  let s1 : State :=
    { s with
      rst.up := .bringup level (level = 0)
      rst.episode := none
      rst.bringup := b
      rst.options := if level = 0 then { s.rst.options with copyUsed := 0, failedReads := 0 } else s.rst.options
      rst.bootFailed := if level = 0 then [] else s.rst.bootFailed.filter fun p => p = 2 ∨ p = 3
      config.firmware.trialDue := s.now + 10 * secNs }
  let boot := parts.filter fun p => level = 0 || !(p = 2 || p = 3)
  ((s1.keepEpisode e1).raiseIf (b = 2) 0x9005 []).bootCheck boot

/-- Module time starts in FREE-RUN from the AON counter, or from the time stored in FRAM when the counter has stopped (R198). -/
def State.startTime (s : State) (aon : Option Nat) : State :=
  let elapsed := aon.getD 0
  let unc : Option Nat := aon.map fun e => 1000000 + (50 * e + 999999) / 1000000
  { s with
    rst.aonCounter := aon
    time.offset := ((s.rst.shutdownTime : Int) + elapsed - s.now) * 4294967296
    time.startUnc := unc }

/-- Power good: the power-cycle count rises, the bank charges (R23, R631, R667). -/
def State.powerGood (s : State) : State :=
  State.stampFram { s with
    recorder.powerCycles := if s.recorder.powerCycles = 0xFFFFFFFF#32 then s.recorder.powerCycles else s.recorder.powerCycles + 1
    power.charger := true
    power.bank := if s.power.capFault || s.power.chargerFault then .fault else .charging
    rst.up := if s.rst.up = .off then .held 0 else s.rst.up }

/-- Lane and Unit episodes whose targets no source reaches any more end: their bring-up starts, with the secure boot of the host
and of the GNSS navigation processor (R660, R670, R690). -/
def State.endUnitEpisodes (s : State) (parts : List Nat) : State :=
  let open_ (e : ResetEpisode) : Bool := s.rst.asserted.any fun x => x.level = e.level && x.target = e.target
  let done := s.rst.unitEpisodes.filter fun e => !open_ e
  let boots (p : Nat) : Bool :=
    done.any fun e => e.level = 3 && ((p = 0 && e.target = unitHost) || (p = 4 && e.target = 0x30))
  let s1 : State :=
    { s with
      rst.unitEpisodes := s.rst.unitEpisodes.filter open_
      rst.bootFailed := s.rst.bootFailed.filter fun p => !boots p }
  (done.foldl (fun s e => s.keepEpisode e) s1).bootCheck (parts.filter boots)

/-- Sources given up: units with no other source begin their bring-up (R660). -/
def State.dropSources (s : State) (parts : List Nat) (gone : ResetSource → Bool) : State :=
  let left := s.rst.asserted.filter fun x => !gone x
  let free := (s.rst.asserted.filter fun x => gone x && x.level = 3 && !(left.any fun y => y.level = 3 && y.target = x.target)).map (·.target)
  let s1 := free.foldl State.noteRelease { s with rst.asserted := left }
  match s1.rst.up with
  | .held l => if s1.rst.asserted.any fun x => x.level ≤ 1 then s1 else (s1.endUnitEpisodes []).beginBringup l parts
  | _ => s1.endUnitEpisodes parts

/-- A source released (R656, R660, R662). -/
def State.releaseSource (s : State) (c : ResetCause) (aon : Option Nat) (parts : List Nat) : State :=
  let r := s.causeReach c
  let held (x : ResetSource) : Bool := x.named c r
  let s : State := { s with rst.held := s.rst.held.map fun p => if held p.1 then (p.1, true) else p }
  match c with
  | .por => if s.rst.asserted.any (fun x => x.bit = 0) then ((s.startTime aon).powerGood).dropSources parts fun x => x.named c r else s
  | .bor true =>
    if s.rst.asserted.any (fun x => x.bit = 1) then (s.startTime aon).dropSources parts fun x => x.named c r else s
  | .pin _ => { s with rst.pinStuck := false }.dropSources parts fun x => x.named c r
  | .software => { s with rst.swr := none }.dropSources parts fun x => x.named c r
  | _ => s.dropSources parts fun x => x.named c r

/-- RESET_SOURCE_ASSERT. A PIN pulse shorter than 10 µs is ignored and counted; from 12 µs it is accepted; between them the spec
leaves the outcome open (R656, R669). A stuck input is not armed. -/
def execResetSourceAssert (t : Nat) (c : ResetCause) (s : State) : Result :=
  let s := s.tick t
  match c with
  | .pin ns =>
    if s.rst.pinStuck then .next s
    else if ns < 10000 then .next (s.count (ctrReset 17))
    else
      let taken := { s with rst.pinAt := s.now }.assertSource c
      if 12000 ≤ ns then .next taken
      else
        let (b, s1) := s.freeBool
        .next (if b then { s1 with rst.pinAt := s1.now }.assertSource c else s1.count (ctrReset 17))
  | .software => if s.rst.swr.isNone ∨ s.now < s.rst.swrAt + 20 * msNs then .next s else .next (s.assertSource c)
  | .clock i => if 17 < i then .next s else .next (s.assertSource c)
  | _ => .next (s.assertSource c)

/-- RESET_SOURCE_RELEASE. `aon`: at power good, the AON time counter, ns since shutdown; none when it has stopped (R198).
`parts`: parts neither slot of which verifies in the secure boot that follows (R692). -/
def execResetSourceRelease (t : Nat) (c : ResetCause) (aon : Option Nat) (parts : List Nat) (s : State) : Result :=
  .next ((s.tick t).releaseSource c aon parts)

/-- PIN_STUCK: held for 30 s, the input is treated as released (R656). -/
def execPinStuck (t : Nat) (s : State) : Result :=
  let s := s.tick t
  if !(s.rst.asserted.any fun x => x.bit = 2) ∨ s.now < s.rst.pinAt + 30 * secNs then .next s
  else
    let mark (e : ResetEpisode) : ResetEpisode := if bit e.sources 2 then { e with pinStuck := true } else e
    let s1 : State :=
      { s with
        rst.pinStuck := true
        rst.episode := s.rst.episode.map mark
        rst.unitEpisodes := s.rst.unitEpisodes.map mark }
    .next ((s1.dropSources [] fun x => x.bit = 2).raise 0x900B [])

/-- HOST_WATCHDOG_EXPIRY: the host firmware serviced it last at `served`, 2 s ago (R656). -/
def execHostWatchdogExpiry (t served : Nat) (s : State) : Result :=
  let s := s.tick t
  if s.now < served + 2 * secNs then .next s else .next (s.assertSource .hostWatchdog)

/-- LANE_WATCHDOG_EXPIRY: the lane serviced its watchdog last at `served`, 3P ago; the watchdog of a lane held in reset is stopped
(R656). -/
def execLaneWatchdogExpiry (t : Nat) (lane : LaneId) (served : Nat) (s : State) : Result :=
  let s := s.tick t
  if (s.lane lane).inReset ∨ s.now < served + 3 * s.frame.period * msNs then .next s else .next (s.assertSource (.laneWatchdog lane))

/-- LOCKUP_DETECT: a core has retired nothing, or a router output has held a ready flit without a grant, since `stuck`, for 10 ms
(R656). -/
def execLockupDetect (t : Nat) (p : LockPlace) (stuck : Nat) (s : State) : Result :=
  let s := s.tick t
  if s.now < stuck + 10 * msNs then .next s else .next (s.assertSource (.lockup p))

/-- SOFTWARE_RESET_ASSERT: 20 ms after the reply has left the field endpoint (R657). -/
def execSoftwareResetAssert (t : Nat) (s : State) : Result :=
  let s := s.tick t
  if s.rst.swr.isNone ∨ s.now < s.rst.swrAt + 20 * msNs then .next s else .next (s.assertSource .software)

/-- Clock of each island and of what monitors it, in Hz; the 19th monitor counts the second clock of AON against the first (R61). -/
def islandClocks : List (Nat × Nat) :=
  let rc := 4000000
  [(4000000, 32768), (1000000000, rc), (125000000, rc), (125000000, rc), (125000000, rc), (1200000000, rc), (400000000, rc),
   (1200000000, rc), (400000000, rc), (160000000, rc), (320000000, rc), (250000000, rc), (125000000, rc), (80000000, rc),
   (51200000, rc), (32000000, 24000000), (24000000, 32000000), (200000000, rc),
   (32768, 4000000)]

/-- A window of 256 monitor cycles with a count is bad: outside ±3 % (±6 % for the safety islands), or zero (R62). -/
def badWindow (island count : Nat) : Bool :=
  let f := islandClocks.getD island (1, 1)
  let tol := if island = 15 ∨ island = 16 then 6 else 3
  let got : Int := count * f.2
  let want : Int := 256 * f.1
  count = 0 || decide (tol * want < 100 * (got - want).natAbs)

/-- CLOCK_MONITOR_WINDOW: a second consecutive bad window asserts CKF, a good one releases it (R62, R655); a clock fault of a safety
channel is SAFE-FAULT beside (R415). -/
def execClockMonitorWindow (t island count : Nat) (s : State) : Result :=
  let s := s.tick t
  if 18 < island then .next s
  else
    let pair := if island = 18 then 0 else if island = 0 then 18 else island
    let name := if island = 18 then 0 else island
    let run := s.rst.badWindows.getD island 0
    let put (n : Nat) : State := { s with rst.badWindows := setAt s.rst.badWindows island fun _ => n }
    if badWindow island count then
      let s1 := put (run + 1)
      let s2 := if island = 15 then s1.safeFault .x 3 else if island = 16 then s1.safeFault .y 3 else s1
      .next (if run = 1 then s2.assertSource (.clock name) else s1)
    else if 2 ≤ s.rst.badWindows.getD pair 0 ∧ pair ≠ island then .next (put 0)
    else .next ((put 0).releaseSource (.clock name) none [])

/-- The values of an option copy (R663). -/
def Options.of (im : List Byte) (copy fails : Nat) : Options :=
  { serial := field im 8 8, hwRev := u32 im 16, ocxoWord := BitVec.ofNat 32 (u32 im 20),
    pllTrim := (List.range 10).map fun k => BitVec.ofNat 32 (u32 im (24 + 4 * k)), analogue := slice im 64 512,
    phyLat := (List.range 6).map fun k => i32 im (576 + 4 * k), gnssGain := (List.range 6).map fun k => i32 im (600 + 4 * k),
    copyUsed := copy, failedReads := fails }

/-- The latest episode notes the option load (R670). -/
def State.noteOptions (s : State) (copy fails : Nat) : State :=
  match s.rst.history with
  | [] => s
  | e :: es => { s with rst.history := { e with copyUsed := copy, failedReads := fails } :: es }

/-- The OCXO control word after the option load: the factory word, or the nominal one without a valid copy, at the first load since
power-on; later loads leave it (R162, R664, R665). -/
def State.loadedWord (s : State) (o : Options) (valid : Bool) : Word :=
  if s.time.ocxoLoaded then s.time.ocxoWord else if valid then o.ocxoWord else Config.nominalOcxoWord

/-- The option load ends; the safety unit is given the serial number, and OCXO_WARMING is set (R415, R664, R667). -/
def State.optionsDone (s : State) (o : Options) (valid : Bool) : State :=
  let s1 := s.noteOptions o.copyUsed o.failedReads
  { s1 with
    rst.up := .bringup 0 false
    rst.options := o
    time.warming := true
    time.ocxoWord := s1.loadedWord o valid
    time.ocxoLoaded := true
    safety.serialX := valid && decide (o.serial = s.safety.storedX)
    safety.serialY := valid && decide (o.serial = s.safety.storedY) }

/-- OPTION_LOAD_COMPLETE: one read of the copy under way, three attempts each for A and then B (R664, R665). -/
def execOptionLoadComplete (t : Nat) (image : List Byte) (s : State) : Result :=
  let s := s.tick t
  match s.rst.up with
  | .bringup 0 true =>
    let fails := s.rst.options.failedReads
    let copy := if fails < 3 then 0 else 1
    let ok : Bool := image.length = 4096 && u16 image 0 = 0x0F7A && u32 image 4 = 4096 && crcOk image 4092
    if ok then .next ((s.optionsDone (Options.of image copy fails) true).raiseIf (copy = 1) 0x9003 [])
    else
      let s1 := { s with rst.options.failedReads := fails + 1 }.count (ctrReset 16)
      if fails < 5 then .next s1
      else
        let nominal : Options := { Options.reset with copyUsed := 2, failedReads := 6 }
        .next ({ s1.optionsDone nominal false with rst.bringup := 1 }.raise 0x9004 [])
  | _ => .next s

/-- RESET_HISTORY (R670). -/
def effResetHistory : Effect := fun s _ _ _ =>
  let entry (e : ResetEpisode) : List Byte :=
    le 4 e.opSeconds.toNat ++ le 4 e.powerCycles.toNat ++ le 2 e.sources ++ le 1 e.level ++ le 1 e.target ++ le 1 e.island
      ++ le 1 e.phase ++ le 1 (e.copyUsed + 4 * e.failedReads) ++ le 1 (b2n e.storm + 2 * b2n e.pinStuck + 4 * b2n e.dropped)
  answered s <|
    le 2 s.rst.history.length ++ le 1 s.recentStarts.length ++ le 1 s.rst.bringup ++ le 8 s.rst.fuses ++ le 4 0
      ++ s.rst.history.flatMap entry

/-- The bound of software resets as a level (R655, R658). -/
def State.swrBound (s : State) : Nat :=
  match bits s.rst.fuses 9 8 with
  | 2 => 1
  | 3 => 2
  | _ => 0

/-- RESET_REQUEST (R657): the reply echoes the request. -/
def effResetRequest : Effect := fun s _ p _ =>
  let level := u8 p 0
  let target := u8 p 1
  let named : Bool :=
    if level ≤ 1 then target = 0 else if level = 2 then target ≤ 1 else unitCodes.contains target && target ≠ 0x50
  if p.length ≠ 4 then refused s stBadLength
  else if 3 < level ∨ u16 p 2 ≠ 0 ∨ level < s.swrBound ∨ !named then refused s stBadValue
  else if level ≤ 1 ∧ !s.quiet then refused s stNotInStandby
  else if level = 2 ∧ (s.lane (if target = 0 then .a else .b)).excluded then refused s stConditions
  else answered { s with rst.swr := some (level, target), rst.swrAt := s.now } p

end Sys2Proof.Machine
end

