-- ==== Sys2Proof/Machine/Bringup.lean ====
section
/-!
DEFINITION. The end of a bring-up: configuration, recorder, lanes, field units, firmware trial, the bring-up event
(R123, R226, R624, R627, R639, R647, R657, R665 to R668, R680, R691, R696, R698).
-/

namespace Sys2Proof.Machine

/-- The newest valid yealm of a region in NAND; `unreadable`: YSEQ of the yealms found not valid (R639). -/
def Recorder.newestStored (r : Recorder) (region : Nat) (unreadable : List Nat) : Option Yealm :=
  (r.stored.filter fun y => y.region = region && !unreadable.contains y.yseq).getLast?

/-- FRAM takes the DIGEST of the yealm a region chains to. -/
def Recorder.setDigest (r : Recorder) (region : Nat) (d : List Byte) : Recorder :=
  if region = 0 then { r with digestE := d } else { r with digestT := d }

/-- A region whose newest valid yealm differs from FRAM: FRAM's DIGEST and the one found (R639). -/
def State.chainBreak (s : State) (unreadable : List Nat) (region : Nat) : Option (Nat × List Byte × List Byte) :=
  match s.recorder.newestStored region unreadable with
  | none => none
  | some y =>
    let old := if region = 0 then s.recorder.digestE else s.recorder.digestT
    if s.recorder.lost || decide (y.digest = old) then none else some (region, old, y.digest)

/-- A chain break told: the record 0x60F2 with both digests, and event 0x6007 (R639). -/
def State.tellBreak (s : State) (x : Nat × List Byte × List Byte) : State :=
  (s.addRecord 0 (s.makeEvent 0x60F2 3 (x.2.1 ++ x.2.2)) true).raise 0x6007 [x.1]

/-- Operating seconds resume from the larger of FRAM and the newest valid yealm (R631). -/
def State.resumeSeconds (s : State) (unreadable : List Nat) : State :=
  let m := [0, 1].foldl (fun n r => max n (((s.recorder.newestStored r unreadable).map Yealm.opsLast).getD 0)) 0
  if s.recorder.opSeconds.toNat < m then { s with recorder.opSeconds := BitVec.ofNat 32 m } else s

/-- The last-gasp records that no written yealm holds, in a yealm of cause 7 (R647). -/
def State.recoverGasp (s : State) (unreadable : List Nat) : State :=
  let last := ((s.recorder.stored.filter fun y => !unreadable.contains y.yseq).map fun y => y.seqs.2).foldl max 0
  let any := !s.recorder.stored.isEmpty
  let rs := (s.recorder.lastGasp.filter fun r => !any || last < r.seq).mergeSort fun a b => a.seq ≤ b.seq
  { s with recorder.openEvents := { records := rs } }.closeYealm 0 7

/-- The marker of a bring-up (R634): level, sources, firmware versions, CONFIG_GEN. -/
def State.bringupMarker (s : State) (e : ResetEpisode) : State :=
  let fw (i : Nat) : List Byte := le 8 (s.config.firmware.running.getD i 0)
  let p := le 1 e.phase ++ le 1 0 ++ le 2 e.sources ++ fw 0 ++ fw 1 ++ le 4 s.config.active.generation.toNat
  s.addRecord 0 (s.makeEvent 0x60F1 3 p) true

/-- The episode that led to a bring-up. -/
def State.lastEpisode (s : State) (level target : Nat) : ResetEpisode :=
  (s.rst.history.find? fun e => if level ≤ 1 then e.phase = level else e.level = level && e.target = target).getD
    (s.newEpisode { bit := 0, level := level, target := target, island := 0xFF })

/-- The bring-up event: 0x9001 after POR, PIN, SWR or DBG alone, else 0x9002 (R680). -/
def State.bringupEvent (s : State) (e : ResetEpisode) : State :=
  s.raise (if e.sources &&& 0x33A = 0 then 0x9001 else 0x9002) [e.sources, e.level, e.target]

/-- The recorder runs again: counters read from FRAM, chains checked, what is left of the time before closed, then the marker (R631, R639, R647). -/
def State.recorderUp (s : State) (cold : Bool) (unreadable fram : List Nat) (e : ResetEpisode) : State :=
  let s1 := (s.readFram fram).resumeSeconds unreadable
  let breaks := [0, 1].filterMap (s1.chainBreak unreadable)
  let s2 : State := { s1 with recorder := breaks.foldl (fun r x => r.setDigest x.1 x.2.2) s1.recorder }
  let s3 := if cold then s2.recoverGasp unreadable else s2.closeBoth 6
  (breaks.foldl State.tellBreak s3).bringupMarker e

/-- RESTART_WAIT of the channels with RESTART_INHIBIT, SUPPLY_OFF where a supply is in CUTOFF, and the outputs by their rules
(R472, R474, R477, R478). -/
def State.fieldIoUp (s : State) : State :=
  let wait (p : DioChannel × Nat) : DioChannel := { p.1 with restartWait := s.dioDir (p.2 + 1) = 2 && s.dioFlag (p.2 + 1) 3 }
  let s1 : State := { s with fio.inReset := false, fio.channels := s.fio.channels.zipIdx.map wait }
  let cut (s : State) (second : Bool) : State :=
    if (if second then s.fio.fld2 else s.fio.fld1).st = .cutoff then s.cutoff second else s
  (cut (cut s1 false) true).dioPass

/-- Every bus controller starts, but for those a Unit reset still holds (R529, R544). -/
def State.busesUp (s : State) : State :=
  (List.range 6).foldl (fun s b => if s.rst.unitsDown.contains (b + 1) then s else s.startBus (b + 1)) s

/-- The bring-up stops in MAINTENANCE: OPTIONS_INVALID, a storm, no lane image, or a module without provisioning (R665, R666, R692, R698). -/
def State.stopsInMaintenance (s : State) : Bool :=
  s.rst.bringup ≠ 0 || s.rst.bootFailed.contains 1 || s.security.unprovisioned || s.security.debugStep = 3

/-- Both lanes run from the active bank and the parameters, in STANDBY or MAINTENANCE, from the start bin; references begin (R226,
R254, R285, R290, R667). -/
def State.lanesUp (s : State) : State :=
  let b := s.config.active
  let level := s.paramN 0x2001000A
  let fixed := s.paramN 0x20010001
  let bin := if fixed = 0xFF then s.paramN 0x20010009 else fixed
  let c : Core :=
    { Core.reset with
      engine := { Engine.reset with programs := b.programs, coefs := b.coefs, bin := bin, level := level, prevLevel := level }
      ctl := { Control.reset with nextBin := bin, mode := if s.stopsInMaintenance then .maintenance else .standby } }
  let x : Lane := { Lane.reset with core := c, saved := c }
  let s1 : State := { s with laneA := x, laneB := x, rst.priorMode := 0 }
  let old := s.rst.priorMode
  s1.lanesWork fun s w => (w.referencesAtStart s s.now).raiseIf (old ≠ c.ctl.mode.code) 0x0201 [old, c.ctl.mode.code]

/-- A trial that reached STANDBY in time is confirmed: the security counter and the revocation bits follow (R627, R691). -/
def State.confirmTrial (s : State) : State :=
  let f := s.config.firmware
  { s with
    config.firmware := { f with trial := false, stagedSec := [], stagedRevoke := 0 }
    security.secCounter := (f.stagedSec.map (·.2)).foldl max s.security.secCounter
    security.revoked := s.security.revoked ||| f.stagedRevoke }

/-- A trial that failed: the next bring-up uses the previous slot of every part (R627). -/
def State.failTrial (s : State) (part : Nat) : State :=
  let f := s.config.firmware
  { s with config.firmware := { f with slot := f.previousSlot, running := f.previous, trial := false, stagedSec := [], stagedRevoke := 0 } }.raise 0x0106 [part]

/-- The trial of new images at the end of a bring-up. -/
def State.judgeTrial (s : State) : State :=
  if !s.config.firmware.trial then s
  else
    match s.rst.bootFailed with
    | p :: _ => s.failTrial p
    | [] => if s.now ≤ s.config.firmware.trialDue && !s.stopsInMaintenance then s.confirmTrial else s

/-- What the reset controller and the AON island tell at a bring-up: tampering, a march, safety tables (R452, R689, R696). -/
def State.bringupNotices (s : State) : State :=
  let s1 := if s.security.tamper && !s.security.tamperTold then { s with security.tamperTold := true }.raise 0xA103 [] else s
  let s2 := if s1.memory.marchTold then s1 else { s1 with memory.marchTold := true }.raise 0xA004 [s1.memory.marchResult]
  let tb := s2.config.active.safetyTables
  s2.raiseIf (s2.safety.x.tables ≠ tb ∨ s2.safety.y.tables ≠ tb) 0x5009 []

/-- The bring-up of the module is complete (R667, R668). -/
def State.moduleUp (s : State) (level : Nat) (km : Nat) (unreadable fram : List Nat) (wrong : List (LaneId × Nat)) : State :=
  let e := s.lastEpisode level 0
  let s1 := s.loadConfig wrong
  let s2 := s1.recorderUp (level = 0) unreadable fram e
  let inhibit : Bool := s2.rst.bringup ≠ 0 || s2.rst.bootFailed.contains 1
  let down := (s2.rst.asserted.filter fun x => x.level = 3 && x.target ≠ 0x50).map (·.target)
  let s3 : State :=
    { s2 with
      rst.up := .up
      rst.unitsDown := (if s2.rst.bootFailed.contains 0 then [unitHost] else []) ++ down
      frame := { FrameUnit.reset with period := s2.paramN 0x01010001 }
      fio.inhibit := inhibit
      peer.duty := if s2.peerEnabled then .twin else .duty
      host.users := if s2.security.hostErase then [] else s2.host.users
      security.hostErase := false
      security.hostRandom := true
      security.fieldRandom := s2.security.fieldRandom || decide (level = 0) }
  let s4 := ((if down.contains 0x21 then s3.lanesUp else s3.lanesUp.fieldIoUp).busesUp).startBaseband km
  let s5 := s4.raiseIf (s4.rst.priorHealth ≠ 0) 0x7006 [s4.rst.priorHealth, 0]
  let s6 := ({ s5 with rst.priorHealth := 0 }.judgeTrial.bringupNotices).bringupEvent e
  let s7 : State := { s6 with security.debugStep := if s6.security.debugStep = 3 then 4 else s6.security.debugStep }
  (s7.ptpRestart 2).ptpRestart 3

/-- Bring-up time of a unit after its release, ns (R657). -/
def unitTime (u : Nat) : Nat :=
  if u ≤ 6 then 10 * msNs
  else if u ≤ 0x18 then 5 * msNs
  else
    match u with
    | 0x20 => msNs
    | 0x21 => 20 * msNs
    | 0x30 => 200 * msNs
    | 0x31 => 50 * msNs
    | 0x40 => 100 * msNs
    | _ => 1600 * msNs

/-- The bring-up of one unit is complete: it is set up again from the active bank (R654, R657). -/
def State.unitUp (s : State) (u : Nat) (km : Nat) (unreadable fram : List Nat) : State :=
  let e := s.lastEpisode 3 u
  let s1 : State :=
    { s with
      rst.unitsDown := s.rst.unitsDown.filter fun x => x ≠ u
      rst.released := s.rst.released.filter fun x => x.1 ≠ u }
  let s2 :=
    if 1 ≤ u ∧ u ≤ 6 then s1.startBus u
    else
      match u with
      | 0x21 => s1.fieldIoUp
      | 0x30 => s1.startBaseband km
      | 0x31 => { s1 with peer.physical := true }
      | 0x40 => s1.recorderUp false unreadable fram e
      | 0x80 =>
        { s1 with
          security.hostRandom := true
          security.debugStep := if s.security.debugStep = 3 then 4 else s.security.debugStep }
      | _ => s1
  if s.rst.history.any fun e => e.level = 3 && e.target = u then s2.bringupEvent e else s2

/-- BRINGUP_COMPLETE of the module (unit 0) or of a unit of R657; `wrong`: the lanes' slots that fail their checks (R624), `fram`:
the copies of the counter block that do (R646). A unit takes its time of R657 from its release. -/
def execBringupComplete (t unit km : Nat) (unreadable fram : List Nat) (wrong : List (LaneId × Nat)) (s : State) : Result :=
  let s := s.tick t
  if unit = 0 then
    match s.rst.up with
    | .bringup l false => if s.rst.asserted.any fun x => x.level ≤ 1 then .next s else .next (s.moduleUp l km unreadable fram wrong)
    | _ => .next s
  else
    let held : Bool := s.rst.asserted.any fun x => x.level = 3 && x.target = unit
    let noImage : Bool := unit = unitHost && s.rst.bootFailed.contains 0
    let early : Bool := (assoc s.rst.released unit).all fun t0 => decide (s.now < t0 + unitTime unit)
    if s.rst.up ≠ .up ∨ !s.rst.unitsDown.contains unit ∨ held ∨ noImage ∨ early then .next s
    else .next (s.unitUp unit km unreadable fram)

/-- FIRMWARE_TRIAL_EXPIRY: STANDBY not reached within 10 s of release; the part at fault is named (R627). The trial is timed from the
release on, before which its time is 0. -/
def execFirmwareTrialExpiry (t part : Nat) (s : State) : Result :=
  let s := s.tick t
  let f := s.config.firmware
  if f.trial && decide (0 < f.trialDue ∧ f.trialDue ≤ s.now) then .next (s.failTrial part) else .next s

end Sys2Proof.Machine
end

