-- ==== Sys2Proof/Machine/Eaves.lean ====
section
/-!
DEFINITION. The Eaves barrier: links and their packets, acknowledgements and credits, loss and return of links, events across
the barrier (R35 to R43, R66, R593, R597 to R601).
-/

namespace Sys2Proof.Machine

/-- Counters of R603 and R35: packets resent (0) and failed (1) by link, discarded traffic by endpoint (2), suppressed events (3), drops
of each class (4). -/
def ctrEaves (kind n : Nat) : Nat := 0x80F30000 + kind * 16 + n

/-- Number of a class. -/
def EavesKind.index : EavesKind → Nat
  | .command => 0
  | .reply => 1
  | .event => 2
  | .bulkToHost => 3
  | .bulkToField => 4

/-- A class of the barrier. -/
def Eaves.cls (e : Eaves) : EavesKind → EavesClass
  | .command => e.command
  | .reply => e.reply
  | .event => e.event
  | .bulkToHost => e.bulkUp
  | .bulkToField => e.bulkDown

/-- A class changed. -/
def State.onClass (s : State) (k : EavesKind) (f : EavesClass → EavesClass) : State :=
  match k with
  | .command => { s with eaves.command := f s.eaves.command }
  | .reply => { s with eaves.reply := f s.eaves.reply }
  | .event => { s with eaves.event := f s.eaves.event }
  | .bulkToHost => { s with eaves.bulkUp := f s.eaves.bulkUp }
  | .bulkToField => { s with eaves.bulkDown := f s.eaves.bulkDown }

/-- A link. -/
def Eaves.link (e : Eaves) (n : Nat) : EavesLink := if n = 0 then e.link0 else e.link1

/-- A link changed. -/
def State.onLink (s : State) (n : Nat) (f : EavesLink → EavesLink) : State :=
  if n = 0 then { s with eaves.link0 := f s.eaves.link0 } else { s with eaves.link1 := f s.eaves.link1 }

/-- CLASS of R597 at the endpoint it arrives at: the host receives Reply, Event and Bulk, the field side Command and Bulk. -/
def eavesKind (cls : Nat) (toHost : Bool) : Option EavesKind :=
  match cls, toHost with
  | 0, false => some .command
  | 1, true => some .reply
  | 2, true => some .event
  | 3, true => some .bulkToHost
  | 3, false => some .bulkToField
  | _, _ => none

/-- Packets held out of order that are now next in sequence, fuel at most. -/
def EavesClass.drain : Nat → EavesClass → EavesClass
  | 0, c => c
  | n + 1, c =>
    match c.held.find? fun h => h.1 = c.expectSeq with
    | none => c
    | some h =>
      EavesClass.drain n
        { c with
          expectSeq := (c.expectSeq + 1) % 65536
          held := c.held.filter fun x => x.1 ≠ h.1
          delivered := c.delivered ++ [h.2] }

/-- Whether an arrival at an endpoint is traffic of R35 in its direction; packets are looked at on their own. -/
def EavesArrival.known (a : EavesArrival) (toHost : Bool) : Bool :=
  match a with
  | .packet _ => true
  | .timeMark => toHost
  | .resetOrder => toHost
  | .resetRequest => !toHost
  | .other => false

/-- A good packet received: delivered in sequence order, held while earlier ones are missing, ignored when it came before (R36). -/
def EavesClass.receive (c : EavesClass) (seq eflags : Nat) (content : List Byte) : EavesClass :=
  if seq = c.expectSeq then
    EavesClass.drain c.held.length { c with expectSeq := (seq + 1) % 65536, delivered := [(eflags, content)] }
  else if seqLater 16 seq c.expectSeq && !(c.held.any fun h => h.1 = seq) then
    { c with held := c.held ++ [(seq, eflags, content)], delivered := [] }
  else { c with delivered := [] }

/-- The bytes of a packet on a link (R597). -/
def EavesPacket.bytes (x : EavesPacket) (cls : Nat) : List Byte :=
  let body := le 1 cls ++ le 1 x.eflags ++ le 2 x.seq ++ le 2 x.content.length ++ le 2 x.xfer ++ x.content
  body ++ le 4 (crc32c body).toNat

/-- A packet at an endpoint (R35, R36, R597): one that fails its CRC counts for its link; one with a good CRC that the layout does
not let through is traffic to discard. A time label that is delivered reaches the host copy of module time (R194). -/
def State.packetArrives (s : State) (link : Nat) (toHost : Bool) (bytes : List Byte) : State :=
  let n := bytes.length
  let len := field bytes 4 2
  let crcGood : Bool := decide (12 ≤ n) && decide (field bytes (n - 4) 4 = (crc32c (bytes.take (n - 4))).toNat)
  let flags := field bytes 1 1
  let layout : Bool := decide (n = 12 + len) && decide (1 ≤ len ∧ len ≤ 8212) && decide (flags ≤ 3)
  if !crcGood then (s.onLink link fun l => { l with crcRun := l.crcRun + 1 }).count (ctrEaves 1 link)
  else
    let s1 := s.onLink link fun l => { l with crcRun := 0 }
    match layout, eavesKind (field bytes 0 1) toHost with
    | true, some k =>
      let s2 := s1.onClass k fun c => c.receive (field bytes 2 2) flags (slice bytes 8 len)
      if k = .event then
        (s2.eaves.event.delivered.filter fun x => bit x.1 1).foldl (fun (s : State) x => s.hostLabel x.2) s2
      else s2
    | _, _ => s1.count (ctrEaves 2 (b2n toHost))

/-- EAVES_PACKET_RECEIVE: something arrives at an endpoint, the host's or the field side's, on a link; what R35 does not list is
discarded and counted. The effect of a time mark or a reset symbol is that of its own row. -/
def execEavesPacketReceive (t link : Nat) (toHost : Bool) (a : EavesArrival) (s : State) : Result :=
  let s := s.tick t
  if s.unitHeld 0 then .next s else
  if 1 < link ∨ !(s.eaves.link link).up then .next s
  else
    match a with
    | .packet bytes => .next (s.packetArrives link toHost bytes)
    | _ => .next (if a.known toHost then s else s.count (ctrEaves 2 (b2n toHost)))

/-- The other link. -/
def otherLink (n : Nat) : Nat := if n = 0 then 1 else 0

/-- Packets of a class whose link failed are resent on another (R40). -/
def EavesClass.reroute (c : EavesClass) (dead live : Nat) : EavesClass :=
  { c with retry := c.retry.map fun (p : EavesPacket) => if p.link = dead then { p with link := live } else p }

/-- Every class of the barrier. -/
def eavesKinds : List EavesKind := [.command, .reply, .event, .bulkToHost, .bulkToField]

/-- EAVES_LINK_DOWN: alignment lost for more than 100 µs (`misaligned`, ns), or 16 CRC failures in a row (R40). Control symbols on the
link are lost. -/
def execEavesLinkDown (t link misaligned : Nat) (s : State) : Result :=
  let s := s.tick t
  if s.unitHeld 0 then .next s else
  let l := s.eaves.link link
  if 1 < link ∨ !l.up ∨ (misaligned ≤ 100 * usNs ∧ l.crcRun < 16) then .next s
  else
    let s0 : State := { s with eaves.symbols := s.eaves.symbols.filter fun x => x.1 ≠ link }
    let s1 := s0.onLink link fun x => { x with up := false, crcRun := 0 }
    let other := otherLink link
    let s2 :=
      if (s1.eaves.link other).up then
        let moved := eavesKinds.foldl (fun n k => n + ((s1.eaves.cls k).retry.filter fun p => p.link = link).length) 0
        (eavesKinds.foldl (fun s k => s.onClass k fun c => c.reroute link other) s1).countN (ctrEaves 0 other) moved
      else { s1 with eaves.bothDownSince := some s.now }
    .next (s2.raise 0x8001 [link])

/-- A forwarded request answered without the field side. -/
def State.answerForwarded (s : State) (status : Nat) (c : Forwarded) : State :=
  s.sendReply
    { transport := c.transport, addr := c.addr, session := c.session, tag := c.tag, opcode := BitVec.ofNat 16 c.opcode, handle := 0,
      flags := replyFlags c.session, status := BitVec.ofNat 16 status, payload := [] }

/-- BOTH_LINKS_DOWN for more than 100 ms: forwarded requests are answered FIELD_UNREACHABLE (R42, R589). -/
def execBothLinksDown (t : Nat) (s : State) : Result :=
  let s := s.tick t
  if !s.since s.eaves.bothDownSince (100 * msNs + 1) ∨ s.eaves.bothDownTold then .next s
  else
    let all := s.eaves.waitingCommands ++ s.eaves.inField
    let back := s.eaves.inField.foldl (fun n c => n + c.replyCredits) 0
    let s1 : State :=
      { s with
        eaves.bothDownTold := true
        eaves.waitingCommands := []
        eaves.waitingReplies := []
        eaves.inField := []
        eaves.reply.credits := s.eaves.reply.credits + back
        eaves.granted := s.eaves.granted - back
        host.frameReplies := []
        host.fieldUnreachable := true }
    .next ((all.foldl (fun s c => s.answerForwarded stFieldUnreachable c) s1).raise 0x8002 [])

/-- Replies and completions that waited for a link cross, replies first (R41, R587). -/
def State.crossWaiting (s : State) : State :=
  let s1 := s.eaves.waitingReplies.foldl State.crossReply { s with eaves.waitingReplies := [] }
  s.eaves.heldCompletions.foldl (fun s c => s.crossCompletion c.1 c.2.1 c.2.2) { s1 with eaves.heldCompletions := [] }

/-- Resets of the host side alone while both links were down enter the history (R656). -/
def State.lateHostEpisodes (s : State) : State :=
  s.rst.lateHost.foldl (fun s b =>
    let x : ResetSource := { bit := b, level := 3, target := 0x80, island := 0xFF }
    let e : ResetEpisode :=
      { opSeconds := s.recorder.opSeconds, powerCycles := s.recorder.powerCycles, sources := 2 ^ x.bit, level := x.level,
        target := x.target, island := x.island, phase := x.level, copyUsed := s.rst.options.copyUsed, failedReads := 0,
        storm := false, pinStuck := false, dropped := false }
    { s with rst.history := (e :: s.rst.history).take 62 }.count (0x90F00000 + b)) { s with rst.lateHost := [] }

/-- EAVES_RETRY_RESEND: a packet the receiver has not acknowledged goes out again, on a link that is up (R36, R40). -/
def execEavesRetryResend (t : Nat) (k : EavesKind) (seq : Nat) (s : State) : Result :=
  let s := s.tick t
  if s.unitHeld 0 then .next s else
  let live := if s.eaves.link0.up then 0 else 1
  match (s.eaves.cls k).retry.find? fun p => p.seq = seq with
  | none => .next s
  | some p =>
    let link := if (s.eaves.link p.link).up then p.link else live
    if !(s.eaves.link link).up then .next s
    else
      let s1 := s.onClass k fun c =>
        { c with retry := c.retry.map fun (q : EavesPacket) => if q.seq = seq then { q with link := link } else q }
      .next (s1.count (ctrEaves 0 link))

/-- The host form of an event as the payload of its packet (R591). -/
def HostEvent.bytes (e : HostEvent) : List Byte :=
  le 2 e.code.toNat ++ le 1 e.severity ++ le 1 0 ++ le 4 e.frame.toNat ++ le 6 e.taiS ++ le 4 e.taiNs ++ le 2 e.tstatus.toNat
    ++ le 4 e.opSeconds.toNat ++ le 8 e.recSeq ++ le 2 e.args.length ++ le 2 e.suppressed ++ e.args

/-- An event packet of a session (R566, R591). -/
def State.eventPacket (s : State) (number : Nat) (v : SentEvent) : List Byte :=
  packetBytes (0x88 + 64 * b2n v.ev.gap) (v.ev.code.toNat ||| 0x8000) v.seq 0 0 number (s.keyOf number) v.ev.bytes

/-- Credits of an event at the barrier: header, tag and CRC of its packet beside its payload (R598). -/
def HostEvent.credits (e : HostEvent) : Nat := packetCredits (e.bytes.length + 36)

/-- Whether an event can cross: a link is up and credit is there beside what the labels have left of their 16 (R600). -/
def State.eventRoom (s : State) (e : HostEvent) : Bool :=
  s.linkUp && !s.host.fieldUnreachable && decide (e.credits + (16 - s.eaves.labelCredits) ≤ s.eaves.event.credits)

/-- An event crosses, with GAP after dropped ones, and goes to the sessions (R593). -/
def State.crossEvent (s : State) (e : HostEvent) : State :=
  let e1 : HostEvent := { e with gap := e.gap || s.eaves.gapNext }
  let s1 : State :=
    { s with
      eaves.gapNext := false
      eaves.event := s.eaves.event.send s.eaves.link0.up s.eaves.link1.up 0 0 (packetBytes (0x88 + 64 * b2n e1.gap) (e1.code.toNat ||| 0x8000) 0 0 0 0 [] e1.bytes) }
  s1.toSessions e1

/-- Events waiting at the field endpoint cross in order while there is room. -/
def State.crossEvents : Nat → State → State
  | 0, s => s
  | n + 1, s =>
    match s.eaves.events with
    | [] => s
    | e :: rest =>
      if s.eventRoom e then State.crossEvents n (({ s with eaves.events := rest }).crossEvent e) else s

/-- Oldest waiting events dropped until the Event buffer of 8176 credits holds the rest (R66, R593, R600). -/
def State.dropOldest : Nat → State → State
  | 0, s => s
  | n + 1, s =>
    if (s.eaves.events.map HostEvent.credits).sum ≤ 8176 then s
    else
      let s1 : State :=
        { s with
          eaves.events := s.eaves.events.drop 1
          eaves.gapNext := true }
      State.dropOldest n (s1.count (ctrEaves 4 EavesKind.event.index))

/-- EAVES_LINK_REJOIN: alignment and training, with the latency calibrated anew; every class goes on from its last acknowledged
packet (R43), and what waited crosses in the order Reply, Event, Bulk (R601). -/
def execEavesLinkRejoin (t link latency : Nat) (s : State) : Result :=
  let s := s.tick t
  if s.unitHeld 0 then .next s else
  if 1 < link ∨ (s.eaves.link link).up then .next s
  else
    let first : Bool := !(s.eaves.link (otherLink link)).up
    let s1 := s.onLink link fun x => { x with up := true, crcRun := 0, latency := latency }
    if !first then .next s1
    else
      let s2 : State :=
        { s1 with
          eaves.bothDownSince := none
          eaves.bothDownTold := false
          host.fieldUnreachable := false }
      let s3 := eavesKinds.foldl (fun s k => s.onClass k fun c => c.reroute (otherLink link) link) s2
      let s4 := s3.crossWaiting.sendLabels s3.eaves.waitingLabels.length
      .next (s4.crossEvents s4.eaves.events.length).sendBulk.lateHostEpisodes

/-- An event passed by the bucket: it crosses, or waits at the field endpoint. -/
def State.passEvent (s : State) (e : HostEvent) : State :=
  let s1 : State := { s with eaves.events := s.eaves.events ++ [e] }
  let s2 := s1.crossEvents s1.eaves.events.length
  s2.dropOldest s2.eaves.events.length

/-- LINK_ACKNOWLEDGEMENT_RECEIVE: packets up to a sequence number are freed, and returned credit is regained; Reply credit is
granted, not returned by acknowledgements (R36, R598, R599). -/
def execLinkAcknowledgementReceive (t : Nat) (k : EavesKind) (seq : Option Nat) (returned : Nat) (s : State) : Result :=
  let s := s.tick t
  if s.unitHeld 0 then .next s else
  let acked (n : Nat) : Bool :=
    match seq with
    | none => false
    | some q => n = q || seqLater 16 q n
  let labels := if k = .event then (s.eaves.event.retry.filter fun p => acked p.seq && bit p.eflags 1).length else 0
  let s1 := s.onClass k fun c =>
    { c with
      retry := c.retry.filter fun p => !acked p.seq
      credits := if k = .reply then c.credits else min c.total (c.credits + returned) }
  let s2 := { s1 with eaves.labelCredits := s1.eaves.labelCredits - labels }.sendLabels s1.eaves.waitingLabels.length
  .next (s2.crossEvents s2.eaves.events.length).sendBulk

/-- The token bucket refilled up to now: 2 tokens a ms, 200 at most, in thousandths of a token (R593). -/
def State.refill (s : State) : State :=
  let gain := (s.now - s.eaves.tokensAt) / 500
  { s with
    eaves.tokens := min 200000 (s.eaves.tokens + gain)
    eaves.tokensAt := s.eaves.tokensAt + gain * 500 }

/-- An event suppressed and counted; the sessions' next event tells of it (R591, R593). -/
def State.suppress (s : State) : State :=
  { s with
    eaves.suppressed := s.eaves.suppressed + 1
    eaves.noticeLeft := s.eaves.noticeLeft + 1
    host.sessions := s.host.sessions.map fun (x : Session) => { x with suppressed := x.suppressed + 1 } }.count (ctrEaves 3 0)

/-- EVENT_FORWARD: the oldest event at the field endpoint meets the token bucket (R593); the notice of suppression passes it. -/
def execEventForward (t : Nat) (s : State) : Result :=
  let s := (s.tick t).refill
  match s.toHost with
  | [] => .next s
  | e :: rest =>
    let s1 : State := { s with toHost := rest }
    if e.code = 0x8005#16 then .next (s1.passEvent e)
    else if 1000 ≤ s1.eaves.tokens then .next ({ s1 with eaves.tokens := s1.eaves.tokens - 1000 }.passEvent e)
    else if 3 ≤ e.severity then .next (s1.passEvent e)
    else .next s1.suppress

/-- SUPPRESSION_NOTICE: event 0x8005 with the count, once a second while events are suppressed (R593). -/
def execSuppressionNotice (t : Nat) (s : State) : Result :=
  let s := s.tick t
  if s.eaves.noticeLeft = 0 ∨ s.now < s.eaves.noticeAt + secNs then .next s
  else .next ({ s with eaves.noticeAt := s.now, eaves.noticeLeft := 0 }.raise 0x8005 [s.eaves.noticeLeft])

/-- Free credits of a class (R598 to R601). -/
def State.freeCredits (s : State) (k : EavesKind) : Nat :=
  match k with
  | .event => s.eaves.event.credits - (16 - s.eaves.labelCredits)
  | _ => (s.eaves.cls k).credits

/-- EAVES_STATUS (R601): each link's state, latency, retry and CRC counters; each class's free credits and drops. -/
def effEavesStatus : Effect := fun s _ _ _ =>
  let link (n : Nat) : List Byte :=
    let l := s.eaves.link n
    let counted (kind : Nat) : List Byte := le 4 (s.counter (ctrEaves kind n)).value.toNat
    le 1 (b2n l.up) ++ le 3 0 ++ le 4 l.latency ++ counted 0 ++ counted 1
  answered s (link 0 ++ link 1 ++ eavesKinds.flatMap fun k => le 4 (s.freeCredits k) ++ le 4 (s.counter (ctrEaves 4 k.index)).value.toNat)

end Sys2Proof.Machine
end

