-- ==== Sys2Proof/Machine/HostSessions.lean ====
section
/-!
DEFINITION. Sessions, control, event queues, the user table; the receivers of the host ports (R562, R563, R567 to R576, R590 to
R592, R695, R700).
-/

namespace Sys2Proof.Machine

/-- The first session number from n on that is free, fuel at most: 1 to 0xFFFE, skipping numbers in use (R568). -/
def freeSession (xs : List Session) : Nat → Nat → Nat
  | 0, n => n
  | k + 1, n => if xs.any fun x => x.number = n then freeSession xs k (if n = 65534 then 1 else n + 1) else n

/-- A user is locked out (R569). -/
def State.lockedOut (s : State) (user : Nat) : Bool := s.host.lockouts.any fun l => l.1 = user && decide (s.now < l.2)

/-- Rights of a user over a transport and an authority (R570, R574). -/
def userStatus (u : User) (transport authority : Nat) : Nat :=
  if u.authority < authority then stAuthorityLow
  else if (authority = 3 ∧ transport = 0) ∨ !bit u.transports transport then stPortNotPermitted
  else stOk

/-- The recovery user, and every user while UNPROVISIONED (R700). -/
def State.recoveryStatus (s : State) (user transport authority : Nat) : Nat :=
  if user ≠ 0xFF ∨ !s.security.unprovisioned then stAuthFailed
  else if transport ≠ 2 then stPortNotPermitted
  else if authority ≠ 3 then stAuthorityLow
  else stOk

/-- Whether a user may open a session (R569, R570, R574, R700). An unknown user is refused as a wrong proof is. -/
def State.openRights (s : State) (user transport authority : Nat) : Nat :=
  if user = 0xFF ∨ s.security.unprovisioned then s.recoveryStatus user transport authority
  else
    match s.host.users.find? fun u => u.number = user with
    | none => stAuthFailed
    | some u => userStatus u transport authority

/-- The status of a SESSION_OPEN (R568, R569, R694). -/
def State.openStatus (s : State) (transport user authority : Nat) (nonce : List Byte) : Nat :=
  let c := s.openRights user transport authority
  if nonce.length ≠ 16 then stBadLength
  else if 3 < authority then stBadValue
  else if s.lockedOut user then stLockedOut
  else if c ≠ stOk then c
  else if !s.security.hostRandom then stDeviceFault
  else if 8 ≤ s.host.sessions.length then stNoSession
  else stOk

/-- A pending session; an open one subscribes to every unit at MAJOR and above (R569, R590). -/
def newSession (number user authority transport addr now : Nat) (client server : List Byte) : Session :=
  { number := number, isOpen := false, user := user, authority := authority, transport := transport, addr := addr, clientNonce := client,
    serverNonce := server, startedAt := now, newestTag := none, stored := [], lastPacket := now, nextEventSeq := 1, queue := [],
    window := [], mask := BitVec.allOnes 256, minSeverity := 3, gapNext := false, suppressed := 0, lastDropEvent := none,
    lastBadTag := none }

/-- SESSION_OPEN served: its status and reply payload, session number and server nonce (R569). -/
def State.openSession (s : State) (transport addr user authority : Nat) (nonce : List Byte) : State × Nat × List Byte :=
  let c := s.openStatus transport user authority nonce
  if c ≠ stOk then (s, c, [])
  else
    let n := freeSession s.host.sessions 8 s.host.nextSession
    let server := be 16 (Config.random s.freeCtr).toNat
    let x := newSession n user authority transport addr s.now nonce server
    let s1 : State :=
      { s with
        freeCtr := s.freeCtr + 1
        host.nextSession := if n = 65534 then 1 else n + 1
        host.sessions := s.host.sessions ++ [x] }
    (s1, stOk, le 2 n ++ server)

/-- A reply outside sessions. -/
def State.sendPlain (s : State) (r : Req) (opcode status : Nat) (payload : List Byte) : State :=
  { s with host.replies := s.host.replies ++ [{ r.reply opcode 0 status payload with session := 0, flags := 1 }] }

/-- SESSION_OPEN, in session 0 or in an open session (R567, R569): user, authority, client nonce. -/
def execSessionOpen (r : Req) (user authority : Nat) (nonce : List Byte) (s : State) : Result :=
  let s := s.tick r.t
  if !s.heard r then .next s
  else if r.session = 0 then
    let (s1, c, bs) := (s.noteFrame r).openSession r.transport r.addr user authority nonce
    .next (s1.sendPlain r 0x8001 c bs)
  else
    match (s.noteFrame r).checkSession r 0x8001 (r.covered 0x8001 0 (le 1 user ++ le 1 authority ++ nonce)) with
    | .done s1 => .next s1
    | .refuse s1 c => .next (s1.sendReply (r.reply 0x8001 0 c []))
    | .pass s1 =>
      let (s2, c, bs) := s1.openSession r.transport r.addr user authority nonce
      .next (s2.sendReply (r.reply 0x8001 0 c bs))

/-- A proof (R569): the first 32 bytes of HMAC-SHA-384 over a label, both nonces, the session number and the authority. -/
def State.proof (s : State) (x : Session) (label : List Nat) : List Byte :=
  (hmac (s.userKey x.user)
    (label.map (BitVec.ofNat 8) ++ x.clientNonce ++ x.serverNonce ++ le 2 x.number ++ le 1 x.authority)).take 32

/-- The label "NG8-OPEN". -/
def labelOpen : List Nat := [0x4E, 0x47, 0x38, 0x2D, 0x4F, 0x50, 0x45, 0x4E]
/-- The label "NG8-ACPT". -/
def labelAccept : List Nat := [0x4E, 0x47, 0x38, 0x2D, 0x41, 0x43, 0x50, 0x54]

/-- A failed proof noted: the fifth of a user within 60 s locks it out for 60 s (R569). -/
def State.proofFailed (s : State) (user : Nat) : State :=
  let recent := (s.host.failures.filter fun f => s.now < f.2 + 60 * secNs) ++ [(user, s.now)]
  let full : Bool := 5 ≤ (recent.filter fun f => f.1 = user).length
  let s1 : State :=
    { s with
      host.failures := if full then recent.filter fun f => f.1 ≠ user else recent
      host.lockouts := if full then s.host.lockouts ++ [(user, s.now + 60 * secNs)] else s.host.lockouts }
  s1.hostRaise 0x8004 [user, 0]

/-- Whether the user of a pending session is still known. -/
def State.userKnown (s : State) (user : Nat) : Bool := user = 0xFF || s.host.users.any fun u => u.number = user

/-- The pending session a SESSION_PROVE names; it has lapsed 5 s after it was offered (R567, R569). -/
def State.pendingSession? (s : State) (transport number : Nat) : Option Session :=
  s.host.sessions.find? fun x =>
    !x.isOpen && decide (x.number = number) && decide (x.transport = transport) && decide (s.now < x.startedAt + 5 * secNs)

/-- SESSION_PROVE (R567, R569). -/
def execSessionProve (r : Req) (proof : List Byte) (s : State) : Result :=
  let s := s.tick r.t
  if !s.heard r then .next s
  else
    let s := s.noteFrame r
    match s.pendingSession? r.transport r.session with
    | none => .next (s.sendRefusal r 0x8002 stSessionUnknown)
    | some x =>
      if proof.length ≠ 32 then .next (s.sendPlain r 0x8002 stBadLength [])
      else if proof = s.proof x labelOpen ∧ s.userKnown x.user = true then
        let s1 := s.onSession x.number fun y => { y with isOpen := true, lastPacket := s.now }
        let s2 := s1.hostRaise 0x8003 [x.user, x.authority, 1]
        .next { s2 with host.replies := s2.host.replies ++ [r.reply 0x8002 0 stOk (s.proof x labelAccept)] }
      else
        let s1 : State := { s with host.sessions := s.host.sessions.filter fun y => y.number ≠ x.number }
        .next ((s1.proofFailed x.user).sendPlain r 0x8002 stAuthFailed [])

/-- Control given up (R576). -/
def State.dropControl (s : State) (number : Nat) : State :=
  if s.host.holder = number ∧ number ≠ 0 then ({ s with host.holder := 0 }).hostRaise 0x8007 [number, 0] else s

/-- A session closed: its control, queue and stored replies go with it (R572). -/
def State.closeSession (s : State) (number : Nat) : State :=
  match s.host.sessions.find? fun x => x.number = number with
  | none => s
  | some x =>
    let s1 : State := { s.dropControl number with host.sessions := s.host.sessions.filter fun y => y.number ≠ number }
    if x.isOpen then s1.hostRaise 0x8003 [x.user, x.authority, 0] else s1

/-- A request of an open session whose effect follows its reply. -/
def State.requestThen (s : State) (code : Nat) (r : Req) (p : List Byte) (e : Effect) (after : State → State) : State :=
  let s1 := s.request code e r p
  if s1.host.replies.length = s.host.replies.length then s1
  else
    match s1.host.replies.getLast? with
    | some v => if v.status = 0 ∧ bit v.flags 2 = false ∧ v.session = r.session then after s1 else s1
    | none => s1

/-- An effect that only answers OK. -/
def effOk : Effect := fun s _ _ _ => answered s []

/-- SESSION_CLOSE: answered, then closed (R572). -/
def execSessionClose (r : Req) (p : List Byte) (s : State) : Result :=
  .next (s.requestThen 0x8003 r p effOk fun s => s.closeSession r.session)

/-- KEEPALIVE: every valid packet restarts the timeout (R572). -/
def execKeepalive (r : Req) (p : List Byte) (s : State) : Result := .next (s.request 0x8004 effOk r p)

/-- EVENT_SUBSCRIBE: a unit mask and a lowest severity (R590). -/
def execEventSubscribe (r : Req) (mask : BitVec 256) (minSeverity : Nat) (s : State) : Result :=
  let e : Effect := fun s r _ _ =>
    if 4 < minSeverity then refused s stBadValue
    else answered (s.onSession r.session fun y => { y with mask := mask, minSeverity := minSeverity }) []
  .next (s.request 0x8005 e r (le 32 mask.toNat ++ le 1 minSeverity))

/-- Events up to a sequence number acknowledged (R21, R592). -/
def Session.acknowledge (x : Session) (seq : Nat) : Session :=
  { x with window := x.window.filter fun v => !(v.seq = seq || seqLater 16 seq v.seq) }

/-- EVENT_ACK (R592). -/
def execEventAck (r : Req) (seq : Nat) (s : State) : Result :=
  let e : Effect := fun s r _ _ => answered ((s.onSession r.session fun y => y.acknowledge seq).pumpSessions) []
  .next (s.request 0x8006 e r (le 2 seq))

/-- An event given to one session whatever it subscribes to. -/
def State.tellOne (s : State) (number code : Nat) (args : List Nat) : State :=
  let e := s.ownEvent code args
  (s.onSession number fun x => if x.wants e then x else { x with queue := x.queue ++ [e] }).pumpSessions

/-- CONTROL_TAKE (R576): the previous holder receives event 0x8007. -/
def effControlTake : Effect := fun s r p _ =>
  let force := bit (field p 0 1) 0
  let old := s.host.holder
  if 1 < field p 0 1 ∨ field p 1 3 ≠ 0 then refused s stBadValue
  else if old = r.session then served s
  else if old ≠ 0 ∧ !force then refused s stConditions
  else
    let s1 : State := { s with host.holder := r.session }
    let s2 := if old = 0 then s1 else (s1.hostRaise 0x8007 [old, 0]).tellOne old 0x8007 [old, 0]
    served (s2.hostRaise 0x8007 [r.session, 1])

/-- CONTROL_RELEASE (R576): refused to a session that does not hold control. -/
def effControlRelease : Effect := fun s r _ _ =>
  if s.host.holder ≠ r.session then refused s stNotInControl else served (s.dropControl r.session)

/-- CONTROL_TAKE. -/
def execControlTake (r : Req) (p : List Byte) (s : State) : Result := .next (s.request 0x0200 effControlTake r p)

/-- CONTROL_RELEASE. -/
def execControlRelease (r : Req) (p : List Byte) (s : State) : Result := .next (s.request 0x0204 effControlRelease r p)

/-- The open and pending sessions of a user close (R695). -/
def State.closeUser (s : State) (user : Nat) : State :=
  ((s.host.sessions.filter fun x => x.user = user).map (·.number)).foldl State.closeSession s

/-- The key of a USER_SET, deciphered under the session key from the counter block of R695. -/
def State.userSetKey (s : State) (r : Req) (p : List Byte) : List Byte :=
  aesCtr (s.keyOf r.session) (le 2 r.session ++ le 2 r.tag.toNat ++ List.replicate 12 0) (slice p 4 32)

/-- USER_SET (R695): a user added, changed or deleted. -/
def effUserSet : Effect := fun s r p _ =>
  let user := field p 0 1
  let auth := field p 1 1
  let others := s.host.users.filter fun u => u.number ≠ user
  if p.length ≠ 36 then refused s stBadLength
  else if 15 < user ∨ (3 < auth ∧ auth ≠ 0xFF) ∨ 7 < field p 2 1 ∨ field p 3 1 ≠ 0 then refused s stBadValue
  else
    let u : User := { number := user, key := s.userSetKey r p, authority := auth, transports := field p 2 1 }
    served (({ s with host.users := if auth = 0xFF then others else others ++ [u] }).hostRaise 0xA105 [user])

/-- USER_SET; deleting a user closes its sessions once it is answered. -/
def execUserSet (r : Req) (p : List Byte) (s : State) : Result :=
  .next (s.requestThen 0xA102 r p effUserSet fun s => if field p 1 1 = 0xFF then s.closeUser (field p 0 1) else s)

/-- PENDING_SESSION_LAPSE: no SESSION_PROVE within 5 s (R569). -/
def execPendingSessionLapse (t number : Nat) (s : State) : Result :=
  let s := s.tick t
  .next { s with host.sessions := s.host.sessions.filter fun x =>
            x.isOpen || !decide (x.number = number) || !decide (x.startedAt + 5 * secNs ≤ s.now) }

/-- LOCKOUT_EXPIRY: 60 s have passed (R569). -/
def execLockoutExpiry (t user : Nat) (s : State) : Result :=
  let s := s.tick t
  .next { s with host.lockouts := s.host.lockouts.filter fun l => !(l.1 = user && decide (l.2 ≤ s.now)) }

/-- SESSION_TIMEOUT: no valid packet for the session timeout (R572). -/
def execSessionTimeout (t number : Nat) (s : State) : Result :=
  let s := s.tick t
  match s.sessionOf number with
  | none => .next s
  | some x => if x.lastPacket + s.paramN 0x80010007 * secNs ≤ s.now then .next (s.closeSession number) else .next s

/-- STORED_REPLY_EXPIRY: a reply is stored for 10 s (R571). -/
def execStoredReplyExpiry (t number : Nat) (tag : Half) (s : State) : Result :=
  let s := s.tick t
  .next (s.onSession number fun x =>
    { x with stored := x.stored.filter fun k => !(k.tag = tag && decide (k.at_ + 10 * secNs ≤ s.now)) })

/-- An event of a session's window that is not acknowledged within 1 s: sent again, or dropped after three times (R592). -/
def State.retransmit (s : State) (x : Session) (v : SentEvent) : State :=
  if v.sends < 4 then
    let v1 : SentEvent := { v with sends := v.sends + 1, sentAt := s.now }
    let s1 := s.onSession x.number fun y => { y with window := y.window.map fun w => if w.seq = v.seq then v1 else w }
    { s1 with host.eventsSent := s1.host.eventsSent ++ [(x.number, v1)] }
  else
    let s1 := s.onSession x.number fun y => { y with window := y.window.filter fun w => w.seq ≠ v.seq, gapNext := true }
    (s1.dropNotice x.number).pumpSessions

/-- EVENT_RETRANSMIT (R592). -/
def execEventRetransmit (t number seq : Nat) (s : State) : Result :=
  let s := s.tick t
  match s.sessionOf number with
  | none => .next s
  | some x =>
    match x.window.find? fun v => v.seq = seq with
    | none => .next s
    | some v => if v.sentAt + secNs ≤ s.now then .next (s.retransmit x v) else .next s

/-- The receiver's hunt goes on at the next sync bytes 0xD4 0x17, fuel at most (R563). -/
def huntSync : Nat → List Byte → List Byte
  | 0, _ => []
  | n + 1, bs =>
    match bs with
    | [] => []
    | b :: rest => if b = 0xD4#8 && (rest.isEmpty || rest.head? = some 0x17#8) then bs else huntSync n rest

/-- HSER_GAP_TIMEOUT: characters `rx` of a packet have come, the latest at `last`; a gap of more than 100 ms discards the packet
(R563). -/
def execHserGapTimeout (t last : Nat) (rx : List Byte) (s : State) : Result :=
  let s := s.tick t
  let bs := s.host.hserRx ++ rx
  if s.now ≤ last + 100 * msNs ∨ bs.isEmpty then .next { s with host.hserRx := huntSync bs.length bs }
  else .next ({ s with host.hserRx := [] }.count (ctrPacket 2 3))

/-- PRP_SUPERVISION: a supervision frame on OPN-A and OPN-B every 2 s (R562). -/
def execPrpSupervision (t : Nat) (s : State) : Result :=
  let s := s.tick t
  if s.hostUp && decide (s.host.lastSupervision + 2 * secNs ≤ s.now) then .next { s with host.lastSupervision := s.now }
  else .next s

/-- The packet of some bytes holds together (R567 step 1); a datagram is one packet. -/
def packetWhole (bytes : List Byte) : Bool :=
  let len := field bytes 6 2
  field bytes 0 2 = 0x17D4 && decide (len ≤ 8192) && decide (bytes.length = len + 20) &&
    decide (field bytes (16 + len) 4 = (crc32c (bytes.take (16 + len))).toNat)

/-- A packet discarded and counted; on HSER the hunt goes on behind the failed sync (R563, R567). -/
def State.discardPacket (s : State) (transport cause : Nat) (bytes : List Byte) : State :=
  let s1 := s.count (ctrPacket transport cause)
  if transport = 2 ∧ cause = 1 then { s1 with host.hserRx := huntSync bytes.length (bytes.drop 1) } else s1

/-- PACKET_CHECK_FAILURE: a received packet goes through steps 1 to 7 of R567; one that passes them is served by its own row. -/
def execPacketCheckFailure (t transport addr : Nat) (prp : Option PrpTrailer) (bytes : List Byte) (s : State) : Result :=
  let s := s.tick t
  let code := field bytes 4 2
  let session := field bytes 14 2
  let len := field bytes 6 2
  let r : Req :=
    { t := t, transport := transport, session := session, tag := BitVec.ofNat 16 (field bytes 8 2),
      mac := if bit (field bytes 3 1) 3 && decide (16 ≤ len) then some (slice bytes len 16) else none, addr := addr, prp := prp }
  if !s.heard r then .next s
  else if !packetWhole bytes then .next (s.discardPacket transport 1 bytes)
  else if field bytes 2 1 ≠ 1 then .next (s.sendRefusal r code stBadVersion)
  else if field bytes 3 1 &&& 0xC7 ≠ 0 then .next (s.discardPacket transport 2 bytes)
  else if session = 0 then
    if code = 0x0100 ∨ code = 0x8001 then .next s else .next (s.sendRefusal r code stSessionUnknown)
  else if code = 0x8002 then
    if (s.pendingSession? transport session).isSome then .next s
    else .next (s.sendRefusal r code stSessionUnknown)
  else
    match s.checkSession r code (bytes.take (len - 1)) with
    | .done s1 => .next s1
    | .refuse s1 c => .next (s1.sendReply (r.reply code 0 c []))
    | .pass s1 => if (opInfo? code).isSome then .next s else .next (s1.sendReply (r.reply code 0 stBadOpcode []))

end Sys2Proof.Machine
end

