-- ==== Sys2Proof/Machine/Power.lean ====
section
/-!
DEFINITION. Power inputs, the hold-up bank, the power-fail sequence and the orderly shutdown (R671 to R679).
-/

namespace Sys2Proof.Machine

/-- The state an input goes to at a voltage, in 10 mV, that has lasted for some ns (R671). -/
def InputState.at (x : InputState) (v lasted : Nat) : InputState :=
  if 3400 < v ∧ msNs ≤ lasted then .overvoltage
  else
    match x with
    | .ok => if v < 1600 ∧ 5 * msNs ≤ lasted then .failed else if v < 1800 ∧ 10 * msNs ≤ lasted then .low else .ok
    | .low => if v < 1600 ∧ 5 * msNs ≤ lasted then .failed else if 1850 ≤ v ∧ 100 * msNs ≤ lasted then .ok else .low
    | .failed => if 1800 ≤ v ∧ 20 * msNs ≤ lasted then .ok else .failed
    | .overvoltage => if v < 3300 ∧ 100 * msNs ≤ lasted then .ok else .overvoltage

/-- Code of an input state (R673). -/
def InputState.code : InputState → Nat
  | .ok => 0
  | .low => 1
  | .failed => 2
  | .overvoltage => 3

/-- An input at v, in 10 mV, that counts as below 16.0 V (R672). -/
def InputState.down (x : InputState) (v : Nat) : Bool := x = .overvoltage ∨ v < 1600

/-- Since when an input counts as below 16.0 V, given that its voltage has lasted for some ns. -/
def downSince (x : InputState) (v lasted now : Nat) (was : Option Nat) : Option Nat :=
  if x.down v then some (min (was.getD now) (now - lasted)) else none

/-- A held source takes effect at once; one released meanwhile is released (R660, R662). -/
def State.takeHeld (s : State) : State :=
  let hs := s.rst.held
  let s1 := hs.foldl (fun s h => s.actOn h.1) { s with rst.held := [] }
  hs.foldl (fun s h => if h.2 then s.dropSources [] fun x => x = h.1 else s) s1

/-- The sequence ends in recovery (R677). -/
def State.powerRecovered (s : State) : State :=
  let s1 : State :=
    { s with
      power.pfSince := none
      power.charger := true
      power.bank := if s.power.capFault || s.power.chargerFault then .fault else .charging
      recorder.powerFail := false }
  (s1.raise 0x9008 []).takeHeld

/-- POWER_INPUT_STATE: input 0 PWR-A, 1 PWR-B, at a voltage in 10 mV that has lasted for some ns (R671, R677). -/
def execPowerInputState (t input volts lasted : Nat) (s : State) : Result :=
  let s := s.tick t
  let old := if input = 0 then s.power.inA else s.power.inB
  let new := old.at volts lasted
  let s1 : State :=
    if input = 0 then
      { s with power.inA := new, power.voltsA := volts, power.downA := downSince new volts lasted s.now s.power.downA }
    else { s with power.inB := new, power.voltsB := volts, power.downB := downSince new volts lasted s.now s.power.downB }
  if 1 < input then .next s
  else if new = old then .next s1
  else
    let s2 := s1.raise 0x9006 [input, new.code]
    match s2.power.pfSince with
    | some t0 => if new = .ok ∧ s2.now < t0 + 200 * msNs then .next s2.powerRecovered else .next s2
    | none => .next s2

/-- POWER_FAIL_DECLARED: neither input has been at 16.0 V or more for 5 ms (R672, R676 step 1, R647, R698). -/
def execPowerFailDeclared (t : Nat) (s : State) : Result :=
  let s := s.tick t
  if s.power.pfSince.isSome ∨ s.rst.up = .off ∨ !s.since s.power.downA (5 * msNs) ∨ !s.since s.power.downB (5 * msNs) then .next s
  else
    let early : Bool := s.security.debugStep = 1 && decide (s.now < s.security.debugAt + 150 * msNs)
    let s1 : State :=
      { s.closeBoth 3 with
        power.pfSince := some s.now
        power.charger := false
        power.bank := .discharging
        recorder.powerFail := true
        rst.shutdownTime := s.taiNsTotal.toNat }
    let s2 := s1.elpLoss.raise 0x9007 []
    if early then
      .next ({ s2 with security.debugStep := 0, security.debugHandle := none }.finish? s2.security.debugHandle stCancelled [])
    else .next s2

/-- POWER_FAIL_OUTPUT_STOP: at 200 ms duty is released and every output goes off (R403, R472, R676 step 4). -/
def execPowerFailOutputStop (t : Nat) (s : State) : Result :=
  let s := s.tick t
  if !s.since s.power.pfSince (200 * msNs) ∨ s.power.pfStopped then .next s
  else
    let s1 := if s.peerEnabled && s.peer.duty = .duty then s.releaseDuty else s
    let s2 : State := { s1 with power.pfStopped := true, fio.inhibit := true }
    .next (s2.dioPass).aoPass

/-- POWER_FAIL_FINAL_YEALM: at 230 ms (R647 step 4). -/
def execPowerFailFinalYealm (t : Nat) (s : State) : Result :=
  let s := s.tick t
  if s.since s.power.pfSince (230 * msNs) then .next (s.closeYealm 0 3) else .next s

/-- Both parts of the secret store erased; UNPROVISIONED is set (R698). -/
def State.eraseStore (s : State) : State :=
  { s with
    security.keyHeld := false
    security.deviceKey := false
    security.unprovisioned := true
    host.users := [] }

/-- Sources held to the end are recorded and dropped (R662). -/
def State.dropHeld (s : State) : State :=
  s.rst.held.foldl (fun s h => s.keepEpisode { (s.newEpisode h.1).note h.1 with dropped := true }) { s with rst.held := [] }

/-- Shutdown: everything off and held until power good (R676 step 6, R678, R438). An erasure begun is completed (R698). -/
def State.shutdown (s : State) : State :=
  let s0 := if s.security.debugStep = 1 then s.eraseStore else s
  let s1 : State := { s0.dropHeld with rst.asserted := [] }
  let s2 := s1.endUnitEpisodes []
  let por : ResetSource := { bit := 0, level := 0, target := 0, island := 0xFF }
  let s3 := { s2 with rst.asserted := [por] }.noteGlobal por
  let s4 := s3.holdCold.clockRestart
  { s4 with
    toRecorder := []
    rst.up := .off
    rst.swr := none
    rst.pinStuck := false
    power.pfSince := none
    power.pfStopped := false
    power.charger := false
    recorder.powerFail := false
    fio.inhibit := false
    security.debugStep := 0 }

/-- ORDERLY_SHUTDOWN: at 250 ms (R676). -/
def execOrderlyShutdown (t : Nat) (s : State) : Result :=
  let s := s.tick t
  if s.since s.power.pfSince (250 * msNs) then .next s.shutdown else .next s

/-- BANK_REACHES_VBM: the bank falls to its lowest converter input during the sequence (R674, R676). -/
def execBankReachesVbm (t : Nat) (s : State) : Result :=
  let s := { s.tick t with power.bankVolts := 900 }
  if s.power.pfSince.isSome then .next s.shutdown else .next s

/-- BANK_READY: the bank is at VBR or more (R675). -/
def execBankReady (t volts : Nat) (s : State) : Result :=
  let s := { s.tick t with power.bankVolts := volts }
  if volts < 2600 ∨ !s.power.charger then .next s
  else .next { s with power.bank := if s.power.bank = .charging then .ready else s.power.bank }

/-- Usable energy at full charge of a capacitance in µF, in µJ: ½ C (27² − 9²) (R674). -/
def fullEnergy (uf : Nat) : Nat := uf * 324

/-- Usable energy of the bank at its present charge, in J (R673, R674). -/
def PowerUnit.energy (p : PowerUnit) : Nat := p.bankUf * (p.bankVolts ^ 2 - 810000) / (2 * 10 ^ 10)

/-- BANK_STATE FAULT: too small a capacity or a charger fault (R675). -/
def PowerUnit.faulty (p : PowerUnit) : Bool := p.capFault || p.chargerFault

/-- A change of FAULT: its event, and the state of the bank (R675). -/
def State.bankFault (s : State) (was : Bool) : State :=
  let now := s.power.faulty
  let st : BankState := if now then .fault else if was then .ready else s.power.bank
  { s with power.bank := st }.raiseIf (was ≠ now) 0x900A [b2n now]

/-- BANK_CAPACITY_TEST: discharge by 1.0 V from full charge; `charge`: the charge drawn in µC; `chargerOk`: no charger fault is
there any more (R675). -/
def execBankCapacityTest (t charge : Nat) (chargerOk : Bool) (s : State) : Result :=
  let s := s.tick t
  let due := s.power.testAt + s.paramN 0x90010004 * 3600 ≤ s.recorder.opSeconds.toNat
  if s.power.pfSince.isSome ∨ !(s.power.bank = .ready ∨ s.power.bank = .fault) ∨ !due then .next s
  else
    let e := fullEnergy charge
    let low : Bool := e < 24000000
    let s1 : State :=
      { s with
        power.testAt := s.recorder.opSeconds.toNat
        power.bankUf := charge
        power.bankCap := min 255 (e / 1000000)
        power.holdupLow := low
        power.capFault := e < 15500000
        power.chargerFault := !chargerOk && s.power.chargerFault }
    .next ((s1.raiseIf (low ≠ s.power.holdupLow) 0x9009 [b2n low]).bankFault s.power.faulty)

/-- CHARGER_FAULT (R675). -/
def execChargerFault (t : Nat) (s : State) : Result :=
  let s := s.tick t
  .next ({ s with power.chargerFault := true }.bankFault s.power.faulty)

/-- Code of BANK_STATE (R673). -/
def BankState.code : BankState → Nat
  | .charging => 0
  | .ready => 1
  | .discharging => 2
  | .fault => 3

/-- Parameter 0x9001_0001 (R673). -/
def State.powerStatus (s : State) : Nat :=
  let p := s.power
  p.inA.code + 16 * p.inB.code + 256 * p.bank.code + 2048 * b2n p.holdupLow + 4096 * b2n p.pfSince.isSome + 65536 * p.bankCap
    + 16777216 * min 255 p.energy

end Sys2Proof.Machine
end

