-- ==== Sys2Proof/Machine/Security.lean ====
section
/-!
DEFINITION. Memory march, debug access, tamper switch, random sources, new keys (R689, R694, R696 to R701).
-/

namespace Sys2Proof.Machine

/-- MEMORY_MARCH (R689): the open yealms close, and the march runs. -/
def effMemoryMarch : Effect := fun s _ _ h =>
  if s.memory.march.isSome then refused s stBusy
  else
    let s1 := s.closeBoth 4
    accepted { s1 with memory.march := some h }

/-- MEMORY_MARCH_COMPLETE: the result is stored and a Warm reset is ordered; `fail`: memory and address of the first failure (R689). -/
def execMemoryMarchComplete (t : Nat) (fail : Option (Nat × Nat)) (s : State) : Result :=
  let s := s.tick t
  if s.memory.march.isNone then .next s
  else
    let f := fail.getD (0xFF, 0)
    let s1 : State :=
      { s with
        memory.marchResult := if fail.isNone then 1 else 2
        memory.marchMem := f.1
        memory.marchAddr := f.2
        memory.marchTold := false
        memory.march := none
        rst.swr := some reachWarm }
    .next (s1.assertFrom .software false)

/-- An event recorded at once, with the freeze it may trigger (R642). -/
def State.recordEvent (s : State) (code : Nat) (payload : List Byte) : State :=
  let s1 := s.recordNow (s.makeEvent code 0 payload) true
  if s1.isIncident code then s1.freezeTrigger code else s1

/-- DEBUG_OPEN (R697, R698 steps 1 to 3): the open yealms close, and event 0xA102 goes into a yealm of its own. -/
def effDebugOpen : Effect := fun s _ p h =>
  if 1 ≤ s.security.debugStep ∧ s.security.debugStep ≤ 3 then refused s stBusy
  else if u32 p 0 ≠ s.rst.options.serial % 4294967296 then refused s stBadValue
  else
    let s1 := (s.closeBoth 4).recordEvent 0xA102 []
    accepted { s1 with security.debugStep := 1, security.debugAt := s.now, security.debugHandle := some h }

/-- DEBUG_ERASE_COMPLETE: step 4, which starts behind the 150 ms of step 3: both parts erased and read back as zero; when the read-back fails, what they still hold is open (R698). -/
def execDebugEraseComplete (t : Nat) (ok : Bool) (s : State) : Result :=
  let s := s.tick t
  if s.security.debugStep ≠ 1 ∨ s.now < s.security.debugAt + 150 * msNs then .next s
  else if ok then .next { s.eraseStore with security.debugStep := 2 }
  else
    let (kept, s1) := s.freeBool
    let s2 : State := if kept then s1 else s1.eraseStore
    .next <|
      { s2 with security.unprovisioned := true, security.debugStep := 0, security.debugHandle := none }.finish?
        s.security.debugHandle stDeviceFault []

/-- DEBUG_RESET_ASSERT: at 420 ms DBG is asserted at its fuse level (R698 step 5). -/
def execDebugResetAssert (t : Nat) (s : State) : Result :=
  let s := s.tick t
  if s.security.debugStep ≠ 2 ∨ s.now < s.security.debugAt + 420 * msNs then .next s
  else .next ({ s with security.debugStep := 3, security.debugHandle := none }.assertSource .debug)

/-- TAMPER_OPEN: the lid opened; `supplied`: the AON island has supply (R696). -/
def execTamperOpen (t : Nat) (supplied : Bool) (s : State) : Result :=
  let s := s.tick t
  if !supplied then .next s
  else
    let off : Bool := s.rst.up = .off
    .next { s with
      security.keyHeld := false
      security.deviceKey := false
      security.tamper := true
      security.tamperTold := false
      security.hostErase := off
      host.users := if off then s.host.users else [] }

/-- RANDOM_SOURCE_FAILURE: part 0 field, 1 host (R694). -/
def execRandomSourceFailure (t part : Nat) (s : State) : Result :=
  let s := s.tick t
  let s1 : State :=
    { s with
      security.fieldRandom := s.security.fieldRandom && decide (part ≠ 0)
      security.hostRandom := s.security.hostRandom && decide (part ≠ 1) }
  if 1 < part then .next s else .next (s1.raise 0xA106 [part])

/-- REPROVISION (R694, R701): accepted in MAINTENANCE. -/
def effReprovision : Effect := fun s _ _ h =>
  if s.mode ≠ .maintenance then refused s stNotInStandby
  else if !s.security.fieldRandom then refused s stDeviceFault
  else if s.security.reprovision.isSome then refused s stBusy
  else accepted { s with security.reprovision := some h }

/-- The end of a REPROVISION: the open yealms signed with the old key, new keys, flags cleared (R701). -/
def State.reprovisioned (s : State) (h : Nat) : State :=
  let s1 := if s.security.keyHeld then s.closeBoth 4 else s
  let key := s.security.keyId + 1
  let was := s.security.unprovisioned
  let s2 : State :=
    { s1 with
      security.keyHeld := true
      security.keyId := key
      security.deviceKey := true
      security.unprovisioned := false
      security.tamper := false
      security.reprovision := none }
  (s2.record 0xA104 0 (le 4 key ++ be 65 (Config.publicKey key).toNat)).finish h stOk (le 4 key ++ le 4 (b2n was))

end Sys2Proof.Machine
end

