-- ==== Sys2Proof/Machine/HostOps.lean ====
section
/-!
DEFINITION. Effects of opcodes: identity and status, parameters, counters, handles, bulk data (R19, R20, R575, R580 to R586,
R594 to R596).
-/

namespace Sys2Proof.Machine

/-- PART of IDENTIFY: "NG8-4800-M" (R580). -/
def partName : List Byte := [0x4E, 0x47, 0x38, 0x2D, 0x34, 0x38, 0x30, 0x30, 0x2D, 0x4D].map (BitVec.ofNat 8)

/-- The first n bytes, filled up with zeros. -/
def fit (n : Nat) (bs : List Byte) : List Byte := (bs ++ List.replicate n 0).take n

/-- The IDENTIFY reply on a transport (R574, R580). -/
def State.identity (s : State) (transport : Nat) : List Byte :=
  let tai := ((s.now : Int) + s.time.host.offset).toNat
  fit 16 partName ++ le 8 s.rst.options.serial ++ le 8 (s.config.firmware.running.getD 0 0)
    ++ le 8 (s.config.firmware.running.getD 1 0) ++ le 2 1 ++ le 1 s.rst.bringup ++ le 1 (if transport = 0 then 7 else 15)
    ++ le 6 (tai / secNs) ++ le 4 (tai % secNs) ++ le 2 s.hostTimeStatus.toNat ++ le 4 s.recorder.opSeconds.toNat
    ++ le 4 s.recorder.powerCycles.toNat ++ fit 32 Config.moduleName

/-- IDENTIFY (R580). -/
def effIdentify : Effect := fun s r _ _ => answered s (s.identity r.transport)

/-- PENDING of STATUS (R581). -/
def State.pendingBits (s : State) : Nat :=
  b2n s.config.commit.isSome + 2 * b2n s.ridge.rejoin.isSome + 4 * b2n (s.calibrating || s.busyWith [0x3104])

/-- The STATUS reply (R581); before the first released record its fields are 0. -/
def State.statusBytes (s : State) : List Byte :=
  let get (f : LaneRecord → Nat) : Nat := (s.out.record.map f).getD 0
  let int (f : LaneRecord → Int) : Int := (s.out.record.map f).getD 0
  let e := s.core.engine
  le 4 (get fun r => r.frame.toNat) ++ le 1 ((s.out.record.map (·.mode)).getD s.mode.code) ++ le 1 s.ridge.health.code
    ++ le 1 s.peer.duty.code ++ le 1 (b2n s.laneA.excluded + 2 * b2n s.laneB.excluded) ++ le 4 (get fun r => r.alarms.toNat)
    ++ le 2 s.host.holder ++ le 2 s.timeStatus.toNat ++ le 4 s.config.active.generation.toNat ++ le 1 s.pendingBits
    ++ le 1 s.safety.su.code ++ le 1 s.safety.permitsByte ++ le 1 0
    ++ leInt 4 (int fun r => r.tau.1) ++ leInt 4 (int fun r => r.tau.2.1) ++ leInt 4 (int fun r => r.tau.2.2)
    ++ leInt 4 (int fun r => r.setpoint.1) ++ leInt 4 (int fun r => r.setpoint.2.1) ++ le 4 (get fun r => r.setpoint.2.2)
    ++ leInt 4 (e.int 0x1306) ++ leInt 4 (e.int 0x1307) ++ le 4 (e.word 0x1308).toNat ++ le 4 (get fun r => r.nsw.toNat)

/-- STATUS (R581). -/
def effStatus : Effect := fun s _ _ _ => answered s s.statusBytes

/-- A status item with W1C or RC bits: table 0x05 of units 0x30 and 0x31, table 0x08 of unit 0x40 (R482, R498, R545). -/
def State.statusItem? (s : State) (id : Nat) : Option Nat :=
  let k := id % 65536
  if id / 65536 = 0x3005 then (if k = 0 ∨ 32 < k then none else some (s.dioStatus k))
  else if id / 65536 = 0x3105 then (s.input? k).map fun _ => s.inputStatus k
  else if id / 65536 = 0x4008 then (if k = 0 ∨ 6 < k then none else some (s.busStatus k))
  else none

/-- The value of a read-only item that a unit forms (R650, R658, R673, R711). -/
def State.unitItem? (s : State) (id : Nat) : Option Nat :=
  if id = 0x01010002 then some (s.baseTemp % 4294967296).toNat
  else if id = 0x60050001 then some s.recorderStatus
  else if id = 0x90010001 then some s.powerStatus
  else if id = 0x90010002 then some (s.power.voltsA % 65536 + 65536 * (s.power.voltsB % 65536))
  else if id = 0x90010003 then some (s.power.bankVolts % 65536)
  else if id = 0x90020001 then some (s.rst.fuses % 4294967296)
  else if id = 0x90020002 then some (s.rst.fuses / 4294967296 % 4294967296)
  else none

/-- The value a PARAM_READ returns for an ID; none for an unknown one (R582). -/
def State.readItem (s : State) (id : Nat) : Option Nat :=
  match s.statusItem? id, s.unitItem? id, paramDesc id with
  | some v, _, _ => some v
  | none, some v, _ => some v
  | none, none, some _ => some (s.paramN id)
  | none, none, none => none

/-- What a read clears: the LEC of a bus (R17, R545). -/
def State.readClear (s : State) (id : Nat) : State :=
  if id / 65536 = 0x4008 then s.onBus (id % 65536) fun k => { k with lec := 0 } else s

/-- Several items read in order: entries of ID and value; none when an ID is unknown. -/
def State.readItems (s : State) : List Nat → Option (State × List Byte)
  | [] => some (s, [])
  | id :: rest =>
    match s.readItem id with
    | none => none
    | some v =>
      match (s.readClear id).readItems rest with
      | none => none
      | some (s1, bs) => some (s1, le 4 id ++ le 4 v ++ bs)

/-- The consecutive 32-bit words of some bytes. -/
def wordsOf (p : List Byte) : List Nat := (List.range (p.length / 4)).map fun k => field p (4 * k) 4

/-- The payload of a PARAM_READ of some IDs: their count (2), 2 reserved, the IDs, as R583 lays out a COUNTER_READ. -/
def paramReadPayload (ids : List Nat) : List Byte := le 2 ids.length ++ le 2 0 ++ ids.flatMap (le 4)

/-- PARAM_READ: a count and IDs in, entries of ID and value out (R582). -/
def effParamRead : Effect := fun s _ p _ =>
  let n := field p 0 2
  let ids := wordsOf (p.drop 4)
  if p.length ≠ 4 + 4 * n then refused s stBadLength
  else if n = 0 ∨ 255 < n ∨ field p 2 2 ≠ 0 then refused s stBadValue
  else
    match s.readItems ids with
    | none => refused s stBadId
    | some (s1, bs) => answered s1 bs

/-- The parameters an OPERATOR in control may write (R575). -/
def operatorParams : List Nat :=
  [0x20010001, 0x2001000A, 0x0201000E, 0x0201000F, 0x21010009] ++ (List.range 9).map (0x02010001 + ·)

/-- The authority a write of an item needs (R468, R575). -/
def writeAuthority (id : Nat) : Nat := if operatorParams.contains id ∨ id / 65536 = 0x3005 then 1 else 2

/-- Whether the value of an entry may be written: its range and encoding (R582). -/
def valueOk (id : Nat) (v : Word) : Bool :=
  match paramDesc id with
  | none => true
  | some d => d.range.admits v

/-- Whether an item is read-only. -/
def itemReadOnly (id : Nat) : Bool :=
  match paramDesc id with
  | none => false
  | some d => d.range = .readOnly

/-- Whether an item is RWS. -/
def itemStandbyOnly (id : Nat) : Bool :=
  match paramDesc id with
  | none => false
  | some d => d.standbyOnly

/-- The checks of one entry of a PARAM_WRITE, in the order of R582, then the refusal of R400. -/
def State.entryStatus (s : State) (r : Req) (e : Nat × Word) : Nat :=
  if (s.readItem e.1).isNone then stBadId
  else if s.authority r < writeAuthority e.1 then stAuthorityLow
  else if operatorParams.contains e.1 && decide (s.host.holder ≠ r.session) then stNotInControl
  else if itemReadOnly e.1 then stReadOnly
  else if !valueOk e.1 e.2 then stBadValue
  else if itemStandbyOnly e.1 && !s.quiet then stNotInStandby
  else if e.1 = 0x2001000A ∧ s.peer.duty = .twin then stNotDuty
  else stOk

/-- The first entry that fails a check of its own. -/
def State.firstFailure (s : State) (r : Req) (es : List (Nat × Word)) : Option (Nat × Nat) :=
  (es.map fun e => (e.1, s.entryStatus r e)).find? fun x => x.2 ≠ stOk

/-- W1C bits written 1: cleared, but for those the hardware sets in the same cycle (R17, R18). -/
def State.writeClear (s : State) (id mask setNow : Nat) : State :=
  let keep (old : Bool) (b : Nat) : Bool := (old && !bit mask b) || bit setNow b
  let k := id % 65536
  if id / 65536 = 0x3005 then s.clearChannel k mask setNow
  else if id / 65536 = 0x3105 then s.onInput k fun (x : AnalogIn) => { x with calFail := keep x.calFail 5 }
  else if id / 65536 = 0x4008 then
    s.onBus k fun c =>
      { c with
        protExc := keep c.protExc 11
        overrun := keep c.overrun 10
        txFull := keep c.txFull 9 }
  else s

/-- A PARAM_WRITE refused: the reply names the failing ID (R582). -/
def refusedAt (s : State) (status id : Nat) : Served :=
  { state := s, status := status, payload := le 4 id, stamp := false }

/-- The entries of a PARAM_WRITE: ID and value (R582). -/
def entriesOf (p : List Byte) : List (Nat × Word) :=
  (List.range (p.length / 8)).map fun k => (field p (8 * k) 4, BitVec.ofNat 32 (field p (8 * k + 4) 4))

/-- PARAM_WRITE: all entries or none (R582). `present`: for a status item, the bits whose condition stands or sets in this
cycle. -/
def effParamWrite (present : List (Nat × Nat)) : Effect := fun s r p _ =>
  let es := entriesOf p
  let ps := es.filter fun e => (paramDesc e.1).isSome
  if p.length % 8 ≠ 0 then refused s stBadLength
  else if es.isEmpty ∨ 255 < es.length then refused s stBadValue
  else
    match s.firstFailure r es, s.crossFailure ps with
    | some (id, c), _ => refusedAt s c id
    | none, some id => refusedAt s stBadValue id
    | none, none =>
      let s1 := (es.filter fun e => (paramDesc e.1).isNone).foldl
        (fun s e => s.writeClear e.1 e.2.toNat ((assoc present e.1).getD 0)) s
      answered (s1.setParams ps) (le 4 0)

/-- The unit codes of R26. -/
def counterUnits : List Nat :=
  [0x01, 0x02, 0x10, 0x11, 0x12, 0x20, 0x21, 0x22, 0x30, 0x31, 0x32, 0x33, 0x40, 0x41, 0x50, 0x60, 0x70, 0x71, 0x80, 0x90, 0xA0,
    0xA1]

/-- A counter ID of the layout of R27 that names a counter of this model. -/
def counterKnown (id : Nat) : Bool := counterUnits.contains (id / 16777216) && decide (0xF0 ≤ id / 65536 % 256)

/-- COUNTER_READ and COUNTER_READ_CLEAR (R19, R20, R583). -/
def effCounterRead (clear : Bool) : Effect := fun s _ p _ =>
  let n := field p 0 2
  let ids := wordsOf (p.drop 4)
  if p.length ≠ 4 + 4 * n then refused s stBadLength
  else if n = 0 ∨ 255 < n ∨ field p 2 2 ≠ 0 then refused s stBadValue
  else if ids.any fun id => !counterKnown id then refused s stBadId
  else
    let bs := ids.flatMap fun id => le 4 id ++ le 4 (s.counter id).value.toNat ++ le 4 (b2n (s.counter id).overflow)
    let s1 : State := { s with counters := s.counters.filter fun c => !ids.contains c.1 }
    answered (if clear then s1 else s) bs

/-- The handle a query, acknowledgement or cancel names, or the status that refuses it (R584, R585, R588). -/
def State.namedHandle (s : State) (r : Req) (p : List Byte) : Except Nat HandleRec :=
  if field p 2 2 ≠ 0 then .error stBadValue
  else
    match s.handle? (field p 0 2) with
    | none => .error stResultExpired
    | some h => if h.user = s.userOf r then .ok h else .error stBadHandle

/-- A result read or given up, with a transfer that has been read to its end. -/
def State.dropHandle (s : State) (n : Nat) : State :=
  { s with
    host.handles := s.host.handles.filter fun h => h.number ≠ n
    host.bulks := s.host.bulks.filter fun b => !(decide (b.handle = n) && b.finished) }

/-- Code of a stage (R585). -/
def HandleStage.code : HandleStage → Nat
  | .pending => 1
  | .running => 2
  | .complete => 3

/-- HANDLE_QUERY (R584, R585): a query that returns the result marks it read. -/
def effHandleQuery : Effect := fun s r p _ =>
  match s.namedHandle r p with
  | .error c => refused s c
  | .ok h =>
    let bs := le 1 h.stage.code ++ le 1 h.progress ++ le 2 h.opcode ++ le 2 h.final ++ le 2 h.result.length ++ h.result
    answered (if h.stage = .complete then s.dropHandle h.number else s) bs

/-- HANDLE_ACK (R584). -/
def effHandleAck : Effect := fun s r p _ =>
  match s.namedHandle r p with
  | .error c => refused s c
  | .ok h => if h.stage = .complete then served (s.dropHandle h.number) else refused s stConditions

/-- A running operation of R586 stopped; none when its kind cannot be. -/
def State.cancelled (s : State) (h : HandleRec) : Option State :=
  let n := h.number
  if h.opcode = 0x0134 then some (s.closeBulk n)
  else if h.opcode = 0x6001 then
    some ({ s with recorder.exports := s.recorder.exports.filter fun x => x.1 ≠ n }.closeBulk n)
  else if h.opcode = 0xA001 then some { s with memory.march := none }
  else if h.opcode = 0x7004 then some { s with ridge.fullTest := none }
  else if h.opcode = 0x4001 then
    some ((List.range 6).foldl (fun s i =>
      s.onBus (i + 1) fun k => if k.detectHandle = some n then { k with rate := .programmed, detectHandle := none } else k) s)
  else none

/-- HANDLE_CANCEL (R586). -/
def effHandleCancel : Effect := fun s r p _ =>
  match s.namedHandle r p with
  | .error c => refused s c
  | .ok h =>
    if h.stage = .complete then served s
    else
      match s.cancelled h with
      | none => refused s stNotCancellable
      | some s1 => served (s1.finish h.number stCancelled [])

/-- The transfer of a handle and direction that a request may use, or the status that refuses it. -/
def State.namedBulk (s : State) (r : Req) (n : Nat) (toHost : Bool) : Except Nat Bulk :=
  let foreign : Bool := (s.handle? n).any fun h => decide (h.user ≠ s.userOf r)
  match s.bulk? n with
  | none => .error (if foreign || (s.handle? n).isNone then stBadHandle else stBulkAbandoned)
  | some b => if foreign then .error stBadHandle else if b.toHost = toHost then .ok b else .error stBulkAbandoned

/-- Data below an offset freed; a transfer read to its end makes room for a waiting one (R594, R596). -/
def State.pulled (s : State) (b : Bulk) (offset : Nat) (last : Bool) : State :=
  let s1 := s.onBulk b.handle fun (x : Bulk) =>
    { x with
      base := offset
      data := x.data.drop (offset - x.base)
      running := x.running && !last
      finished := x.finished || last
      lastAccess := s.now }
  if last then s1.startWaiting true else s1.sendBulk

/-- BULK_READ of the transfer of a handle (R594): what has crossed; at most 8164 bytes fit the reply. -/
def effBulkRead (handle : Nat) : Effect := fun s r p _ =>
  let offset := field p 0 8
  match s.namedBulk r handle true with
  | .error c => refused s c
  | .ok b =>
    if offset < b.base ∨ b.end_ < offset then refused s stBadValue
    else
      let waiting : Bool := !b.running && !b.finished
      let n := if waiting then 0 else min (min (field p 8 2) 8164) (b.sent - offset)
      let last : Bool := !waiting && decide (offset + n = b.end_)
      answered (s.pulled b offset last)
        (le 8 offset ++ le 2 n ++ le 1 (b2n last) ++ le 1 0 ++ (b.data.drop (offset - b.base)).take n)

/-- BULK_WRITE to the transfer of a handle (R595, R596): the data waits in the host side's Bulk buffer, of which a transfer takes 4 MiB at
most, and goes on in chunks. -/
def effBulkWrite (handle : Nat) : Effect := fun s r p _ =>
  let n := field p 8 2
  if p.length ≠ 12 + n then refused s stBadLength
  else if 8164 < n ∨ field p 10 2 ≠ 0 then refused s stBadValue
  else
    match s.namedBulk r handle false with
    | .error c => refused s c
    | .ok b =>
      if field p 0 8 ≠ b.end_ then refused s stBadValue
      else if 4194304 < b.buffered + n then refused s stBusy
      else
        answered (s.onBulk handle fun (x : Bulk) => { x with data := x.data ++ p.drop 12, lastAccess := s.now }).sendBulk []

/-- A transfer abandoned (R594): its buffer freed, its handle completed, its piece or export dropped. -/
def State.abandonBulk (s : State) (n : Nat) : State :=
  let s1 : State :=
    { s with
      recorder.exports := s.recorder.exports.filter fun x => x.1 ≠ n
      config.staged := s.config.staged.map fun (g : Staged) => { g with pieces := g.pieces.filter fun x => x.handle ≠ n } }
  (((s1.closeBulk n).finish n stBulkAbandoned []).count ctrBulkAbandoned).hostRaise 0x8009 [n]

/-- BULK_WINDOW_EXPIRY: no BULK_READ of unread data, or no BULK_WRITE, for the bulk window (R594, R595). -/
def execBulkWindowExpiry (t n : Nat) (s : State) : Result :=
  let s := s.tick t
  match s.bulk? n with
  | none => .next s
  | some b =>
    let idle : Bool := b.lastAccess + s.paramN 0x80010008 * secNs ≤ s.now && (!b.toHost || !b.data.isEmpty)
    .next (if idle && b.running && !b.finished then s.abandonBulk n else s)

/-- RESULT_EXPIRY: a result not read within 10 min is discarded (R584). -/
def execResultExpiry (t n : Nat) (s : State) : Result :=
  let s := s.tick t
  match s.handle? n with
  | none => .next s
  | some h =>
    if h.stage = .complete ∧ h.completedAt + 600 * secNs ≤ s.now then .next ((s.dropHandle n).hostRaise 0x8008 [n]) else .next s

/-- FIELD_TIMEOUT: no answer of the field side within 2P + 100 ms (R588); its credit returns. -/
def execFieldTimeout (t session : Nat) (tag : Half) (s : State) : Result :=
  let s := s.tick t
  let it (x : Nat) (y : Half) : Bool := decide (x = session) && decide (y = tag)
  let late := s.eaves.inField.filter fun c =>
    it c.session c.tag && decide (c.at_ + 2 * s.frame.period * msNs + 100 * msNs ≤ s.now)
  if late.isEmpty then .next s
  else
    let credit := late.foldl (fun n c => n + c.replyCredits) 0
    let s1 : State :=
      { s with
        eaves.inField := s.eaves.inField.filter fun c => !it c.session c.tag
        eaves.reply.credits := s.eaves.reply.credits + credit
        eaves.granted := s.eaves.granted - credit
        host.frameReplies := s.host.frameReplies.filter fun v => !it v.reply.session v.reply.tag }
    .next (late.foldl (fun s c => s.answerForwarded stTimeout c) s1)

end Sys2Proof.Machine
end

