-- ==== Sys2Proof/Machine/HostModes.lean ====
section
/-!
DEFINITION. Effects of the operational opcodes: modes and set-points, references, actuators, GNSS, time, and the status reads
of the lanes' parts (R118, R122, R134, R157, R163, R165, R180, R183, R191, R224, R227, R293, R298, R301, R346, R350, R362).
-/

namespace Sys2Proof.Machine

/-- Whether FOLLOW-TARGET names a TRACKING track (R222, R293). -/
def Core.trackOk (c : Core) (n : Nat) : Bool := (c.fusion.targets[n]?).any fun x => decide (x.st = 2) && x.track.isSome

/-- Whether TRACK may be entered: a route of two waypoints and a contributing GNSS reference (R293). -/
def State.routeOk (s : State) : Bool :=
  decide (2 ≤ s.config.active.route.length) && geoContributes s.config.active s.core.fusion

/-- The sensors a mode needs contribute (R293). -/
def State.sensorsFor (s : State) (m : Mode) (track : Nat) : Bool :=
  let c := s.core
  let b := s.config.active
  let hdg := !(contributors b c.fusion 16 4).isEmpty
  let pos := !(contributors b c.fusion 0 16).isEmpty
  match m with
  | .autoHeading => hdg
  | .autoPosition => hdg && pos
  | .followTarget => hdg && pos && c.trackOk track
  | .track => hdg && pos && s.routeOk
  | _ => true

/-- The refusal of a mode command that is a change, by the list of R293 and R622; 0 for none. The design period must equal P, also where a
new period has been written and takes effect at a strobe to come (R73, R74). -/
def State.modeListStatus (s : State) (m : Mode) (track : Nat) : Nat :=
  let old := s.mode
  let pending : Bool :=
    match s.config.commit, s.config.staged with
    | some c, some g => !c.swapped && s.standbyChange g
    | _, _ => false
  if m = .maintenance ∧ old ≠ .standby then stConditions
  else if old = .maintenance ∧ m ≠ .standby then stConditions
  else if m.isDp then
    if s.ridge.health = .hold ∨ s.ridge.health = .failed then stHealthState
    else if pending then stCommitPending
    else if designPeriod s.config.active.programs ≠ some s.frame.period
        ∨ s.paramN 0x01010001 ≠ s.frame.period then stConditions
    else if !s.sensorsFor m track then stConditions
    else stOk
  else stOk

/-- The refusal of a mode command while the bring-up keeps the module in MAINTENANCE (R665, R666, R692, R700); 0 for none. -/
def State.bringupStatus (s : State) (r : Req) (m : Mode) : Nat :=
  if s.rst.bringup = 1 then stConditions
  else if s.mode = .maintenance ∧ m ≠ .maintenance then
    if s.security.unprovisioned ∨ s.rst.bootFailed.contains 1 then stConditions
    else if s.rst.bringup = 2 ∧ s.authority r < 3 then stAuthorityLow
    else stOk
  else stOk

/-- The encoding of a MODE_SET payload (R583). -/
def modeEncodingOk (p : List Byte) : Bool :=
  let m := field p 0 1
  let f := field p 1 1
  let track := field p 2 1
  decide (m ≤ 6) && decide (bits f 6 2 = 0) && decide (field p 3 5 = 0) && (!bit f 7 || m = 4)
    && (if m = 4 then decide (track ≤ 7) else decide (track = 0xFF))

/-- The mode changed, with what follows for the forces of R473 and for a reset storm (R666). -/
def State.enterMode (s : State) (m : Mode) (track off hdg : Nat) : State :=
  let leaves : Bool := s.mode = .maintenance && m ≠ .maintenance
  let s1 := s.laneCommand (.mode m track off hdg)
  if leaves then
    let s2 := s1.unforce
    if s2.rst.bringup = 2 then { s2 with rst.bringup := 0, rst.starts := [] } else s2
  else s1

/-- MODE_SET (R293, R299, R400, R583). -/
def effModeSet : Effect := fun s r p _ =>
  let f := field p 1 1
  let track := field p 2 1
  match Mode.ofCode (field p 0 1) with
  | none => refused s stBadValue
  | some m =>
    let again : Bool := m = .followTarget && (bit f 7 || decide (track ≠ s.core.ctl.follow))
    let off := if bit f 7 then b2n (bit f 0) else s.paramN 0x0201000E
    let hdg := if bit f 7 then b2n (bit f 1) else s.paramN 0x0201000F
    if !modeEncodingOk p then refused s stBadValue
    else if s.peer.duty = .twin then refused s stNotDuty
    else if s.bringupStatus r m ≠ stOk then refused s (s.bringupStatus r m)
    else if m = s.mode ∧ again = false then served s
    else if s.modeListStatus m track ≠ stOk then refused s (s.modeListStatus m track)
    else served (s.enterMode m track off hdg)

/-- SETPOINT_SET (R298, R400, R583). -/
def effSetpointSet : Effect := fun s _ p _ =>
  let kind := field p 0 1
  let axes := field p 1 1
  let hdg : Int := if kind = 1 then fieldInt p 12 4 else field p 12 4
  if 1 < kind ∨ 7 < axes ∨ field p 2 2 ≠ 0 ∨ field p 16 4 ≠ 0 then refused s stBadValue
  else if s.peer.duty = .twin then refused s stNotDuty
  else if s.mode = .track then refused s stConditions
  else served (s.laneCommand (.setpoint (kind = 1) axes (fieldInt p 4 4) (fieldInt p 8 4) hdg))

/-- TRACK_CONTINUE (R301, R400). -/
def effTrackContinue : Effect := fun s _ _ _ =>
  if s.peer.duty = .twin then refused s stNotDuty
  else if s.mode ≠ .track ∨ s.core.ctl.held ≠ .stop then refused s stConditions
  else served (s.laneCommand .trackContinue)

/-- A reference command: its number, and the condition its state meets (R227). -/
def effRef (ok : RefState → Bool) (cmd : Nat → LaneCmd) : Effect := fun s _ p _ =>
  let i := field p 0 1
  if 25 < i ∨ field p 1 3 ≠ 0 then refused s stBadValue
  else if (s.config.active.ref? i).isNone ∨ ok (s.core.fusion.refs.getD i .reset) = false then refused s stConditions
  else served (s.laneCommand (cmd i))

/-- REF_SELECT: for a DESELECTED reference. -/
def effRefSelect : Effect := effRef (fun r => r.code = 5) .refSelect
/-- REF_DESELECT: for a reference that is not DESELECTED. -/
def effRefDeselect : Effect := effRef (fun r => r.code ≠ 5) .refDeselect
/-- REF_REACCEPT: for a REJECTED reference. -/
def effRefReaccept : Effect := effRef (fun r => r.code = 3) .refReaccept

/-- ACT_DISABLE and ACT_ENABLE (R350). -/
def effAct (cmd : Nat → LaneCmd) : Effect := fun s _ p _ =>
  if 23 < field p 0 1 ∨ field p 1 3 ≠ 0 then refused s stBadValue else served (s.laneCommand (cmd (field p 0 1)))

/-- REF_STATUS: the fusion part of the latest released record, which holds the state of every reference (R203, R224). -/
def effRefStatus : Effect := fun s _ _ _ =>
  let f : FusionRec := (s.out.record.map LaneRecord.fusion).getD .zero
  answered s f.bytes

/-- ALLOC_STATUS: the allocation part of the latest released record (R346). -/
def effAllocStatus : Effect := fun s _ _ _ =>
  let a : AllocRec := (s.out.record.map LaneRecord.alloc).getD .zero
  answered s a.bytes

/-- CASE_STATUS: the latest result record of every case, in case order (R362). -/
def effCaseStatus : Effect := fun s _ _ _ =>
  answered s (s.core.cases.cases.flatMap fun h => h.result.bytes)

/-- GNSS_STATUS: the navigation sample and the antenna statuses of the latest epoch (R134, R135). -/
def effGnssStatus : Effect := fun s _ _ _ => answered s (s.gnss.lastNav ++ s.gnss.lastAnt.flatten)

/-- TIME_STATUS: time status and uncertainty (R163, R165). -/
def effTimeStatus : Effect := fun s _ _ _ => answered s (le 2 s.timeStatus.toNat ++ le 2 0 ++ le 4 s.uncertainty)

/-- The exclusion entry of a satellite. -/
def excludedEntry (v : Nat × Nat) : List Byte := le 1 v.1 ++ le 1 v.2 ++ le 2 0

/-- The exclusion list of a bank replaced (R118). -/
def Bank.setExcluded (b : Bank) (vs : List (Nat × Nat)) : Bank :=
  b.setTable 0x11 0x05 (vs.zipIdx.map fun p => (p.2, excludedEntry p.1))

/-- The exclusion list after a command: 0 add, 1 remove, 2 clear. -/
def excludedAfter (vs : List (Nat × Nat)) (action : Nat) (v : Nat × Nat) : List (Nat × Nat) :=
  if action = 2 then []
  else if action = 1 then vs.filter fun x => x ≠ v
  else if vs.contains v ∨ 32 ≤ vs.length then vs
  else vs ++ [v]

/-- GNSS_EXCLUDE: at once, in both banks (R118, R583, R609). -/
def effGnssExclude : Effect := fun s _ p _ =>
  let action := field p 0 1
  let v := (field p 1 1, field p 2 1)
  let vs := s.gnss.excluded
  let bank (b : Bank) : Bank := b.setExcluded (excludedAfter b.excludedSats action v)
  if 2 < action ∨ field p 3 1 ≠ 0 ∨ (action ≠ 2 ∧ svidValid v.1 v.2 = false) then refused s stBadValue
  else if action = 0 ∧ vs.contains v = false ∧ 32 ≤ vs.length then refused s stConditions
  else
    served
      { s with
        gnss.excluded := excludedAfter vs action v
        config.active := bank s.config.active
        config.stagedBank := bank s.config.stagedBank }.syncBanks

/-- Another operation of the opcode is outstanding beside the one just issued. -/
def State.alsoRunning (s : State) (code h : Nat) : Bool :=
  s.host.handles.any fun k => k.outstanding && decide (k.opcode = code) && decide (k.number ≠ h)

/-- GNSS_RF_TEST: tracking is suspended for up to 3 s (R157). -/
def effGnssRfTest : Effect := fun s _ _ h =>
  if s.gnss.rfTest.isSome then refused s stBusy
  else accepted { s with gnss.rfTest := some h }

/-- GNSS_RF_TEST_COMPLETE: the result of the limits checked; the report is the processor's. Tracking resumes; the carrier phases were
interrupted (R126, R157). -/
def execGnssRfTestComplete (t : Nat) (passed : Bool) (report : List Byte) (s : State) : Result :=
  let s := s.tick t
  match s.gnss.rfTest with
  | none => .next s
  | some h =>
    let resume (c : Channel) : Channel := if c.locked then { c with slip := true, lockStart := s.now, cycles := none } else c
    let s1 : State := { s with gnss.rfTest := none, gnss.channels := s.gnss.channels.map resume }
    .next (s1.finish h (if passed then stOk else stTestFailed) (report.take 240))

/-- ASSIST_SAVE (R122). -/
def effAssistSave : Effect := fun s _ _ h => if s.alsoRunning 0x1103 h then refused s stBusy else accepted s

/-- STEP_CONFIRM: for an announced step (R180). One sent before the two pulses counts too (DESIGN CHOICE, log 19). -/
def effStepConfirm : Effect := fun s _ _ _ =>
  match s.time.pending with
  | none => refused s stConditions
  | some p =>
    if p.announced then served { s with time.pending := some { p with confirmed := true } } else refused s stConditions

/-- The error of module time against a set value, 0.1 ns. -/
def State.errorAgainst (s : State) (sec ns : Nat) : Int :=
  ((s.now : Int) * 4294967296 + s.time.offset) * 10 / 4294967296 - (((sec * secNs + ns) * 10 : Nat) : Int)

/-- TIME_SET: the operator source, while no qualified source is selected (R176, R183, R583). -/
def effTimeSet : Effect := fun s _ p _ =>
  let ns := field p 6 4
  if secNs ≤ ns ∨ field p 14 2 ≠ 0 then refused s stBadValue
  else if s.time.source ≠ 0 ∧ s.time.source ≠ 4 then refused s stConditions
  else
    let s1 : State :=
      { s with
        time.source := 4
        time.operatorUnc := field p 10 4
        time.pending := none
        time.slewing := false
        time.slewLeft := 0 }
    served ((s1.raiseIf (decide (s.time.source ≠ 4)) 0x1201 [4]).meetError (s.errorAgainst (field p 0 6) ns))

/-- An entry of a transmit timestamp queue as bytes (R191). -/
def TxStamp.bytes (x : TxStamp) : List Byte :=
  le 2 x.seq ++ le 1 (x.msgType % 16) ++ le 1 x.domain ++ le 6 x.tsS ++ le 4 x.tsNs ++ le 2 x.tstatus.toNat

/-- TXTS_READ: the entries of a port's queue; TXTS_OVF clears (R191, R583). The reply begins with the number of entries and
TXTS_OVF. -/
def effTxtsRead : Effect := fun s _ p _ =>
  let port := field p 0 1
  let q := s.time.txq port
  if 2 < port ∨ field p 1 3 ≠ 0 then refused s stBadValue
  else
    answered { s with time := s.time.setTxq port .reset }
      (le 1 q.entries.length ++ le 1 (b2n q.ovf) ++ le 2 0 ++ q.entries.flatMap TxStamp.bytes)

end Sys2Proof.Machine
end

