-- ==== Sys2Proof/Machine/HostRows.lean ====
section
/-!
DEFINITION. The opcode rows: each request of the catalogue with its effect (R577 to R583); the forwarding of a waiting command and
the completion of long operations (R68, R584).
-/

namespace Sys2Proof.Machine

/-- The effect of a field-side opcode; `present` belongs to PARAM_WRITE. -/
def fieldEffect (present : List (Nat × Nat)) (code : Nat) : Effect :=
  match code with
  | 0x0101 => effStatus
  | 0x0110 => effParamRead
  | 0x0111 => effParamWrite present
  | 0x0112 => effCounterRead false
  | 0x0113 => effCounterRead true
  | 0x0122 => effHandleCancel
  | 0x0130 => effStageOpen
  | 0x0131 => effStagePiece
  | 0x0132 => effStageDiscard
  | 0x0133 => effCommit
  | 0x0134 => effTableRead
  | 0x0140 => effFirmwareStage
  | 0x0141 => effFirmwareActivate
  | 0x0201 => effModeSet
  | 0x0202 => effSetpointSet
  | 0x0203 => effTrackContinue
  | 0x1001 => effRefSelect
  | 0x1002 => effRefDeselect
  | 0x1003 => effRefReaccept
  | 0x1004 => effRefineAdopt
  | 0x1010 => effRefStatus
  | 0x1101 => effGnssExclude
  | 0x1102 => effGnssRfTest
  | 0x1103 => effAssistSave
  | 0x1110 => effGnssStatus
  | 0x1201 => effStepConfirm
  | 0x1202 => effTimeSet
  | 0x1203 => effTxtsRead
  | 0x1210 => effTimeStatus
  | 0x2101 => effAct .actDisable
  | 0x2102 => effAct .actEnable
  | 0x2110 => effAllocStatus
  | 0x2201 => effCaseStatus
  | 0x3001 => effDioHostOutput
  | 0x3002 => effDioForce
  | 0x3003 => effDioOutputTest
  | 0x3101 => effAoHostOutput
  | 0x3102 => effAoForce
  | 0x3103 => effAiCalibrate
  | 0x3104 => effCalibrateAll
  | 0x4001 => effBusRateDetect
  | 0x4002 => effBusRecover
  | 0x5001 => effSafetyReset
  | 0x5002 => effSafetyRestart
  | 0x5010 => effSafetyStatus
  | 0x6001 => effRecExport
  | 0x6002 => effRecFlush
  | 0x6003 => effFreezeTrigger
  | 0x6004 => effFreezeRelease
  | 0x6005 => effNandReturn
  | 0x7001 => effHealthReset
  | 0x7002 => effHoldRamp
  | 0x7003 => effLaneRejoin
  | 0x7004 => effFullTest
  | 0x7101 => effDutyTransfer
  | 0x9001 => effResetRequest
  | 0x9002 => effResetHistory
  | 0xA001 => effMemoryMarch
  | 0xA002 => effMemoryStatus
  | 0xA101 => effDebugOpen
  | 0xA103 => effReprovision
  | _ => fun s _ _ _ => refused s stBadOpcode

/-- A field-side opcode requested. -/
def State.fieldRequest (s : State) (code : Nat) (r : Req) (p : List Byte) : State := s.request code (fieldEffect [] code) r p

/-- EAVES_COMMAND_FORWARD: the oldest waiting command crosses once its credit is there (R68, R597, R599). -/
def execEavesCommandForward (t : Nat) (present : List (Nat × Nat)) (s : State) : Result :=
  let s := s.tick t
  match s.eaves.waitingCommands with
  | [] => .next s
  | c :: rest =>
    match opInfo? c.opcode with
    | none => .next { s with eaves.waitingCommands := rest }
    | some o =>
      if !s.canCross o c.payload || s.host.fieldUnreachable then .next s
      else
        let r : Req := { t := t, transport := c.transport, session := c.session, tag := c.tag, addr := c.addr }
        .next ({ s with eaves.waitingCommands := rest }.runRequest r o c.payload present (fieldEffect present c.opcode))

/-- OPERATION_COMPLETION: an operation whose end is the unit's own (R584). `ok`: the test passed or the write held; `stored`: the
non-volatile write held; `report`: the result a test returns. -/
def execOperationCompletion (t n : Nat) (ok stored : Bool) (report : List Byte) (s : State) : Result :=
  let s := s.tick t
  let tested := if ok then stOk else stTestFailed
  match s.handle? n with
  | none => .next s
  | some h =>
    if h.stage = .complete then .next s
    else if h.opcode = 0x0134 then
      .next (if (s.bulk? n).all fun b => b.running || b.finished then s.finish n stOk [] else s)
    else if h.opcode = 0x0140 then .next (if (s.bulk? n).isSome then s.firmwareStaged n stored else s)
    else if h.opcode = 0x1103 then .next ((s.writeAssist stored).finish n (if stored then stOk else stStorageFailed) [])
    else if h.opcode = 0x3003 then .next (s.finish n tested (report.take 48))
    else if h.opcode = 0x3104 then .next (s.finish n tested (report.take 240))
    else if h.opcode = 0x7004 then .next ({ s with ridge.fullTest := none }.finish n tested (report.take 496))
    else if h.opcode = 0xA103 then .next (s.reprovisioned n)
    else .next s

/-- IDENTIFY, in session 0 or in an open session (R567, R580). -/
def execIdentify (r : Req) (p : List Byte) (s : State) : Result :=
  if r.session = 0 then
    let s := s.tick r.t
    if !s.heard r then .next s
    else if p.isEmpty then .next ((s.noteFrame r).sendPlain r 0x0100 stOk (s.identity r.transport))
    else .next ((s.noteFrame r).sendPlain r 0x0100 stBadLength [])
  else .next (s.request 0x0100 effIdentify r p)

/-- STATUS (R581). -/
def execStatus (r : Req) (p : List Byte) (s : State) : Result := .next (s.fieldRequest 0x0101 r p)
/-- PARAM_READ of some IDs (R582). -/
def execParamRead (r : Req) (ids : List Nat) (s : State) : Result := .next (s.fieldRequest 0x0110 r (paramReadPayload ids))
/-- PARAM_WRITE (R582). -/
def execParamWrite (r : Req) (p : List Byte) (present : List (Nat × Nat)) (s : State) : Result :=
  .next (s.requestWith present 0x0111 (effParamWrite present) r p)
/-- COUNTER_READ (R19). -/
def execCounterRead (r : Req) (p : List Byte) (s : State) : Result := .next (s.fieldRequest 0x0112 r p)
/-- COUNTER_READ_CLEAR (R20). -/
def execCounterReadClear (r : Req) (p : List Byte) (s : State) : Result := .next (s.fieldRequest 0x0113 r p)
/-- HANDLE_QUERY (R585). -/
def execHandleQuery (r : Req) (p : List Byte) (s : State) : Result := .next (s.request 0x0120 effHandleQuery r p)
/-- HANDLE_ACK (R584). -/
def execHandleAck (r : Req) (p : List Byte) (s : State) : Result := .next (s.request 0x0121 effHandleAck r p)
/-- HANDLE_CANCEL (R586). -/
def execHandleCancel (r : Req) (p : List Byte) (s : State) : Result := .next (s.fieldRequest 0x0122 r p)
/-- STAGE_OPEN (R614). -/
def execStageOpen (r : Req) (p : List Byte) (s : State) : Result := .next (s.fieldRequest 0x0130 r p)
/-- STAGE_PIECE (R615). -/
def execStagePiece (r : Req) (p : List Byte) (s : State) : Result := .next (s.fieldRequest 0x0131 r p)
/-- STAGE_DISCARD (R617). -/
def execStageDiscard (r : Req) (p : List Byte) (s : State) : Result := .next (s.fieldRequest 0x0132 r p)
/-- COMMIT (R618). -/
def execCommit (r : Req) (p : List Byte) (s : State) : Result := .next (s.fieldRequest 0x0133 r p)
/-- TABLE_READ (R594). -/
def execTableRead (r : Req) (p : List Byte) (s : State) : Result := .next (s.fieldRequest 0x0134 r p)
/-- FIRMWARE_STAGE (R625). -/
def execFirmwareStage (r : Req) (p : List Byte) (s : State) : Result := .next (s.fieldRequest 0x0140 r p)
/-- FIRMWARE_ACTIVATE (R626). -/
def execFirmwareActivate (r : Req) (p : List Byte) (s : State) : Result := .next (s.fieldRequest 0x0141 r p)
/-- BULK_READ of the transfer of a handle (R594). -/
def execBulkRead (r : Req) (handle : Nat) (p : List Byte) (s : State) : Result :=
  .next (s.requestOn [] 0x0150 handle (effBulkRead handle) r p)
/-- BULK_WRITE to the transfer of a handle (R595). -/
def execBulkWrite (r : Req) (handle : Nat) (p : List Byte) (s : State) : Result :=
  .next (s.requestOn [] 0x0151 handle (effBulkWrite handle) r p)
/-- MODE_SET (R293). -/
def execModeSet (r : Req) (p : List Byte) (s : State) : Result := .next (s.fieldRequest 0x0201 r p)
/-- SETPOINT_SET (R298). -/
def execSetpointSet (r : Req) (p : List Byte) (s : State) : Result := .next (s.fieldRequest 0x0202 r p)
/-- TRACK_CONTINUE (R301). -/
def execTrackContinue (r : Req) (p : List Byte) (s : State) : Result := .next (s.fieldRequest 0x0203 r p)
/-- REF_SELECT (R227). -/
def execRefSelect (r : Req) (p : List Byte) (s : State) : Result := .next (s.fieldRequest 0x1001 r p)
/-- REF_DESELECT (R227). -/
def execRefDeselect (r : Req) (p : List Byte) (s : State) : Result := .next (s.fieldRequest 0x1002 r p)
/-- REF_REACCEPT (R227). -/
def execRefReaccept (r : Req) (p : List Byte) (s : State) : Result := .next (s.fieldRequest 0x1003 r p)
/-- REFINE_ADOPT (R251). -/
def execRefineAdopt (r : Req) (p : List Byte) (s : State) : Result := .next (s.fieldRequest 0x1004 r p)
/-- REF_STATUS (R224). -/
def execRefStatus (r : Req) (p : List Byte) (s : State) : Result := .next (s.fieldRequest 0x1010 r p)
/-- GNSS_EXCLUDE (R118). -/
def execGnssExclude (r : Req) (p : List Byte) (s : State) : Result := .next (s.fieldRequest 0x1101 r p)
/-- GNSS_RF_TEST (R157). -/
def execGnssRfTest (r : Req) (p : List Byte) (s : State) : Result := .next (s.fieldRequest 0x1102 r p)
/-- ASSIST_SAVE (R122). -/
def execAssistSave (r : Req) (p : List Byte) (s : State) : Result := .next (s.fieldRequest 0x1103 r p)
/-- GNSS_STATUS (R134). -/
def execGnssStatus (r : Req) (p : List Byte) (s : State) : Result := .next (s.fieldRequest 0x1110 r p)
/-- STEP_CONFIRM (R180). -/
def execStepConfirm (r : Req) (p : List Byte) (s : State) : Result := .next (s.fieldRequest 0x1201 r p)
/-- TIME_SET (R183). -/
def execTimeSet (r : Req) (p : List Byte) (s : State) : Result := .next (s.fieldRequest 0x1202 r p)
/-- TXTS_READ (R191). -/
def execTxtsRead (r : Req) (p : List Byte) (s : State) : Result := .next (s.fieldRequest 0x1203 r p)
/-- TIME_STATUS (R163). -/
def execTimeStatus (r : Req) (p : List Byte) (s : State) : Result := .next (s.fieldRequest 0x1210 r p)
/-- ACT_DISABLE (R350). -/
def execActDisable (r : Req) (p : List Byte) (s : State) : Result := .next (s.fieldRequest 0x2101 r p)
/-- ACT_ENABLE (R350). -/
def execActEnable (r : Req) (p : List Byte) (s : State) : Result := .next (s.fieldRequest 0x2102 r p)
/-- ALLOC_STATUS (R346). -/
def execAllocStatus (r : Req) (p : List Byte) (s : State) : Result := .next (s.fieldRequest 0x2110 r p)
/-- CASE_STATUS (R362). -/
def execCaseStatus (r : Req) (p : List Byte) (s : State) : Result := .next (s.fieldRequest 0x2201 r p)
/-- DIO_HOST_OUTPUT (R469). -/
def execDioHostOutput (r : Req) (p : List Byte) (s : State) : Result := .next (s.fieldRequest 0x3001 r p)
/-- DIO_FORCE (R473). -/
def execDioForce (r : Req) (p : List Byte) (s : State) : Result := .next (s.fieldRequest 0x3002 r p)
/-- DIO_OUTPUT_TEST (R473). -/
def execDioOutputTest (r : Req) (p : List Byte) (s : State) : Result := .next (s.fieldRequest 0x3003 r p)
/-- AO_HOST_OUTPUT (R514). -/
def execAoHostOutput (r : Req) (p : List Byte) (s : State) : Result := .next (s.fieldRequest 0x3101 r p)
/-- AO_FORCE (R515). -/
def execAoForce (r : Req) (p : List Byte) (s : State) : Result := .next (s.fieldRequest 0x3102 r p)
/-- AI_CALIBRATE (R517). -/
def execAiCalibrate (r : Req) (p : List Byte) (s : State) : Result := .next (s.fieldRequest 0x3103 r p)
/-- CALIBRATE_ALL (R517). -/
def execCalibrateAll (r : Req) (p : List Byte) (s : State) : Result := .next (s.fieldRequest 0x3104 r p)
/-- BUS_RATE_DETECT (R529). -/
def execBusRateDetect (r : Req) (p : List Byte) (s : State) : Result := .next (s.fieldRequest 0x4001 r p)
/-- BUS_RECOVER (R543). -/
def execBusRecover (r : Req) (p : List Byte) (s : State) : Result := .next (s.fieldRequest 0x4002 r p)
/-- SAFETY_RESET (R432). -/
def execSafetyReset (r : Req) (p : List Byte) (s : State) : Result := .next (s.fieldRequest 0x5001 r p)
/-- SAFETY_RESTART (R416). -/
def execSafetyRestart (r : Req) (p : List Byte) (s : State) : Result := .next (s.fieldRequest 0x5002 r p)
/-- SAFETY_STATUS (R453). -/
def execSafetyStatus (r : Req) (p : List Byte) (s : State) : Result := .next (s.fieldRequest 0x5010 r p)
/-- REC_EXPORT (R649). -/
def execRecExport (r : Req) (p : List Byte) (s : State) : Result := .next (s.fieldRequest 0x6001 r p)
/-- REC_FLUSH (R640). -/
def execRecFlush (r : Req) (p : List Byte) (s : State) : Result := .next (s.fieldRequest 0x6002 r p)
/-- FREEZE_TRIGGER (R642). -/
def execFreezeTrigger (r : Req) (p : List Byte) (s : State) : Result := .next (s.fieldRequest 0x6003 r p)
/-- FREEZE_RELEASE (R642). -/
def execFreezeRelease (r : Req) (p : List Byte) (s : State) : Result := .next (s.fieldRequest 0x6004 r p)
/-- NAND_RETURN (R645). -/
def execNandReturn (r : Req) (p : List Byte) (s : State) : Result := .next (s.fieldRequest 0x6005 r p)
/-- HEALTH_RESET (R393). -/
def execHealthReset (r : Req) (p : List Byte) (s : State) : Result := .next (s.fieldRequest 0x7001 r p)
/-- HOLD_RAMP (R392). -/
def execHoldRamp (r : Req) (p : List Byte) (s : State) : Result := .next (s.fieldRequest 0x7002 r p)
/-- LANE_REJOIN (R394). -/
def execLaneRejoin (r : Req) (p : List Byte) (s : State) : Result := .next (s.fieldRequest 0x7003 r p)
/-- FULL_TEST (R103). -/
def execFullTest (r : Req) (p : List Byte) (s : State) : Result := .next (s.fieldRequest 0x7004 r p)
/-- DUTY_TRANSFER (R402). -/
def execDutyTransfer (r : Req) (p : List Byte) (s : State) : Result := .next (s.fieldRequest 0x7101 r p)
/-- EAVES_STATUS (R601). -/
def execEavesStatus (r : Req) (p : List Byte) (s : State) : Result := .next (s.request 0x8010 effEavesStatus r p)
/-- RESET_REQUEST (R657). -/
def execResetRequest (r : Req) (p : List Byte) (s : State) : Result := .next (s.fieldRequest 0x9001 r p)
/-- RESET_HISTORY (R670). -/
def execResetHistory (r : Req) (p : List Byte) (s : State) : Result := .next (s.fieldRequest 0x9002 r p)
/-- MEMORY_MARCH (R689). -/
def execMemoryMarch (r : Req) (p : List Byte) (s : State) : Result := .next (s.fieldRequest 0xA001 r p)
/-- MEMORY_STATUS (R688). -/
def execMemoryStatus (r : Req) (p : List Byte) (s : State) : Result := .next (s.fieldRequest 0xA002 r p)
/-- DEBUG_OPEN (R697). -/
def execDebugOpen (r : Req) (p : List Byte) (s : State) : Result := .next (s.fieldRequest 0xA101 r p)
/-- REPROVISION (R701). -/
def execReprovision (r : Req) (p : List Byte) (s : State) : Result := .next (s.fieldRequest 0xA103 r p)
/-- W1C_CLEAR: one W1C item written; `setNow`: the bits the hardware sets in the same cycle (R17, R18). -/
def execW1cClear (r : Req) (id mask setNow : Nat) (s : State) : Result :=
  .next (s.requestWith [(id, setNow)] 0x0111 (effParamWrite [(id, setNow)]) r (le 4 id ++ le 4 mask))
/-- CHANNEL_FAULT_CLEAR: latched fault bits of a digital channel written 1; `present`: those whose condition still holds or that the hardware
sets in the same cycle (R18, R468, R482). -/
def execChannelFaultClear (r : Req) (c mask present : Nat) (s : State) : Result :=
  .next (s.requestWith [(0x30050000 + c, present)] 0x0111 (effParamWrite [(0x30050000 + c, present)]) r
    (le 4 (0x30050000 + c) ++ le 4 mask))
/-- STATUS_READ_CLEAR: one item read, its RC field cleared in the same cycle (R17). -/
def execStatusReadClear (r : Req) (id : Nat) (s : State) : Result := .next (s.fieldRequest 0x0110 r (paramReadPayload [id]))

end Sys2Proof.Machine
end

