-- ==== Sys2Proof/Machine/FrameWork.lean ====
section
/-!
DEFINITION. What the lanes do in a frame beside its phases: the commands of its snapshot, the background window, the tail reserve and the
outbox (R47, R79, R88, R100 to R103, R382, R578).
-/

namespace Sys2Proof.Machine

/-- The outcome of a command in the outbox of each lane that decided it (R47, R578). -/
def State.outcome (s : State) (c : Command) (status : Nat) : State :=
  let put (x : Lane) : Lane :=
    if x.runs && x.held.isSome then
      { x with outbox := x.outbox ++ [.outcome s.frame.number c.req.session c.req.tag status] }
    else x
  { s with laneA := put s.laneA, laneB := put s.laneB }

/-- What the unit that serves an opcode makes of a command; a unit held in reset serves none (R588). -/
def State.serveCommand (s : State) (c : Command) : Served :=
  if s.rst.unitsDown.contains (unitServing c.opcode c.payload) then refused s stDeviceFault
  else fieldEffect c.present c.opcode s c.req c.payload c.handle

/-- A command decided in the frame under way: its effect, its outcome, and its reply held for the release of the frame while the host side
still waits for it (R578, R583, R588, R640). -/
def State.decideCommand (s : State) (c : Command) : State :=
  match opInfo? c.opcode with
  | none => s
  | some o =>
    let v := s.serveCommand c
    let s1 := if o.long && decide (v.status ≠ stAccepted) then v.state.dropRefused o c.handle else v.state
    let s2 := s1.outcome c v.status
    let waits : Bool := s2.eaves.inField.any fun f => f.session = c.req.session && f.tag = c.req.tag
    let reply : FrameReply :=
      { frame := s2.frame.number
        stamp := v.stamp
        written := if c.opcode = 0x6002 ∧ v.status = stOk then s2.recorder.nextYseq else 0
        reply := c.req.reply c.opcode (if v.status = stAccepted then c.handle else 0) v.status v.payload }
    if waits then { s2 with host.frameReplies := s2.host.frameReplies ++ [reply] } else s2

/-- The commands of the snapshots that no frame has decided yet, in arrival order (R79, R382). -/
def State.takeCommands (s : State) : State := s.frame.undecided.foldl State.decideCommand { s with frame.undecided := [] }

/-- A lane computes the frame under way from its snapshot: not a replay, not a known-answer run. -/
def State.computing (s : State) : Bool :=
  decide (s.frame.replay = .none) && (s.laneA.runs && s.laneA.held.isSome || s.laneB.runs && s.laneB.held.isSome)

/-- FUSION_PHASE: each lane begins the frame, takes the commands of its snapshot and fuses what the samples of the snapshot say (R79, R88,
R94). -/
def execFusionPhase (t : Nat) (ps : List Parsed) (s : State) : Result :=
  let s1 := (s.tick t).lanesWork fun s w => w.begin_ s
  let s2 := if s1.computing then s1.takeCommands else s1
  .next (s2.lanesWork fun s w => w.fusionStage s ps)

/-- Entries put into the outboxes of the lanes that run (R47). -/
def State.putOutbox (s : State) (f : Lane → List OutEntry) : State :=
  let put (x : Lane) : Lane := if x.runs then { x with outbox := x.outbox ++ f x } else x
  { s with laneA := put s.laneA, laneB := put s.laneB }

/-- What the online tests of a window find: the known-answer slice and the scrub step of each lane (R386, R684), the bias supply and the
notch filters of the GNSS unit (R157). -/
structure WindowTests where
  sliceA : Bool
  sliceB : Bool
  scrubA : MemRead
  scrubB : MemRead
  rfOk : Bool

/-- One step of the online self-tests of each lane, and the check of the bias supply and the notch filters, whose result is held: the spec
gives a failure of it no effect (R100, R157, R386, R684; DESIGN CHOICE, log 42). -/
def State.windowTests (s : State) (x : WindowTests) : State :=
  let s1 := if s.laneA.runs then s.scrubStep .a x.scrubA else s
  let s2 := if s1.laneB.runs then s1.scrubStep .b x.scrubB else s1
  let s3 := if x.sliceA then s2 else s2.sliceFails .a
  let s4 := if x.sliceB then s3 else s3.sliceFails .b
  { s4 with gnss.onlineOk := x.rfOk }

/-- One item of the background window (R100): 1 the rewind, 2 the frame record and the trend sample, 3 the self-tests, 4 the host status
update. -/
def State.windowItem (x : WindowTests) (s : State) (item : Nat) : State :=
  match item with
  | 1 => s.lanesWork fun s w => w.rewind s s.frame.period
  | 2 =>
    s.putOutbox fun l =>
      (l.latest.map fun r => OutEntry.record r.frame r).toList
        ++ (s.trendSample.map fun d => OutEntry.trend s.frame.number d).toList
  | 3 => s.windowTests x
  | _ => s.putOutbox fun _ => [.status s.frame.number s.statusBytes]

/-- Start of the background window: 6.0 ms, in a frame with replay 11.0 ms after the strobe (R100). -/
def State.windowStart (s : State) : Nat :=
  s.frame.strobe + (if s.frame.current.any fun x => x.flags.getLsbD 2 then 11 else 6) * msNs

/-- End of the background window: P − 3 ms (R100, R103). -/
def State.windowEnd (s : State) : Nat := s.frame.strobe + s.frame.period * msNs - 3 * msNs

/-- The items still to be done: of a window not begun, its first item, what was held over, and the others; else what is left (R100,
R103). -/
def State.windowItems (s : State) : List Nat :=
  if s.frame.window = 0 then 1 :: (s.frame.background ++ [2, 3, 4].filter fun i => !s.frame.background.contains i)
  else s.frame.background

/-- BACKGROUND_WINDOW (R100, R103): `fits` items are finished, in order; `verdictOk`: the comparator's verdicts on its injected records are
right (R380). -/
def execBackgroundWindow (t fits : Nat) (sliceA sliceB rfOk verdictOk : Bool) (scrubA scrubB : MemRead)
    (s : State) : Result :=
  let s := s.tick t
  if s.rst.up ≠ .up ∨ s.frame.current.isNone ∨ s.frame.window = 2 ∨ s.now < s.windowStart ∨ s.windowEnd ≤ s.now then .next s
  else
    let items := s.windowItems
    let x : WindowTests := { sliceA := sliceA, sliceB := sliceB, scrubA := scrubA, scrubB := scrubB,
                              rfOk := rfOk }
    let s1 := (items.take fits).foldl (State.windowItem x) s
    let s2 : State :=
      { s1 with
        frame.background := items.drop fits
        frame.window := 1
        ridge.injected := s1.ridge.injected + (if s.frame.window = 0 then 1 else 0) }
    .next (if verdictOk then s2 else s2.orderFailed)

/-- TAIL_RESERVE: the window is over at P − 3 ms; what is left of items 2 to 4 resumes in the next window, a rewind does not (R103). -/
def execTailReserve (t : Nat) (s : State) : Result :=
  let s := s.tick t
  if s.frame.window = 2 ∨ s.frame.current.isNone ∨ s.now < s.windowEnd then .next s
  else
    let left := s.windowItems
    let s1 := if left.contains 1 then s.onCores fun c => { c with late := [] } else s
    .next { s1 with frame.background := left.filter fun i => decide (2 ≤ i), frame.window := 2 }

/-- An entry of the outbox that is read: an event goes to the recorder and by it to the field endpoint, the frame record and the trend
sample to the recorder, a status update to the field endpoint; the outcomes are in the list the comparator releases (R47, R578). -/
def State.forwardEntry (s : State) (e : OutEntry) : State :=
  match e with
  | .event v => { s with toRecorder := s.toRecorder ++ [v] }
  | .record _ r => { s with recorder.frameRecord := r.bytes }
  | .trend _ d => { s with recorder.trendSample := some d }
  | .status _ d => { s with eaves.status := d }
  | .outcome .. => s

/-- OUTBOX_FORWARD: the oldest entry of the outbox that is read goes on; the other lane's copy is not read (R47). -/
def execOutboxForward (t : Nat) (s : State) : Result :=
  let s := s.tick t
  if s.unitHeld 0 then .next s else
  let l := s.lead
  match (s.lane l).outbox with
  | [] => .next s
  | e :: _ =>
    let drop (x : Lane) : Lane := { x with outbox := x.outbox.drop 1 }
    .next (((s.onLane l drop).onLane l.other drop).forwardEntry e)

end Sys2Proof.Machine
end

