-- ==== Sys2Proof/Machine/Interconnect.lean ====
section
/-!
DEFINITION. The Purlin interconnect: flit checks, packet checks, arbitration and request timeouts (R46, R52 to R60).
Input ports 0 to 63 are those of the endpoints, numbered as their nodes; higher numbers are links between routers.
-/

namespace Sys2Proof.Machine

/-- Corrected flits at an input port (R56). -/
def ctrFlitCorrected (port : Nat) : Nat := 0x01F01000 + port
/-- Uncorrectable flits at an input port (R57). -/
def ctrFlitUncorrectable (port : Nat) : Nat := 0x01F02000 + port
/-- Packets discarded at an input port (R52 to R54). -/
def ctrPacketDiscarded (port : Nat) : Nat := 0x01F03000 + port
/-- Lane writes refused (R46). -/
def ctrWriteRefused : Nat := 0x01F04000

/-- Fields of a head flit (R53). -/
def flitDst (f : BitVec 128) : Nat := bits f.toNat 127 122
/-- Source node. -/
def flitSrc (f : BitVec 128) : Nat := bits f.toNat 121 116
/-- Packet type. -/
def flitType (f : BitVec 128) : Nat := bits f.toNat 115 112
/-- Virtual channel. -/
def flitVc (f : BitVec 128) : Nat := bits f.toNat 111 110
/-- Payload flits. -/
def flitLen (f : BitVec 128) : Nat := bits f.toNat 109 104
/-- Transaction tag. -/
def flitTag (f : BitVec 128) : Nat := bits f.toNat 103 88
/-- Low byte of the frame number, in a snapshot broadcast. -/
def flitFrame (f : BitVec 128) : Nat := bits f.toNat 87 80
/-- Byte address in the address space of the destination. -/
def flitAddr (f : BitVec 128) : Nat := bits f.toNat 63 0

/-- The source router writes SRC (R53). -/
def withSrc (f : BitVec 128) (src : Nat) : BitVec 128 :=
  (f &&& ~~~ (BitVec.ofNat 128 (63 * 2 ^ 116))) ||| BitVec.ofNat 128 (src * 2 ^ 116)

/-- The 4-bit symbols of a 144-bit flit that an error touches (R55). -/
def symbolErrors (err : BitVec 144) : Nat := ((List.range 36).filter fun k => err.toNat / 16 ^ k % 16 ≠ 0).length

/-- What a router finds of a flit whose 128 data bits left as `sent` and whose 144 bits the way changed by `err` (R55): one symbol
in error is corrected, two are detected; three or more the rule leaves open. -/
def flitAtRouter (sent : BitVec 128) (err : BitVec 144) : FlitCheck × BitVec 128 :=
  match symbolErrors err with
  | 0 => (.clean, sent)
  | 1 => (.corrected, sent)
  | 2 => (.uncorrectable, sent)
  | _ =>
    match Config.flitManyErrors sent err with
    | none => (.uncorrectable, sent)
    | some (true, d) => (.corrected, d)
    | some (false, d) => (.clean, d)

/-- TYPE and VC agree (R54). DESIGN CHOICE: maintenance traffic is any TYPE on VC 3 from the node of the reset controller and the
debug gate, which may also send ordinary packets on the other channels (log 22). -/
def typeVcAgree (ty vc src : Nat) : Bool :=
  if vc = 3 then src = 0x10
  else if ty = 0 ∨ ty = 1 ∨ ty = 4 then vc = 0
  else if ty = 5 then vc = 2
  else vc = 1

/-- The lane a node belongs to, 0 for none. -/
def laneOfNode (n : Nat) : Nat := if n = 1 ∨ n = 2 then 1 else if n = 3 ∨ n = 4 then 2 else 0

/-- Who may write where: a lane to its own memory and engines and to its slot in the Ridge comparator (R46), and no other node to
the memory and engines of a lane (R44). -/
def writeAllowed (src dst addr : Nat) : Bool :=
  if laneOfNode src = 0 then laneOfNode dst = 0
  else laneOfNode dst = laneOfNode src || (decide (dst = 5) && Config.laneSlot (laneOfNode src) addr)

/-- The phase of an input port. -/
def Purlin.phase (p : Purlin) (port : Nat) : RxPhase := (assoc p.ports port).getD .head

/-- The phase of an input port written. -/
def State.setPhase (s : State) (port : Nat) (x : RxPhase) : State :=
  { s with purlin.ports := assocSet s.purlin.ports port x }

/-- The order between virtual channels at one output (R60). -/
def vcOrder : List Nat := [1, 2, 0, 3]

/-- How often a ready channel has been passed over. -/
def Purlin.passCount (p : Purlin) (out vc : Nat) : Nat :=
  ((p.passed.find? fun x => x.out = out ∧ x.vc = vc).map (·.count)).getD 0

/-- The channel an output serves next (R60). -/
def Purlin.pickVc (p : Purlin) (out : Nat) : Option Nat :=
  let ready := vcOrder.filter fun v => p.waiting.any fun w => w.out = out ∧ w.vc = v
  match ready.find? fun v => 7 ≤ p.passCount out v with
  | some v => some v
  | none => ready.head?

/-- The arbiter of an output and channel. -/
def Purlin.arbiter (p : Purlin) (out vc : Nat) : Arbiter :=
  (p.arbiters.find? fun a => a.out = out ∧ a.vc = vc).getD { out := out, vc := vc, last := 0, ages := [] }

/-- The requesters of an output and channel. -/
def Purlin.requesters (p : Purlin) (out vc : Nat) : List Nat :=
  ((p.waiting.filter fun w => w.out = out ∧ w.vc = vc).map (·.requester)).eraseDups

/-- The first requester after `last` in round-robin order. -/
def roundRobin (last : Nat) (reqs : List Nat) : Option Nat :=
  let least (l : List Nat) : Option Nat := l.foldl (init := none) fun a r =>
    match a with
    | none => some r
    | some m => some (min m r)
  match least (reqs.filter fun r => last < r) with
  | some r => some r
  | none => least reqs

/-- The requester an arbiter grants: one whose age has reached 7 first, then round robin (R59). -/
def Arbiter.pick (a : Arbiter) (reqs : List Nat) : Option Nat :=
  let old := reqs.filter fun r => 7 ≤ (assoc a.ages r).getD 0
  if old = [] then roundRobin a.last reqs else roundRobin a.last old

/-- The arbiter after a grant: the winner's age is reset, the others that wait grow older, at most to 7 (R59). -/
def Arbiter.grant (a : Arbiter) (reqs : List Nat) (win : Nat) : Arbiter :=
  { a with
    last := win
    ages := reqs.filterMap fun r =>
      if r = win then none else some (r, min 7 ((assoc a.ages r).getD 0 + 1)) }

/-- The first flit of a requester taken out of the waiting list. -/
def takeFlit (out vc req : Nat) : List WaitFlit → Option WaitFlit × List WaitFlit
  | [] => (none, [])
  | w :: ws =>
    if w.out = out ∧ w.vc = vc ∧ w.requester = req then (some w, ws)
    else
      let (x, r) := takeFlit out vc req ws
      (x, w :: r)

/-- A whole packet joins the requesters of its output, or stays at its input port while eight others are there (R59). -/
def Purlin.join (p : Purlin) (ws : List WaitFlit) : Purlin :=
  match ws with
  | [] => p
  | w :: _ =>
    let reqs := p.requesters w.out w.vc
    if 8 ≤ reqs.length ∧ reqs.contains w.requester = false then { p with stalled := p.stalled ++ [ws] }
    else { p with waiting := p.waiting ++ ws }

/-- Packets that stay at their input ports join as places become free, in their order. -/
def Purlin.letIn (p : Purlin) : Purlin := p.stalled.foldl (fun q ws => q.join ws) { p with stalled := [] }

/-- A reply that has reached its source ends the request (R58). -/
def Purlin.arrived (p : Purlin) (w : WaitFlit) : Purlin :=
  let ty := flitType w.head
  if w.out < 64 ∧ w.last = true ∧ (ty = 2 ∨ ty = 3 ∨ ty = 6) then
    { p with outstanding := p.outstanding.filter fun o =>
        ¬ (o.src = flitDst w.head ∧ o.dst = flitSrc w.head ∧ o.tag = flitTag w.head) }
  else p

/-- One grant at an output (R59, R60). DESIGN CHOICE: a grant is for one flit, so that flits of packets of different requesters may
follow one another at one output and channel (log 22). -/
def Purlin.grantOne (p : Purlin) (out : Nat) : Purlin :=
  match p.pickVc out with
  | none => p
  | some vc =>
    let reqs := p.requesters out vc
    let a := p.arbiter out vc
    match a.pick reqs with
    | none => p
    | some r =>
      match takeFlit out vc r p.waiting with
      | (none, _) => p
      | (some w, rest) =>
        let others := vcOrder.filter fun v => v ≠ vc ∧ p.waiting.any fun w => w.out = out ∧ w.vc = v
        let q : Purlin :=
          { p with
            waiting := rest
            delivered := p.delivered ++ [w]
            arbiters := (p.arbiters.filter fun b => ¬ (b.out = out ∧ b.vc = vc)) ++ [a.grant reqs r]
            passed := (p.passed.filter fun x => x.out ≠ out) ++
              others.map fun v => { out := out, vc := v, count := p.passCount out v + 1 } }
        (q.arrived w).letIn

/-- n grants at an output. -/
def Purlin.grantN (out : Nat) : Nat → Purlin → Purlin
  | 0, p => p
  | n + 1, p => Purlin.grantN out n (p.grantOne out)

/-- The flits of a packet as they wait at an output; the last of them ends the packet. -/
def waitFlits (out port : Nat) : BitVec 128 → List (BitVec 128) → List WaitFlit
  | _, [] => []
  | h, f :: fs => { out := out, vc := flitVc h, requester := port, data := f, head := h, last := fs.isEmpty } :: waitFlits out port h fs

/-- The receive space a request takes: a read is answered with a packet of up to 33 flits, a write with one flit (R53, R67). -/
def replyFlits (ty : Nat) : Nat := if ty = 0 then 33 else 1

/-- Whether a node has receive space left for the complete reply of a request (R67). -/
def Purlin.hasSpace (p : Purlin) (src ty : Nat) : Bool :=
  decide (((p.outstanding.filter fun o => o.src = src).map (·.reserved)).sum + replyFlits ty ≤ Config.replySpace src)

/-- A source notes the request it sends, whatever becomes of it on its way (R57, R58). -/
def Purlin.note (p : Purlin) (h : BitVec 128) (out now : Nat) : Purlin :=
  { p with outstanding := p.outstanding ++
      [{ src := flitSrc h, dst := flitDst h, tag := flitTag h, attempts := 1, sentAt := now, out := out, flits := [h],
         left := min (flitLen h) 32, reserved := replyFlits (flitType h) }] }

/-- A source keeps a payload flit of the request it is sending. -/
def Purlin.noteMore (p : Purlin) (src : Nat) (f : BitVec 128) : Purlin :=
  { p with outstanding := p.outstanding.map fun o =>
      if o.src = src ∧ 0 < o.left then { o with flits := o.flits ++ [f], left := o.left - 1 } else o }

/-- Why a router discards a packet by its head (R46, R52 to R54): the counter that counts it. -/
def headFault (port : Nat) (f : BitVec 128) : Option Nat :=
  if 0x11 ≤ flitDst f ∨ 6 < flitType f ∨ typeVcAgree (flitType f) (flitVc f) (flitSrc f) = false ∨ 32 < flitLen f then
    some (ctrPacketDiscarded port)
  else if flitType f = 1 ∧ writeAllowed (flitSrc f) (flitDst f) (flitAddr f) = false then some ctrWriteRefused
  else none

/-- The phase after a discarded head: its payload flits are dropped, and where LEN itself is invalid everything up to the next head. -/
def dropPhase (f : BitVec 128) : RxPhase :=
  if 32 < flitLen f then .dropToHead else if flitLen f = 0 then .head else .drop (flitLen f)

/-- A whole packet goes to its output, where `grants` grants are made. -/
def State.forwardPacket (s : State) (port out grants : Nat) (h : BitVec 128) (flits : List (BitVec 128)) : State :=
  ({ s with purlin := (s.purlin.join (waitFlits out port h flits)).grantN out grants }).setPhase port .head

/-- A good head flit at an input port (R46, R52 to R54): `out`: the output its router sends it to. -/
def State.takeHead (s : State) (port out : Nat) (f : BitVec 128) (grants : Nat) : State :=
  match headFault port f with
  | some c => (s.count c).setPhase port (dropPhase f)
  | none =>
    if flitLen f = 0 then s.forwardPacket port out grants f [f] else s.setPhase port (.payload (flitLen f) out [f])

/-- A good payload flit at an input port. -/
def State.takePayload (s : State) (port : Nat) (f : BitVec 128) (grants : Nat) : State :=
  match s.purlin.phase port with
  | .payload left out (h :: flits) =>
    if left ≤ 1 then s.forwardPacket port out grants h (h :: flits ++ [f])
    else s.setPhase port (.payload (left - 1) out (h :: flits ++ [f]))
  | .drop left => s.setPhase port (if left ≤ 1 then .head else .drop (left - 1))
  | _ => s

/-- An uncorrectable flit: the packet it belongs to is discarded (R57). -/
def State.takeBad (s : State) (port : Nat) (isHead : Bool) : State :=
  if isHead then s.setPhase port .dropToHead
  else
    match s.purlin.phase port with
    | .payload left _ _ => s.setPhase port (if left ≤ 1 then .head else .drop (left - 1))
    | .drop left => s.setPhase port (if left ≤ 1 then .head else .drop (left - 1))
    | _ => s

/-- The output a head flit is sent to: a link between routers, or the node it is addressed to when that is at this router. -/
def routeTo (hop : Nat) (f : BitVec 128) : Nat := if 64 ≤ hop then hop else flitDst f

/-- PURLIN_FLIT_RECEIVE: a router receives a flit, checks and corrects it, and forwards or discards the packet (R55 to R57). The
source router of an endpoint inserts SRC (R53); a node sends no request for whose reply it has no space (R67). -/
def execPurlinFlitReceive (t port hop : Nat) (isHead : Bool) (sent : BitVec 128) (err : BitVec 144) (grants : Nat)
    (s : State) : Result :=
  let s := s.tick t
  if s.unitHeld 0 then .next s else
  let s := { s with purlin.delivered := [] }
  let mine : Bool := decide (port < 64)
  let own (f : BitVec 128) : BitVec 128 := if mine && isHead then withSrc f port else f
  let request : Bool := mine && isHead && decide (flitType sent ≤ 1)
  if request && !s.purlin.hasSpace port (flitType sent) then .next s
  else
    let s :=
      if request then { s with purlin := s.purlin.note (own sent) (routeTo hop sent) s.now }
      else if mine && !isHead then { s with purlin := s.purlin.noteMore port sent } else s
    let take (s : State) (f : BitVec 128) : State :=
      if isHead then s.takeHead port (routeTo hop f) (own f) grants else s.takePayload port f grants
    match flitAtRouter sent err with
    | (.clean, f) => .next (take s f)
    | (.corrected, f) => .next (take (s.count (ctrFlitCorrected port)) f)
    | (.uncorrectable, _) => .next ((s.count (ctrFlitUncorrectable port)).takeBad port isHead)

/-- No reply in 50 µs: the request is sent once more with the same TAG, then reported as a device fault (R58). -/
def execPurlinRequestTimeout (t src tag : Nat) (s : State) : Result :=
  let s := s.tick t
  if s.unitHeld 0 then .next s else
  match s.purlin.outstanding.find? fun o => o.src = src ∧ o.tag = tag with
  | none => .next s
  | some o =>
    if s.now < o.sentAt + 50 * usNs then .next s
    else
      let rest := s.purlin.outstanding.filter fun x => ¬ (x.src = src ∧ x.tag = tag)
      if o.attempts = 1 then
        let s1 : State := { s with purlin.outstanding := rest ++ [{ o with attempts := 2, sentAt := s.now }] }
        match o.flits with
        | [] => .next s1
        | h :: _ =>
          match headFault src h with
          | some c => .next (s1.count c)
          | none => .next { s1 with purlin := s1.purlin.join (waitFlits o.out src h o.flits) }
      else
        .next ({ s with
          purlin.outstanding := rest
          purlin.deviceFaults := s.purlin.deviceFaults ++ [(o.src, o.dst)] }.raise 0xA001 [o.src, o.dst])

end Sys2Proof.Machine
end

