-- ==== Sys2Proof/Machine/LaneTimers.lean ====
section
/-!
DEFINITION. The steps of the lanes that time or persistence brings (R222, R226, R237, R248, R284, R291, R317, R320, R350, R358, R364).
-/

namespace Sys2Proof.Machine

/-- FAIL_ALARM_SET (R364). -/
def execFailAlarmSet (t c : Nat) (s : State) : Result :=
  .next ((s.tick t).lanesWork fun s w => w.failAlarm s s.frame.period c)

/-- FAIL_ALARM_CLEAR (R364). -/
def execFailAlarmClear (t c : Nat) (s : State) : Result :=
  .next ((s.tick t).lanesWork fun s w => w.failAlarm s s.frame.period c)

/-- MARGINAL_WARNING_SET (R364). -/
def execMarginalWarningSet (t c : Nat) (s : State) : Result :=
  .next ((s.tick t).lanesWork fun s w => w.marginalAlarm s s.frame.period c)

/-- MARGINAL_WARNING_CLEAR (R364). -/
def execMarginalWarningClear (t c : Nat) (s : State) : Result :=
  .next ((s.tick t).lanesWork fun s w => w.marginalAlarm s s.frame.period c)

/-- SEA_STATE_SAMPLE: a due sample of the waves (R284, R285). -/
def execSeaStateSample (t : Nat) (s : State) : Result :=
  .next ((s.tick t).lanesWork fun s w => w.setCore (w.core.seaSample s))

/-- GAIN_BLEND_END: the blend over, a held request started (R291). -/
def execGainBlendEnd (t : Nat) (s : State) : Result :=
  .next ((s.tick t).lanesWork fun s w => w.endBlend s)

/-- CROSSING_PERSISTENCE: RUNDOWN entered or left, and the end of a RUNDOWN at zero force (R317, R319, R322). -/
def execCrossingPersistence (t act : Nat) (s : State) : Result :=
  .next <| (s.tick t).lanesWork fun s w =>
    let prev := (dispatchedOf ((w.lane.held.map (·.sections)).getD [])).getD act (0, 0)
    (w.crossingCheck s act).rundownEnd s s.now act prev

/-- TRANSIT_TIMEOUT (R320). -/
def execTransitTimeout (t act : Nat) (s : State) : Result :=
  .next ((s.tick t).lanesWork fun s w => w.transitTimeout s s.now act)

/-- ACTUATOR_READY_TIMEOUT: no ready indication within FB_TIMEOUT (R350). -/
def execActuatorReadyTimeout (t act : Nat) (s : State) : Result :=
  .next ((s.tick t).lanesWork fun s w => w.availability s s.now act)

/-- A change of a reference state that time brings: states change only at the end of the fusion phase (R226). -/
def Work.atFusionEnd (w : Work) (f : Work → Work) : Work := if w.lane.fused then f w else w

/-- REFERENCE_TIMEOUT: a reference without an applied sample becomes STALE (R223, R226). -/
def execReferenceTimeout (t ref : Nat) (s : State) : Result :=
  .next ((s.tick t).lanesWork fun s w => w.atFusionEnd fun w => (w.timeoutCheck s s.now ref).showState ref)

/-- SUSPECT_RECOVERY (R226). -/
def execSuspectRecovery (t ref : Nat) (s : State) : Result :=
  .next ((s.tick t).lanesWork fun s w => w.atFusionEnd fun w => (w.recoveryCheck s s.now ref).showState ref)

/-- REACCEPTANCE_TIME (R226). -/
def execReacceptanceTime (t ref : Nat) (s : State) : Result :=
  .next ((s.tick t).lanesWork fun s w => w.atFusionEnd fun w => (w.reacceptCheck s s.now ref).showState ref)

/-- SATELLITE_BAR_EXPIRY (R237). -/
def execSatelliteBarExpiry (t : Nat) (s : State) : Result :=
  .next ((s.tick t).lanesWork fun s w => w.barExpiry s.now)

/-- TARGET_TRACK_TIMEOUT: COASTING (R222). -/
def execTargetTrackTimeout (t track : Nat) (s : State) : Result :=
  .next ((s.tick t).lanesWork fun s w => w.targetCheck s s.now track)

/-- TARGET_TRACK_LOST: LOST, and the end of FOLLOW-TARGET on it (R222, R299). -/
def execTargetTrackLost (t track : Nat) (s : State) : Result :=
  .next ((s.tick t).lanesWork fun s w => (w.targetCheck s s.now track).followLost)

/-- REFINEMENT_SHADOW_STEP (R248, R249). -/
def execRefinementShadowStep (t : Nat) (s : State) : Result :=
  .next ((s.tick t).lanesWork fun s w => w.shadowStep s s.now)

end Sys2Proof.Machine
end

