-- ==== Sys2Proof/Machine/Dispatch.lean ====
section
/-!
DEFINITION. The dispatch of the commands: one arm per row of the opcode table, each one call of its meaning.
-/

namespace Sys2Proof.Machine

/-- The effect of a command. -/
def exec (i : Instr) (s : State) : Host.Outcome State Fault Refusal :=
  match i with
  | .frameStrobe t e => Sys2Proof.Machine.execFrameStrobe t e s
  | .snapshotCutoff t => Sys2Proof.Machine.execSnapshotCutoff t s
  | .sampleArrival t a => Sys2Proof.Machine.execSampleArrival t a s
  | .gnssSectionLate t => Sys2Proof.Machine.execGnssSectionLate t s
  | .subframeCutoff t copiesA copiesB ps => Sys2Proof.Machine.execSubframeCutoff t copiesA copiesB ps s
  | .snapshotReceive t lane copies ps => Sys2Proof.Machine.execSnapshotReceive t lane copies ps s
  | .snapshotDeadline t lane => Sys2Proof.Machine.execSnapshotDeadline t lane s
  | .fusionPhase t ps => Sys2Proof.Machine.execFusionPhase t ps s
  | .observerControlPhase t => Sys2Proof.Machine.execObserverControlPhase t s
  | .allocationPhase t readA readB => Sys2Proof.Machine.execAllocationPhase t readA readB s
  | .ridgeCompare t lateA lateB corruptA corruptB agree => Sys2Proof.Machine.execRidgeCompare t lateA lateB corruptA corruptB agree s
  | .replayCompare t lateA lateB corruptA corruptB agree => Sys2Proof.Machine.execReplayCompare t lateA lateB corruptA corruptB agree s
  | .knownAnswerSet t passA passB => Sys2Proof.Machine.execKnownAnswerSet t passA passB s
  | .healthResetKatComplete t passA passB => Sys2Proof.Machine.execHealthResetKatComplete t passA passB s
  | .backgroundWindow t fits sliceA sliceB rfOk verdictOk scrubA scrubB => Sys2Proof.Machine.execBackgroundWindow t fits sliceA sliceB rfOk verdictOk scrubA scrubB s
  | .tailReserve t => Sys2Proof.Machine.execTailReserve t s
  | .outboxForward t => Sys2Proof.Machine.execOutboxForward t s
  | .consequenceCaseRun t readA readB => Sys2Proof.Machine.execConsequenceCaseRun t readA readB s
  | .failAlarmSet t c => Sys2Proof.Machine.execFailAlarmSet t c s
  | .failAlarmClear t c => Sys2Proof.Machine.execFailAlarmClear t c s
  | .marginalWarningSet t c => Sys2Proof.Machine.execMarginalWarningSet t c s
  | .marginalWarningClear t c => Sys2Proof.Machine.execMarginalWarningClear t c s
  | .seaStateSample t => Sys2Proof.Machine.execSeaStateSample t s
  | .gainBlendEnd t => Sys2Proof.Machine.execGainBlendEnd t s
  | .crossingPersistence t act => Sys2Proof.Machine.execCrossingPersistence t act s
  | .transitTimeout t act => Sys2Proof.Machine.execTransitTimeout t act s
  | .actuatorReadyTimeout t act => Sys2Proof.Machine.execActuatorReadyTimeout t act s
  | .battenStart lane slot => Sys2Proof.Machine.execBattenStart lane slot s
  | .battenProgramEnd lane inertial => Sys2Proof.Machine.execBattenProgramEnd lane inertial s
  | .inertialStart t k ps => Sys2Proof.Machine.execInertialStart t k ps s
  | .nop r f => Sys2Proof.Machine.execNop r f s
  | .shape r f => Sys2Proof.Machine.execShape r f s
  | .endProg r f => Sys2Proof.Machine.execEndProg r f s
  | .movc r f => Sys2Proof.Machine.execMovc r f s
  | .movd r f => Sys2Proof.Machine.execMovd r f s
  | .mvc r f => Sys2Proof.Machine.execMvc r f s
  | .mvd r f => Sys2Proof.Machine.execMvd r f s
  | .mmc r f => Sys2Proof.Machine.execMmc r f s
  | .mmd r f => Sys2Proof.Machine.execMmd r f s
  | .vscl r f => Sys2Proof.Machine.execVscl r f s
  | .vadd r f => Sys2Proof.Machine.execVadd r f s
  | .vsub r f => Sys2Proof.Machine.execVsub r f s
  | .vmul r f => Sys2Proof.Machine.execVmul r f s
  | .vabs r f => Sys2Proof.Machine.execVabs r f s
  | .vclmp r f => Sys2Proof.Machine.execVclmp r f s
  | .vsel r f => Sys2Proof.Machine.execVsel r f s
  | .vcgt r f => Sys2Proof.Machine.execVcgt r f s
  | .rlim r f => Sys2Proof.Machine.execRlim r f s
  | .blnd r f => Sys2Proof.Machine.execBlnd r f s
  | .sincos r f => Sys2Proof.Machine.execSincos r f s
  | .rot2 r f => Sys2Proof.Machine.execRot2 r f s
  | .div r f => Sys2Proof.Machine.execDiv r f s
  | .isqrt r f => Sys2Proof.Machine.execIsqrt r f s
  | .tbl r f => Sys2Proof.Machine.execTbl r f s
  | .atan2 r f => Sys2Proof.Machine.execAtan2 r f s
  | .referenceTimeout t ref => Sys2Proof.Machine.execReferenceTimeout t ref s
  | .suspectRecovery t ref => Sys2Proof.Machine.execSuspectRecovery t ref s
  | .reacceptanceTime t ref => Sys2Proof.Machine.execReacceptanceTime t ref s
  | .satelliteBarExpiry t => Sys2Proof.Machine.execSatelliteBarExpiry t s
  | .targetTrackTimeout t track => Sys2Proof.Machine.execTargetTrackTimeout t track s
  | .targetTrackLost t track => Sys2Proof.Machine.execTargetTrackLost t track s
  | .refinementShadowStep t => Sys2Proof.Machine.execRefinementShadowStep t s
  | .timeOffsetMeasurement t n unc => Sys2Proof.Machine.execTimeOffsetMeasurement t n unc s
  | .sourceQualified t n => Sys2Proof.Machine.execSourceQualified t n s
  | .revertDelayExpiry t n => Sys2Proof.Machine.execRevertDelayExpiry t n s
  | .sourceConflict t => Sys2Proof.Machine.execSourceConflict t s
  | .holdoverLimit t => Sys2Proof.Machine.execHoldoverLimit t s
  | .ocxoWarmupComplete t => Sys2Proof.Machine.execOcxoWarmupComplete t s
  | .ocxoFailure t => Sys2Proof.Machine.execOcxoFailure t s
  | .timePulse t => Sys2Proof.Machine.execTimePulse t s
  | .stepCancel t => Sys2Proof.Machine.execStepCancel t s
  | .leapSecond t => Sys2Proof.Machine.execLeapSecond t s
  | .ptpMessageReceive t n domain transport sender msg => Sys2Proof.Machine.execPtpMessageReceive t n domain transport sender msg s
  | .ptpAnnounceTimeout t n => Sys2Proof.Machine.execPtpAnnounceTimeout t n s
  | .ptpMessageSend t n kind => Sys2Proof.Machine.execPtpMessageSend t n kind s
  | .timeMarkSend t => Sys2Proof.Machine.execTimeMarkSend t s
  | .timeLabelSend t => Sys2Proof.Machine.execTimeLabelSend t s
  | .hostTimeMark t delay err => Sys2Proof.Machine.execHostTimeMark t delay err s
  | .hostMarkTimeout t => Sys2Proof.Machine.execHostMarkTimeout t s
  | .antennaBiasCheck t ant current => Sys2Proof.Machine.execAntennaBiasCheck t ant current s
  | .antennaBiasRetest t ant current => Sys2Proof.Machine.execAntennaBiasRetest t ant current s
  | .channelManagerRun t views => Sys2Proof.Machine.execChannelManagerRun t views s
  | .acquisitionBlock t engine ant sys svid gloK code sum noise => Sys2Proof.Machine.execAcquisitionBlock t engine ant sys svid gloK code sum noise s
  | .fllToPll t ant ch lockAt => Sys2Proof.Machine.execFllToPll t ant ch lockAt s
  | .carrierPhaseValid t ant ch above => Sys2Proof.Machine.execCarrierPhaseValid t ant ch above s
  | .lockLoss t ant ch cn0 lowFor => Sys2Proof.Machine.execLockLoss t ant ch cn0 lowFor s
  | .channelHoldExpiry t ant ch => Sys2Proof.Machine.execChannelHoldExpiry t ant ch s
  | .navMessageDecode t set facts => Sys2Proof.Machine.execNavMessageDecode t set facts s
  | .assistStoreWrite t written => Sys2Proof.Machine.execAssistStoreWrite t written s
  | .spectrumScan t ant chain lines => Sys2Proof.Machine.execSpectrumScan t ant chain lines s
  | .notchRelease t ant chain notch => Sys2Proof.Machine.execNotchRelease t ant chain notch s
  | .spoofIndicatorClear t k => Sys2Proof.Machine.execSpoofIndicatorClear t k s
  | .gnssRfTestComplete t passed report => Sys2Proof.Machine.execGnssRfTestComplete t passed report s
  | .purlinFlitReceive t port hop isHead sent err grants => Sys2Proof.Machine.execPurlinFlitReceive t port hop isHead sent err grants s
  | .purlinRequestTimeout t src tag => Sys2Proof.Machine.execPurlinRequestTimeout t src tag s
  | .eavesPacketReceive t link toHost a => Sys2Proof.Machine.execEavesPacketReceive t link toHost a s
  | .eavesLinkDown t link misaligned => Sys2Proof.Machine.execEavesLinkDown t link misaligned s
  | .bothLinksDown t => Sys2Proof.Machine.execBothLinksDown t s
  | .eavesLinkRejoin t link latency => Sys2Proof.Machine.execEavesLinkRejoin t link latency s
  | .eavesCommandForward t present => Sys2Proof.Machine.execEavesCommandForward t present s
  | .eventForward t => Sys2Proof.Machine.execEventForward t s
  | .suppressionNotice t => Sys2Proof.Machine.execSuppressionNotice t s
  | .safetyTick t c check errs => Sys2Proof.Machine.execSafetyTick t c check errs s
  | .safetyInputAccept t c input mv ua => Sys2Proof.Machine.execSafetyInputAccept t c input mv ua s
  | .discrepancyFault t c k => Sys2Proof.Machine.execDiscrepancyFault t c k s
  | .testPulse t c source dropped sourceOk => Sys2Proof.Machine.execTestPulse t c source dropped sourceOk s
  | .switchTest t c p fallsX fallsY => Sys2Proof.Machine.execSwitchTest t c p fallsX fallsY s
  | .feedbackTimeout t c p => Sys2Proof.Machine.execFeedbackTimeout t c p s
  | .crossCompareExchange t c ok readDiffer => Sys2Proof.Machine.execCrossCompareExchange t c ok readDiffer s
  | .xirosPduReceive t transport port addr bytes => Sys2Proof.Machine.execXirosPduReceive t transport port addr bytes s
  | .xirosWatchdog t ch c => Sys2Proof.Machine.execXirosWatchdog t ch c s
  | .xirosTransmit t c => Sys2Proof.Machine.execXirosTransmit t c s
  | .fld2Undervoltage t c => Sys2Proof.Machine.execFld2Undervoltage t c s
  | .fld2SupplyLoss t c => Sys2Proof.Machine.execFld2SupplyLoss t c s
  | .fld2Recovery t c => Sys2Proof.Machine.execFld2Recovery t c s
  | .safetySelfTestComplete t failX failY => Sys2Proof.Machine.execSafetySelfTestComplete t failX failY s
  | .dioInputAccept t c mv ua => Sys2Proof.Machine.execDioInputAccept t c mv ua s
  | .dutyDiscreteChange t high => Sys2Proof.Machine.execDutyDiscreteChange t high s
  | .wireBreakSet t c => Sys2Proof.Machine.execWireBreakSet t c s
  | .wireBreakClear t c => Sys2Proof.Machine.execWireBreakClear t c s
  | .outputPass t => Sys2Proof.Machine.execOutputPass t s
  | .extDriveFault t c mv => Sys2Proof.Machine.execExtDriveFault t c mv s
  | .outputOverload t c => Sys2Proof.Machine.execOutputOverload t c s
  | .readbackFault t c mv => Sys2Proof.Machine.execReadbackFault t c mv s
  | .groupOverloadFault t g currents => Sys2Proof.Machine.execGroupOverloadFault t g currents s
  | .outputTestPulseEnd t c mv => Sys2Proof.Machine.execOutputTestPulseEnd t c mv s
  | .outputWatchdogExpiry t => Sys2Proof.Machine.execOutputWatchdogExpiry t s
  | .hostOutputTimeout t c => Sys2Proof.Machine.execHostOutputTimeout t c s
  | .channelFaultClear r c mask present => Sys2Proof.Machine.execChannelFaultClear r c mask present s
  | .logicTermPass t => Sys2Proof.Machine.execLogicTermPass t s
  | .fieldSupplyState t group volts peak least => Sys2Proof.Machine.execFieldSupplyState t group volts peak least s
  | .namurLineFault t k ua => Sys2Proof.Machine.execNamurLineFault t k ua s
  | .adcSample t codes => Sys2Proof.Machine.execAdcSample t codes s
  | .inputValidityChange t source => Sys2Proof.Machine.execInputValidityChange t source s
  | .shuntOpen t source ua => Sys2Proof.Machine.execShuntOpen t source ua s
  | .shuntRetest t source ua => Sys2Proof.Machine.execShuntRetest t source ua s
  | .packedSampleClose t => Sys2Proof.Machine.execPackedSampleClose t s
  | .pulseInputEdge t k a b => Sys2Proof.Machine.execPulseInputEdge t k a b s
  | .analogueOutputFault t k kind present => Sys2Proof.Machine.execAnalogueOutputFault t k kind present s
  | .calibrationPhase t source => Sys2Proof.Machine.execCalibrationPhase t source s
  | .calibrationHoldEnd t source offset gain => Sys2Proof.Machine.execCalibrationHoldEnd t source offset gain s
  | .loadShedContactAccept t contact ua => Sys2Proof.Machine.execLoadShedContactAccept t contact ua s
  | .canFrameReceive t b f => Sys2Proof.Machine.execCanFrameReceive t b f s
  | .mailboxUnlock t b m => Sys2Proof.Machine.execMailboxUnlock t b m s
  | .canTransmitAttempt t b o => Sys2Proof.Machine.execCanTransmitAttempt t b o s
  | .busOffRecovery t b => Sys2Proof.Machine.execBusOffRecovery t b s
  | .entryLifetimeExpiry t => Sys2Proof.Machine.execEntryLifetimeExpiry t s
  | .rateDetectTimeout t b => Sys2Proof.Machine.execRateDetectTimeout t b s
  | .serialCharacterReceive t p c err overflow => Sys2Proof.Machine.execSerialCharacterReceive t p c err overflow s
  | .serialGapTimeout t p => Sys2Proof.Machine.execSerialGapTimeout t p s
  | .peerStateReceive t bytes => Sys2Proof.Machine.execPeerStateReceive t bytes s
  | .peerDataReceive t bytes => Sys2Proof.Machine.execPeerDataReceive t bytes s
  | .peerLinkLost t physicalUp => Sys2Proof.Machine.execPeerLinkLost t physicalUp s
  | .dualDutyRelease t => Sys2Proof.Machine.execDualDutyRelease t s
  | .roleBWait t => Sys2Proof.Machine.execRoleBWait t s
  | .holdTimeExpiry t => Sys2Proof.Machine.execHoldTimeExpiry t s
  | .autoRejoin t => Sys2Proof.Machine.execAutoRejoin t s
  | .rejoinBootComplete t bootOk configOk => Sys2Proof.Machine.execRejoinBootComplete t bootOk configOk s
  | .rejoinCatchUpComplete t imageOk => Sys2Proof.Machine.execRejoinCatchUpComplete t imageOk s
  | .rejoinCatchUpTimeout t => Sys2Proof.Machine.execRejoinCatchUpTimeout t s
  | .rejoinTrialComplete t => Sys2Proof.Machine.execRejoinTrialComplete t s
  | .hserGapTimeout t last rx => Sys2Proof.Machine.execHserGapTimeout t last rx s
  | .prpSupervision t => Sys2Proof.Machine.execPrpSupervision t s
  | .pendingSessionLapse t number => Sys2Proof.Machine.execPendingSessionLapse t number s
  | .lockoutExpiry t user => Sys2Proof.Machine.execLockoutExpiry t user s
  | .sessionTimeout t number => Sys2Proof.Machine.execSessionTimeout t number s
  | .storedReplyExpiry t number tag => Sys2Proof.Machine.execStoredReplyExpiry t number tag s
  | .resultExpiry t n => Sys2Proof.Machine.execResultExpiry t n s
  | .eventRetransmit t number seq => Sys2Proof.Machine.execEventRetransmit t number seq s
  | .bulkWindowExpiry t n => Sys2Proof.Machine.execBulkWindowExpiry t n s
  | .fieldTimeout t session tag => Sys2Proof.Machine.execFieldTimeout t session tag s
  | .operationCompletion t n ok stored report => Sys2Proof.Machine.execOperationCompletion t n ok stored report s
  | .identify r p => Sys2Proof.Machine.execIdentify r p s
  | .status r p => Sys2Proof.Machine.execStatus r p s
  | .paramRead r ids => Sys2Proof.Machine.execParamRead r ids s
  | .paramWrite r p present => Sys2Proof.Machine.execParamWrite r p present s
  | .counterRead r p => Sys2Proof.Machine.execCounterRead r p s
  | .counterReadClear r p => Sys2Proof.Machine.execCounterReadClear r p s
  | .handleQuery r p => Sys2Proof.Machine.execHandleQuery r p s
  | .handleAck r p => Sys2Proof.Machine.execHandleAck r p s
  | .handleCancel r p => Sys2Proof.Machine.execHandleCancel r p s
  | .stageOpen r p => Sys2Proof.Machine.execStageOpen r p s
  | .stagePiece r p => Sys2Proof.Machine.execStagePiece r p s
  | .stagePieceComplete t h => Sys2Proof.Machine.execStagePieceComplete t h s
  | .stageDiscard r p => Sys2Proof.Machine.execStageDiscard r p s
  | .stagedSetExpiry t => Sys2Proof.Machine.execStagedSetExpiry t s
  | .commit r p => Sys2Proof.Machine.execCommit r p s
  | .verificationComplete t lane fault => Sys2Proof.Machine.execVerificationComplete t lane fault s
  | .commitPersisted t ok => Sys2Proof.Machine.execCommitPersisted t ok s
  | .tableRead r p => Sys2Proof.Machine.execTableRead r p s
  | .firmwareStage r p => Sys2Proof.Machine.execFirmwareStage r p s
  | .firmwareActivate r p => Sys2Proof.Machine.execFirmwareActivate r p s
  | .firmwareTrialExpiry t part => Sys2Proof.Machine.execFirmwareTrialExpiry t part s
  | .bulkRead r handle p => Sys2Proof.Machine.execBulkRead r handle p s
  | .bulkWrite r handle p => Sys2Proof.Machine.execBulkWrite r handle p s
  | .controlTake r p => Sys2Proof.Machine.execControlTake r p s
  | .modeSet r p => Sys2Proof.Machine.execModeSet r p s
  | .setpointSet r p => Sys2Proof.Machine.execSetpointSet r p s
  | .trackContinue r p => Sys2Proof.Machine.execTrackContinue r p s
  | .controlRelease r p => Sys2Proof.Machine.execControlRelease r p s
  | .refSelect r p => Sys2Proof.Machine.execRefSelect r p s
  | .refDeselect r p => Sys2Proof.Machine.execRefDeselect r p s
  | .refReaccept r p => Sys2Proof.Machine.execRefReaccept r p s
  | .refineAdopt r p => Sys2Proof.Machine.execRefineAdopt r p s
  | .refStatus r p => Sys2Proof.Machine.execRefStatus r p s
  | .gnssExclude r p => Sys2Proof.Machine.execGnssExclude r p s
  | .gnssRfTest r p => Sys2Proof.Machine.execGnssRfTest r p s
  | .assistSave r p => Sys2Proof.Machine.execAssistSave r p s
  | .gnssStatus r p => Sys2Proof.Machine.execGnssStatus r p s
  | .stepConfirm r p => Sys2Proof.Machine.execStepConfirm r p s
  | .timeSet r p => Sys2Proof.Machine.execTimeSet r p s
  | .txtsRead r p => Sys2Proof.Machine.execTxtsRead r p s
  | .timeStatus r p => Sys2Proof.Machine.execTimeStatus r p s
  | .actDisable r p => Sys2Proof.Machine.execActDisable r p s
  | .actEnable r p => Sys2Proof.Machine.execActEnable r p s
  | .allocStatus r p => Sys2Proof.Machine.execAllocStatus r p s
  | .caseStatus r p => Sys2Proof.Machine.execCaseStatus r p s
  | .dioHostOutput r p => Sys2Proof.Machine.execDioHostOutput r p s
  | .dioForce r p => Sys2Proof.Machine.execDioForce r p s
  | .dioOutputTest r p => Sys2Proof.Machine.execDioOutputTest r p s
  | .aoHostOutput r p => Sys2Proof.Machine.execAoHostOutput r p s
  | .aoForce r p => Sys2Proof.Machine.execAoForce r p s
  | .aiCalibrate r p => Sys2Proof.Machine.execAiCalibrate r p s
  | .calibrateAll r p => Sys2Proof.Machine.execCalibrateAll r p s
  | .busRateDetect r p => Sys2Proof.Machine.execBusRateDetect r p s
  | .busRecover r p => Sys2Proof.Machine.execBusRecover r p s
  | .safetyReset r p => Sys2Proof.Machine.execSafetyReset r p s
  | .safetyRestart r p => Sys2Proof.Machine.execSafetyRestart r p s
  | .safetyStatus r p => Sys2Proof.Machine.execSafetyStatus r p s
  | .recExport r p => Sys2Proof.Machine.execRecExport r p s
  | .recExportComplete t h skipped => Sys2Proof.Machine.execRecExportComplete t h skipped s
  | .recFlush r p => Sys2Proof.Machine.execRecFlush r p s
  | .freezeTrigger r p => Sys2Proof.Machine.execFreezeTrigger r p s
  | .freezeRelease r p => Sys2Proof.Machine.execFreezeRelease r p s
  | .nandReturn r p => Sys2Proof.Machine.execNandReturn r p s
  | .nandReturnComplete t ok => Sys2Proof.Machine.execNandReturnComplete t ok s
  | .healthReset r p => Sys2Proof.Machine.execHealthReset r p s
  | .holdRamp r p => Sys2Proof.Machine.execHoldRamp r p s
  | .laneRejoin r p => Sys2Proof.Machine.execLaneRejoin r p s
  | .fullTest r p => Sys2Proof.Machine.execFullTest r p s
  | .dutyTransfer r p => Sys2Proof.Machine.execDutyTransfer r p s
  | .sessionOpen r user authority nonce => Sys2Proof.Machine.execSessionOpen r user authority nonce s
  | .sessionProve r proof => Sys2Proof.Machine.execSessionProve r proof s
  | .sessionClose r p => Sys2Proof.Machine.execSessionClose r p s
  | .keepalive r p => Sys2Proof.Machine.execKeepalive r p s
  | .eventSubscribe r mask minSeverity => Sys2Proof.Machine.execEventSubscribe r mask minSeverity s
  | .eventAck r seq => Sys2Proof.Machine.execEventAck r seq s
  | .eavesStatus r p => Sys2Proof.Machine.execEavesStatus r p s
  | .resetRequest r p => Sys2Proof.Machine.execResetRequest r p s
  | .softwareResetAssert t => Sys2Proof.Machine.execSoftwareResetAssert t s
  | .resetHistory r p => Sys2Proof.Machine.execResetHistory r p s
  | .memoryMarch r p => Sys2Proof.Machine.execMemoryMarch r p s
  | .memoryMarchComplete t fail => Sys2Proof.Machine.execMemoryMarchComplete t fail s
  | .memoryStatus r p => Sys2Proof.Machine.execMemoryStatus r p s
  | .debugOpen r p => Sys2Proof.Machine.execDebugOpen r p s
  | .debugEraseComplete t ok => Sys2Proof.Machine.execDebugEraseComplete t ok s
  | .debugResetAssert t => Sys2Proof.Machine.execDebugResetAssert t s
  | .userSet r p => Sys2Proof.Machine.execUserSet r p s
  | .reprovision r p => Sys2Proof.Machine.execReprovision r p s
  | .w1cClear r id mask setNow => Sys2Proof.Machine.execW1cClear r id mask setNow s
  | .statusReadClear r id => Sys2Proof.Machine.execStatusReadClear r id s
  | .eventRecord t => Sys2Proof.Machine.execEventRecord t s
  | .yealmAgeExpiry t region => Sys2Proof.Machine.execYealmAgeExpiry t region s
  | .yealmWriteComplete t failA failB => Sys2Proof.Machine.execYealmWriteComplete t failA failB s
  | .nandTimeout t d asked => Sys2Proof.Machine.execNandTimeout t d asked s
  | .trendRecord t => Sys2Proof.Machine.execTrendRecord t s
  | .freezeCopyComplete t => Sys2Proof.Machine.execFreezeCopyComplete t s
  | .operatingSecond t temp => Sys2Proof.Machine.execOperatingSecond t temp s
  | .memoryPatrol t m r v passDone => Sys2Proof.Machine.execMemoryPatrol t m r v passDone s
  | .resetSourceAssert t c => Sys2Proof.Machine.execResetSourceAssert t c s
  | .resetSourceRelease t c aon parts => Sys2Proof.Machine.execResetSourceRelease t c aon parts s
  | .pinStuck t => Sys2Proof.Machine.execPinStuck t s
  | .hostWatchdogExpiry t served => Sys2Proof.Machine.execHostWatchdogExpiry t served s
  | .laneWatchdogExpiry t lane served => Sys2Proof.Machine.execLaneWatchdogExpiry t lane served s
  | .lockupDetect t p stuck => Sys2Proof.Machine.execLockupDetect t p stuck s
  | .clockMonitorWindow t island count => Sys2Proof.Machine.execClockMonitorWindow t island count s
  | .optionLoadComplete t image => Sys2Proof.Machine.execOptionLoadComplete t image s
  | .bringupComplete t unit distanceKm unreadable fram wrong => Sys2Proof.Machine.execBringupComplete t unit distanceKm unreadable fram wrong s
  | .powerInputState t input volts lasted => Sys2Proof.Machine.execPowerInputState t input volts lasted s
  | .powerFailDeclared t => Sys2Proof.Machine.execPowerFailDeclared t s
  | .powerFailOutputStop t => Sys2Proof.Machine.execPowerFailOutputStop t s
  | .powerFailFinalYealm t => Sys2Proof.Machine.execPowerFailFinalYealm t s
  | .orderlyShutdown t => Sys2Proof.Machine.execOrderlyShutdown t s
  | .bankReady t volts => Sys2Proof.Machine.execBankReady t volts s
  | .bankCapacityTest t charge chargerOk => Sys2Proof.Machine.execBankCapacityTest t charge chargerOk s
  | .tamperOpen t supplied => Sys2Proof.Machine.execTamperOpen t supplied s
  | .randomSourceFailure t part => Sys2Proof.Machine.execRandomSourceFailure t part s
  | .bitSynchronisation t ant ch => Sys2Proof.Machine.execBitSynchronisation t ant ch s
  | .safetyWatchdogExpiry t c => Sys2Proof.Machine.execSafetyWatchdogExpiry t c s
  | .safetyRailBrownOut t => Sys2Proof.Machine.execSafetyRailBrownOut t s
  | .namurInputAccept t k ua => Sys2Proof.Machine.execNamurInputAccept t k ua s
  | .canBusError t b lec step onTx => Sys2Proof.Machine.execCanBusError t b lec step onTx s
  | .linkAcknowledgementReceive t k seq returned => Sys2Proof.Machine.execLinkAcknowledgementReceive t k seq returned s
  | .eavesRetryResend t k seq => Sys2Proof.Machine.execEavesRetryResend t k seq s
  | .fieldNetworkFrameReceive t port source rtcm data => Sys2Proof.Machine.execFieldNetworkFrameReceive t port source rtcm data s
  | .packetCheckFailure t transport addr prp bytes => Sys2Proof.Machine.execPacketCheckFailure t transport addr prp bytes s
  | .chargerFault t => Sys2Proof.Machine.execChargerFault t s
  | .bankReachesVbm t => Sys2Proof.Machine.execBankReachesVbm t s

end Sys2Proof.Machine
end

