-- ==== Sys2Proof/WellFormed.lean ====
section
/-!
DEFINITION. Which commands are well formed: every operand lies in the range the spec gives the thing it names. An ill-formed
command names nothing of the module; its meaning is still total.
-/

namespace Sys2Proof

open Sys2Proof.Machine

/-- A time of the 64-bit monotonic count (R13). -/
def tOk (t : Nat) : Bool := decide (t < 18446744073709551616)

/-- A payload that fits a packet beside its 16-byte authentication tag (R564, R570). -/
def fits (p : List Byte) : Bool := decide (p.length ≤ 8176)

/-- A request header: one of the three transports, a 16-bit session number (R562, R565). -/
def reqWf (r : Req) : Bool := tOk r.t && decide (r.transport ≤ 2) && decide (r.session < 65536)

/-- The fields of a Batten instruction, each in its width; destination formats 2 and 3 are refused at staging (R258, R263). -/
def fieldsWf (f : BFields) : Bool :=
  decide (f.fmt ≤ 1) && decide (f.osh ≤ 63) && decide (f.dst < 32768) && decide (f.srca < 32768) && decide (f.srcb < 65536)

/-- Every operand in range: antennas 0 and 1, receiver channels 0 to 191, actuators 0 to 23, references 0 to 25, tracks 0 to 7,
cases 0 to 31, channels of digital I/O 1 to 32, buses 1 to 6, serial ports 1 to 8, circuits and permits 0 to 3, Xiros connections
0 to 15, clock monitors 0 to 17 and 18, the second of AON (R61). -/
def Instr.wf (i : Instr) : Bool :=
  match i with
  | .frameStrobe t _ => tOk t
  | .snapshotCutoff t => tOk t
  | .sampleArrival t _ => tOk t
  | .gnssSectionLate t => tOk t
  | .subframeCutoff t _ _ _ => tOk t
  | .snapshotReceive t _ _ _ => tOk t
  | .snapshotDeadline t _ => tOk t
  | .fusionPhase t _ => tOk t
  | .observerControlPhase t => tOk t
  | .allocationPhase t _ _ => tOk t
  | .ridgeCompare t _ _ _ _ _ => tOk t
  | .replayCompare t _ _ _ _ _ => tOk t
  | .knownAnswerSet t _ _ => tOk t
  | .healthResetKatComplete t _ _ => tOk t
  | .backgroundWindow t _ _ _ _ _ _ _ => tOk t
  | .tailReserve t => tOk t
  | .outboxForward t => tOk t
  | .consequenceCaseRun t _ _ => tOk t
  | .failAlarmSet t c => tOk t && decide (c ≤ 31)
  | .failAlarmClear t c => tOk t && decide (c ≤ 31)
  | .marginalWarningSet t c => tOk t && decide (c ≤ 31)
  | .marginalWarningClear t c => tOk t && decide (c ≤ 31)
  | .seaStateSample t => tOk t
  | .gainBlendEnd t => tOk t
  | .crossingPersistence t act => tOk t && decide (act ≤ 23)
  | .transitTimeout t act => tOk t && decide (act ≤ 23)
  | .actuatorReadyTimeout t act => tOk t && decide (act ≤ 23)
  | .battenStart _ slot => decide (slot ≤ 15)
  | .battenProgramEnd _ _ => true
  | .inertialStart t k _ => tOk t && decide (k ≤ 7)
  | .nop r f => decide (r.slot ≤ 15) && fieldsWf f
  | .shape r f => decide (r.slot ≤ 15) && fieldsWf f
  | .endProg r f => decide (r.slot ≤ 15) && fieldsWf f
  | .movc r f => decide (r.slot ≤ 15) && fieldsWf f
  | .movd r f => decide (r.slot ≤ 15) && fieldsWf f
  | .mvc r f => decide (r.slot ≤ 15) && fieldsWf f
  | .mvd r f => decide (r.slot ≤ 15) && fieldsWf f
  | .mmc r f => decide (r.slot ≤ 15) && fieldsWf f
  | .mmd r f => decide (r.slot ≤ 15) && fieldsWf f
  | .vscl r f => decide (r.slot ≤ 15) && fieldsWf f
  | .vadd r f => decide (r.slot ≤ 15) && fieldsWf f
  | .vsub r f => decide (r.slot ≤ 15) && fieldsWf f
  | .vmul r f => decide (r.slot ≤ 15) && fieldsWf f
  | .vabs r f => decide (r.slot ≤ 15) && fieldsWf f
  | .vclmp r f => decide (r.slot ≤ 15) && fieldsWf f
  | .vsel r f => decide (r.slot ≤ 15) && fieldsWf f
  | .vcgt r f => decide (r.slot ≤ 15) && fieldsWf f
  | .rlim r f => decide (r.slot ≤ 15) && fieldsWf f
  | .blnd r f => decide (r.slot ≤ 15) && fieldsWf f
  | .sincos r f => decide (r.slot ≤ 15) && fieldsWf f
  | .rot2 r f => decide (r.slot ≤ 15) && fieldsWf f
  | .div r f => decide (r.slot ≤ 15) && fieldsWf f
  | .isqrt r f => decide (r.slot ≤ 15) && fieldsWf f
  | .tbl r f => decide (r.slot ≤ 15) && fieldsWf f
  | .atan2 r f => decide (r.slot ≤ 15) && fieldsWf f
  | .referenceTimeout t ref => tOk t && decide (ref ≤ 25)
  | .suspectRecovery t ref => tOk t && decide (ref ≤ 25)
  | .reacceptanceTime t ref => tOk t && decide (ref ≤ 25)
  | .satelliteBarExpiry t => tOk t
  | .targetTrackTimeout t track => tOk t && decide (track ≤ 7)
  | .targetTrackLost t track => tOk t && decide (track ≤ 7)
  | .refinementShadowStep t => tOk t
  | .timeOffsetMeasurement t n _ => tOk t && decide (1 ≤ n ∧ n ≤ 3)
  | .sourceQualified t n => tOk t && decide (1 ≤ n ∧ n ≤ 3)
  | .revertDelayExpiry t n => tOk t && decide (1 ≤ n ∧ n ≤ 3)
  | .sourceConflict t => tOk t
  | .holdoverLimit t => tOk t
  | .ocxoWarmupComplete t => tOk t
  | .ocxoFailure t => tOk t
  | .timePulse t => tOk t
  | .stepCancel t => tOk t
  | .leapSecond t => tOk t
  | .ptpMessageReceive t n domain _ _ _ => tOk t && decide (1 ≤ n ∧ n ≤ 2) && decide (domain ≤ 255)
  | .ptpAnnounceTimeout t n => tOk t && decide (1 ≤ n ∧ n ≤ 2)
  | .ptpMessageSend t n kind => tOk t && decide (1 ≤ n ∧ n ≤ 2) && decide (kind ≤ 1 ∨ kind = 11)
  | .timeMarkSend t => tOk t
  | .timeLabelSend t => tOk t
  | .hostTimeMark t _ _ => tOk t
  | .hostMarkTimeout t => tOk t
  | .antennaBiasCheck t ant _ => tOk t && decide (ant ≤ 1)
  | .antennaBiasRetest t ant _ => tOk t && decide (ant ≤ 1)
  | .channelManagerRun t _ => tOk t
  | .acquisitionBlock t engine ant sys svid _ _ _ _ => tOk t && decide (engine ≤ 7) && decide (ant ≤ 1) && decide (sys ≤ 4) && decide (svid < 256)
  | .fllToPll t ant ch _ => tOk t && decide (ant ≤ 1) && decide (ch ≤ 191)
  | .carrierPhaseValid t ant ch _ => tOk t && decide (ant ≤ 1) && decide (ch ≤ 191)
  | .lockLoss t ant ch _ _ => tOk t && decide (ant ≤ 1) && decide (ch ≤ 191)
  | .channelHoldExpiry t ant ch => tOk t && decide (ant ≤ 1) && decide (ch ≤ 191)
  | .navMessageDecode t _ _ => tOk t
  | .assistStoreWrite t _ => tOk t
  | .spectrumScan t ant chain _ => tOk t && decide (ant ≤ 1) && decide (chain ≤ 2)
  | .notchRelease t ant chain notch => tOk t && decide (ant ≤ 1) && decide (chain ≤ 2) && decide (1 ≤ notch ∧ notch ≤ 2)
  | .spoofIndicatorClear t i => tOk t && decide (i ≤ 5)
  | .gnssRfTestComplete t _ _ => tOk t
  | .purlinFlitReceive t _ _ _ _ _ _ => tOk t
  | .purlinRequestTimeout t src _ => tOk t && decide (src < 64)
  | .eavesPacketReceive t link _ _ => tOk t && decide (link ≤ 1)
  | .eavesLinkDown t link _ => tOk t && decide (link ≤ 1)
  | .bothLinksDown t => tOk t
  | .eavesLinkRejoin t link _ => tOk t && decide (link ≤ 1)
  | .eavesCommandForward t _ => tOk t
  | .eventForward t => tOk t
  | .suppressionNotice t => tOk t
  | .safetyTick t _ _ _ => tOk t
  | .safetyInputAccept t _ input _ _ => tOk t && decide (input ≤ 17)
  | .discrepancyFault t _ i => tOk t && decide (i ≤ 3)
  | .testPulse t _ source _ _ => tOk t && decide (1 ≤ source ∧ source ≤ 2)
  | .switchTest t _ p _ _ => tOk t && decide (p ≤ 3)
  | .feedbackTimeout t _ p => tOk t && decide (p ≤ 3)
  | .crossCompareExchange t _ _ _ => tOk t
  | .xirosPduReceive t transport port _ _ => tOk t && decide (transport ≤ 9) && decide (port < 65536)
  | .xirosWatchdog t _ c => tOk t && decide (c ≤ 15)
  | .xirosTransmit t c => tOk t && decide (c ≤ 15)
  | .fld2Undervoltage t _ => tOk t
  | .fld2SupplyLoss t _ => tOk t
  | .fld2Recovery t _ => tOk t
  | .safetySelfTestComplete t _ _ => tOk t
  | .dioInputAccept t c _ _ => tOk t && decide (1 ≤ c ∧ c ≤ 32)
  | .dutyDiscreteChange t _ => tOk t
  | .wireBreakSet t c => tOk t && decide (1 ≤ c ∧ c ≤ 32)
  | .wireBreakClear t c => tOk t && decide (1 ≤ c ∧ c ≤ 32)
  | .outputPass t => tOk t
  | .extDriveFault t c _ => tOk t && decide (1 ≤ c ∧ c ≤ 32)
  | .outputOverload t c => tOk t && decide (1 ≤ c ∧ c ≤ 32)
  | .readbackFault t c _ => tOk t && decide (1 ≤ c ∧ c ≤ 32)
  | .groupOverloadFault t g _ => tOk t && decide (g ≤ 3)
  | .outputTestPulseEnd t c _ => tOk t && decide (1 ≤ c ∧ c ≤ 32)
  | .outputWatchdogExpiry t => tOk t
  | .hostOutputTimeout t c => tOk t && decide (1 ≤ c ∧ c ≤ 36)
  | .channelFaultClear r c _ _ => reqWf r && decide (1 ≤ c ∧ c ≤ 32)
  | .logicTermPass t => tOk t
  | .fieldSupplyState t group _ _ _ => tOk t && decide (group ≤ 1)
  | .namurLineFault t i _ => tOk t && decide (i ≤ 5)
  | .adcSample t _ => tOk t
  | .inputValidityChange t _ => tOk t
  | .shuntOpen t _ _ => tOk t
  | .shuntRetest t _ _ => tOk t
  | .packedSampleClose t => tOk t
  | .pulseInputEdge t i _ _ => tOk t && decide (i ≤ 1)
  | .analogueOutputFault t i kind _ => tOk t && decide (i ≤ 3) && decide (kind ≤ 2)
  | .calibrationPhase t _ => tOk t
  | .calibrationHoldEnd t _ _ _ => tOk t
  | .loadShedContactAccept t contact _ => tOk t && decide (contact ≤ 1)
  | .canFrameReceive t b _ => tOk t && decide (1 ≤ b ∧ b ≤ 6)
  | .mailboxUnlock t b m => tOk t && decide (1 ≤ b ∧ b ≤ 6) && decide (m ≤ 31)
  | .canTransmitAttempt t b _ => tOk t && decide (1 ≤ b ∧ b ≤ 6)
  | .busOffRecovery t b => tOk t && decide (1 ≤ b ∧ b ≤ 6)
  | .entryLifetimeExpiry t => tOk t
  | .rateDetectTimeout t b => tOk t && decide (1 ≤ b ∧ b ≤ 6)
  | .serialCharacterReceive t p _ _ _ => tOk t && decide (1 ≤ p ∧ p ≤ 8)
  | .serialGapTimeout t p => tOk t && decide (1 ≤ p ∧ p ≤ 8)
  | .peerStateReceive t _ => tOk t
  | .peerDataReceive t _ => tOk t
  | .peerLinkLost t _ => tOk t
  | .dualDutyRelease t => tOk t
  | .roleBWait t => tOk t
  | .holdTimeExpiry t => tOk t
  | .autoRejoin t => tOk t
  | .rejoinBootComplete t _ _ => tOk t
  | .rejoinCatchUpComplete t _ => tOk t
  | .rejoinCatchUpTimeout t => tOk t
  | .rejoinTrialComplete t => tOk t
  | .hserGapTimeout t _ _ => tOk t
  | .prpSupervision t => tOk t
  | .pendingSessionLapse t _ => tOk t
  | .lockoutExpiry t _ => tOk t
  | .sessionTimeout t _ => tOk t
  | .storedReplyExpiry t _ _ => tOk t
  | .resultExpiry t _ => tOk t
  | .eventRetransmit t _ _ => tOk t
  | .bulkWindowExpiry t _ => tOk t
  | .fieldTimeout t _ _ => tOk t
  | .operationCompletion t _ _ _ _ => tOk t
  | .identify r p => reqWf r && fits p
  | .status r p => reqWf r && fits p
  | .paramRead r _ => reqWf r
  | .paramWrite r p _ => reqWf r && fits p
  | .counterRead r p => reqWf r && fits p
  | .counterReadClear r p => reqWf r && fits p
  | .handleQuery r p => reqWf r && fits p
  | .handleAck r p => reqWf r && fits p
  | .handleCancel r p => reqWf r && fits p
  | .stageOpen r p => reqWf r && fits p
  | .stagePiece r p => reqWf r && fits p
  | .stagePieceComplete t _ => tOk t
  | .stageDiscard r p => reqWf r && fits p
  | .stagedSetExpiry t => tOk t
  | .commit r p => reqWf r && fits p
  | .verificationComplete t _ _ => tOk t
  | .commitPersisted t _ => tOk t
  | .tableRead r p => reqWf r && fits p
  | .firmwareStage r p => reqWf r && fits p
  | .firmwareActivate r p => reqWf r && fits p
  | .firmwareTrialExpiry t _ => tOk t
  | .bulkRead r handle p => reqWf r && decide (handle < 65536) && fits p
  | .bulkWrite r handle p => reqWf r && decide (handle < 65536) && fits p
  | .controlTake r p => reqWf r && fits p
  | .modeSet r p => reqWf r && fits p
  | .setpointSet r p => reqWf r && fits p
  | .trackContinue r p => reqWf r && fits p
  | .controlRelease r p => reqWf r && fits p
  | .refSelect r p => reqWf r && fits p
  | .refDeselect r p => reqWf r && fits p
  | .refReaccept r p => reqWf r && fits p
  | .refineAdopt r p => reqWf r && fits p
  | .refStatus r p => reqWf r && fits p
  | .gnssExclude r p => reqWf r && fits p
  | .gnssRfTest r p => reqWf r && fits p
  | .assistSave r p => reqWf r && fits p
  | .gnssStatus r p => reqWf r && fits p
  | .stepConfirm r p => reqWf r && fits p
  | .timeSet r p => reqWf r && fits p
  | .txtsRead r p => reqWf r && fits p
  | .timeStatus r p => reqWf r && fits p
  | .actDisable r p => reqWf r && fits p
  | .actEnable r p => reqWf r && fits p
  | .allocStatus r p => reqWf r && fits p
  | .caseStatus r p => reqWf r && fits p
  | .dioHostOutput r p => reqWf r && fits p
  | .dioForce r p => reqWf r && fits p
  | .dioOutputTest r p => reqWf r && fits p
  | .aoHostOutput r p => reqWf r && fits p
  | .aoForce r p => reqWf r && fits p
  | .aiCalibrate r p => reqWf r && fits p
  | .calibrateAll r p => reqWf r && fits p
  | .busRateDetect r p => reqWf r && fits p
  | .busRecover r p => reqWf r && fits p
  | .safetyReset r p => reqWf r && fits p
  | .safetyRestart r p => reqWf r && fits p
  | .safetyStatus r p => reqWf r && fits p
  | .recExport r p => reqWf r && fits p
  | .recExportComplete t _ _ => tOk t
  | .recFlush r p => reqWf r && fits p
  | .freezeTrigger r p => reqWf r && fits p
  | .freezeRelease r p => reqWf r && fits p
  | .nandReturn r p => reqWf r && fits p
  | .nandReturnComplete t _ => tOk t
  | .healthReset r p => reqWf r && fits p
  | .holdRamp r p => reqWf r && fits p
  | .laneRejoin r p => reqWf r && fits p
  | .fullTest r p => reqWf r && fits p
  | .dutyTransfer r p => reqWf r && fits p
  | .sessionOpen r user authority nonce => reqWf r && decide (user < 256) && decide (authority < 256) && decide (nonce.length = 16)
  | .sessionProve r proof => reqWf r && decide (proof.length = 32)
  | .sessionClose r p => reqWf r && fits p
  | .keepalive r p => reqWf r && fits p
  | .eventSubscribe r _ minSeverity => reqWf r && decide (minSeverity < 256)
  | .eventAck r seq => reqWf r && decide (seq < 65536)
  | .eavesStatus r p => reqWf r && fits p
  | .resetRequest r p => reqWf r && fits p
  | .softwareResetAssert t => tOk t
  | .resetHistory r p => reqWf r && fits p
  | .memoryMarch r p => reqWf r && fits p
  | .memoryMarchComplete t _ => tOk t
  | .memoryStatus r p => reqWf r && fits p
  | .debugOpen r p => reqWf r && fits p
  | .debugEraseComplete t _ => tOk t
  | .debugResetAssert t => tOk t
  | .userSet r p => reqWf r && fits p
  | .reprovision r p => reqWf r && fits p
  | .w1cClear r id _ _ => reqWf r && decide (id < 4294967296)
  | .statusReadClear r id => reqWf r && decide (id < 4294967296)
  | .eventRecord t => tOk t
  | .yealmAgeExpiry t region => tOk t && decide (region ≤ 1)
  | .yealmWriteComplete t _ _ => tOk t
  | .nandTimeout t d _ => tOk t && decide (d ≤ 1)
  | .trendRecord t => tOk t
  | .freezeCopyComplete t => tOk t
  | .operatingSecond t _ => tOk t
  | .memoryPatrol t _ _ _ _ => tOk t
  | .resetSourceAssert t _ => tOk t
  | .resetSourceRelease t _ _ _ => tOk t
  | .pinStuck t => tOk t
  | .hostWatchdogExpiry t _ => tOk t
  | .laneWatchdogExpiry t _ _ => tOk t
  | .lockupDetect t _ _ => tOk t
  | .clockMonitorWindow t island _ => tOk t && decide (island ≤ 18)
  | .optionLoadComplete t _ => tOk t
  | .bringupComplete t _ _ _ _ _ => tOk t
  | .powerInputState t input _ _ => tOk t && decide (input ≤ 1)
  | .powerFailDeclared t => tOk t
  | .powerFailOutputStop t => tOk t
  | .powerFailFinalYealm t => tOk t
  | .orderlyShutdown t => tOk t
  | .bankReady t _ => tOk t
  | .bankCapacityTest t _ _ => tOk t
  | .tamperOpen t _ => tOk t
  | .randomSourceFailure t part => tOk t && decide (part ≤ 1)
  | .bitSynchronisation t ant ch => tOk t && decide (ant ≤ 1) && decide (ch ≤ 191)
  | .safetyWatchdogExpiry t _ => tOk t
  | .safetyRailBrownOut t => tOk t
  | .namurInputAccept t i _ => tOk t && decide (i ≤ 5)
  | .canBusError t b lec _ _ => tOk t && decide (1 ≤ b ∧ b ≤ 6) && decide (lec ≤ 7)
  | .linkAcknowledgementReceive t _ _ _ => tOk t
  | .eavesRetryResend t _ _ => tOk t
  | .fieldNetworkFrameReceive t port _ _ _ => tOk t && decide (port ≤ 1)
  | .packetCheckFailure t transport _ _ _ => tOk t && decide (transport ≤ 2)
  | .chargerFault t => tOk t
  | .bankReachesVbm t => tOk t

end Sys2Proof
end

