-- ==== Sys2Proof/Safety.lean ====
section
/-!
DEFINITION. What a safe run is, in the terms the statements use: how commands arrive, which states a run passes through, and what a
state must show so that the module drives nothing it must not drive.
-/

namespace Sys2Proof.Machine

/-- A command arrives from outside: it waits behind those that came before it. -/
def State.enqueue (s : State) (i : Instr) : State := { s with pending := s.pending ++ [i] }

/-- One event of a run: a command arrives, or the block takes a step. -/
inductive State.Moves : State → State → Prop where
  | arrives (s : State) (i : Instr) : State.Moves s (s.enqueue i)
  | steps (s t : State) : step s = .next t → State.Moves s t

/-- The states a run from s passes through. -/
inductive State.Reaches : State → State → Prop where
  | here (s : State) : State.Reaches s s
  | on (s t u : State) : State.Reaches s t → State.Moves t u → State.Reaches s u

/-- The step of a state is not a stop. -/
def State.Proceeds (s : State) : Prop := ∃ t, step s = .next t

/-- Every command that waits is well formed. -/
def State.QueueOk (s : State) : Prop := ∀ i ∈ s.pending, i.wf = true

/-- A safety channel drives no permit while the unit is not in RUN (R414, R430). -/
def State.PermitsSafe (s : State) : Prop :=
  s.safety.su ≠ .run → ∀ c : Chan, ∀ p ∈ (s.safety.chan c).permits, p.on = false

/-- A run is safe when every state it passes through proceeds and drives no permit outside RUN. -/
def State.SafeRun (s : State) : Prop := ∀ t, s.Reaches t → t.Proceeds ∧ t.PermitsSafe

/-- The pieces of the state, for statements of what a command leaves alone. -/
inductive StateField where
  | now
  | freeCtr
  | counters
  | params
  | toRecorder
  | toHost
  | frame
  | purlin
  | gnss
  | time
  | host
  | eaves
  | config
  | laneA
  | laneB
  | ridge
  | out
  | peer
  | safety
  | fio
  | buses
  | recorder
  | rst
  | power
  | memory
  | security
  | baseTemp
  | pending
deriving DecidableEq, Repr

/-- Two states agree on a piece. -/
def State.agree (s t : State) : StateField → Prop
  | .now => t.now = s.now
  | .freeCtr => t.freeCtr = s.freeCtr
  | .counters => t.counters = s.counters
  | .params => t.params = s.params
  | .toRecorder => t.toRecorder = s.toRecorder
  | .toHost => t.toHost = s.toHost
  | .frame => t.frame = s.frame
  | .purlin => t.purlin = s.purlin
  | .gnss => t.gnss = s.gnss
  | .time => t.time = s.time
  | .host => t.host = s.host
  | .eaves => t.eaves = s.eaves
  | .config => t.config = s.config
  | .laneA => t.laneA = s.laneA
  | .laneB => t.laneB = s.laneB
  | .ridge => t.ridge = s.ridge
  | .out => t.out = s.out
  | .peer => t.peer = s.peer
  | .safety => t.safety = s.safety
  | .fio => t.fio = s.fio
  | .buses => t.buses = s.buses
  | .recorder => t.recorder = s.recorder
  | .rst => t.rst = s.rst
  | .power => t.power = s.power
  | .memory => t.memory = s.memory
  | .security => t.security = s.security
  | .baseTemp => t.baseTemp = s.baseTemp
  | .pending => t.pending = s.pending

/-- Every piece of the state outside a list is as before. -/
def State.ChangesOnly (s : State) (fields : List StateField) (t : State) : Prop := ∀ f, f ∉ fields → s.agree t f

/-- A command runs to a next state in which P holds and which differs from s in the listed pieces only. -/
def State.Completes (s : State) (i : Instr) (fields : List StateField) (P : State → Prop) : Prop :=
  ∃ u, exec i s = .next u ∧ P u ∧ s.ChangesOnly fields u

/-- What a record says: its code, and its arguments as 32-bit words. -/
def Event.Says (e : Event) (code : Nat) (args : List Nat) : Prop :=
  e.code = BitVec.ofNat 16 code ∧ e.kind = 0 ∧ e.payload = args.flatMap (le 4)

/-- From s to u the recorder was told of one event. -/
def State.Tells (s u : State) (code : Nat) (args : List Nat) : Prop :=
  ∃ e, u.toRecorder = s.toRecorder ++ [e] ∧ e.Says code args

/-- From s to u one counter counted once, as R19 says, and no other moved. -/
def State.Counts (s u : State) (id : Nat) : Prop := u.counters = (s.count id).counters

/-- What a command that makes the lanes work may change: the lanes, the clock and what the read lane counts. -/
abbrev laneFields : List StateField := [.now, .time, .counters, .toRecorder, .laneA, .laneB]

/-- A command at time t gave lane l this core and put these events, and nothing else, behind the entries of its outbox (R47). -/
def State.Turns (s : State) (t : Nat) (l : LaneId) (core : Core) (events : List (Nat × List Nat)) (u : State) : Prop :=
  u.lane l = { s.lane l with
    core := core
    outbox := (s.lane l).outbox ++ events.map fun e => .event ((s.tick t).makeEvent e.1 0 (e.2.flatMap (le 4))) }

/-- The state with another engine in one lane. -/
def State.withEngine (s : State) (l : LaneId) (e : Engine) : State :=
  s.setLane l { s.lane l with core := { (s.lane l).core with engine := e } }

/-- Data memory d holds these values at these addresses, and every other word as the engine had it. -/
def Engine.Holds (e : Engine) (d : List (Nat × Word)) (vals : List (Nat × Int)) : Prop :=
  (∀ p ∈ vals, ({ e with data := d } : Engine).word p.1 = BitVec.ofInt 32 p.2)
    ∧ ∀ a, a < 32768 → (∀ p ∈ vals, p.1 % 32768 ≠ a) → ({ e with data := d } : Engine).word a = e.word a

/-- An instruction of a Batten engine writes these values to data memory, moves its context on, and changes nothing else. -/
def State.Computes (s : State) (r : BRun) (i : Instr) (vals : List (Nat × Int)) : Prop :=
  ∃ d, exec i s = .next (s.withEngine r.lane { (s.lane r.lane).core.engine.advance r.inertial with data := d })
    ∧ (s.lane r.lane).core.engine.Holds d vals

/-- The same of an instruction that leaves sums in the accumulators of its context: the first 32 of them (R254). -/
def State.Accumulates (s : State) (r : BRun) (i : Instr) (vals : List (Nat × Int)) (sums : List Int) : Prop :=
  let e := (s.lane r.lane).core.engine.advance r.inertial
  let c := e.ctx r.inertial
  ∃ d, exec i s = .next (s.withEngine r.lane { e.setCtx r.inertial { c with
      acc := sums.take 32 ++ c.acc.drop (sums.take 32).length } with data := d })
    ∧ (s.lane r.lane).core.engine.Holds d vals

/-- The format SAT keeps a value as it is (R258). -/
def InRange (v : Int) : Prop := -2147483648 ≤ v ∧ v ≤ 2147483647

/-- A request of an open session, in a packet whose header names this handle, that the checks of R567 let through to its opcode: the host
ports take it, the session has not timed out, the authentication tag is that of the bytes it covers (R570), the tag is new (R571);
authority, control, the length of the payload, the confinement to modes; for the field side the barrier open with credit at hand and
nothing waiting before it (R69, R599), the unit that serves it running (R588) and, for a long operation, a handle to be had (R584). -/
def State.admitsOn (s : State) (r : Req) (code handle : Nat) (p : List Byte) : Bool :=
  let s := s.tick r.t
  match s.session? r.transport r.session, opInfo? code with
  | some x, some o =>
    s.heard r && decide (r.mac = some (authTag (s.sessionKey x) (r.covered code handle p)))
      && (x.stored.all fun k => !(decide (k.tag = r.tag) && decide (s.now < k.at_ + 10000000000)))
      && (x.newestTag.all fun n => seqLater 16 r.tag.toNat n.toNat)
      && decide (s.checkRights r o (s.needAuth o p) = stOk) && o.lengthOk p && decide (s.confinement o = stOk)
      && !s.rst.unitsDown.contains (unitServing code p)
      && (!o.field || (!s.host.fieldUnreachable && s.canCross o p && s.eaves.waitingCommands.isEmpty))
      && (!o.long || decide ((s.host.handles.filter fun h => h.outstanding).length < 64))
  | _, _ => false

/-- The same of a packet that names no handle. -/
def State.admits (s : State) (r : Req) (code : Nat) (p : List Byte) : Bool := s.admitsOn r code 0 p

/-- From s to u a request is answered: its reply is the latest sent. `stamp`: its payload is the frame number of R583, 0 where the host
processor answers. -/
def State.Answered (s u : State) (r : Req) (code handle status : Nat) (payload : List Byte) (stamp : Bool) : Prop :=
  let n := if (opInfo? code).any fun o => o.field then (s.tick r.t).commandFrame.toNat else 0
  u.host.replies.getLast? = some (r.reply code handle status (if stamp then le 4 n else payload))

/-- The host side but for sessions, replies and events: control, users, failed proofs, handles, transfers. -/
def State.HostKeeps (s u : State) : Prop :=
  u.host.holder = s.host.holder ∧ u.host.users = s.host.users ∧ u.host.lockouts = s.host.lockouts
    ∧ u.host.failures = s.host.failures ∧ u.host.handles = s.host.handles ∧ u.host.bulks = s.host.bulks

/-- The pieces any request may change: time, sessions and replies, the barrier. -/
abbrev requestFields : List StateField := [.now, .time, .host, .eaves]

/-- A request answered at once that is admitted gets this status and payload, and P holds after it. -/
def State.Serves (s : State) (i : Instr) (r : Req) (code : Nat) (p : List Byte) (status : Nat) (payload : List Byte) (stamp : Bool)
    (fields : List StateField) (P : State → Prop) : Prop :=
  s.admits r code p = true → s.Completes i (requestFields ++ fields) fun u =>
    s.Answered u r code 0 status payload stamp ∧ s.HostKeeps u ∧ P u

/-- A request that only reads: answered OK with these bytes. -/
def State.Reads (s : State) (i : Instr) (r : Req) (code : Nat) (p payload : List Byte) : Prop :=
  s.Serves i r code p stOk payload false [] fun u => u.time = (s.tick r.t).time

/-- The number the next handle gets (R22, R584). -/
def State.handleNext (s : State) : Nat :=
  freeHandle (s.host.handles.map (·.number) ++ s.host.bulks.map (·.handle)) 400 s.host.nextHandle

/-- A handle of this number is outstanding for a request (R584). -/
def State.Holds (u : State) (n : Nat) (r : Req) (code : Nat) : Prop :=
  ∃ h ∈ u.host.handles, h.number = n ∧ h.opcode = code ∧ h.session = r.session ∧ h.tag = r.tag ∧ h.outstanding = true

/-- A long operation answered at once that is admitted is ACCEPTED under the next handle, which is then outstanding, and P holds of both
(R584). -/
def State.Accepts (s : State) (i : Instr) (r : Req) (code : Nat) (p : List Byte) (fields : List StateField)
    (P : Nat → State → Prop) : Prop :=
  s.admits r code p = true → s.Completes i (requestFields ++ fields) fun u =>
    s.Answered u r code s.handleNext stAccepted [] false ∧ u.Holds s.handleNext r code
      ∧ u.host.holder = s.host.holder ∧ u.host.users = s.host.users ∧ P s.handleNext u

/-- The command that a request of R578 becomes. -/
def Req.command (r : Req) (code handle : Nat) (p : List Byte) (present : List (Nat × Nat)) : Command :=
  { req := r, opcode := code, handle := handle, payload := p, present := present }

/-- A request of R578 that is admitted crosses the barrier in one command packet and waits for the frame whose snapshot cut-off it beats;
its Reply credit is held, and no reply is sent yet (R78, R79, R578, R599). -/
def State.Forwards (s u : State) (r : Req) (code handle : Nat) (p : List Byte) (present : List (Nat × Nat)) : Prop :=
  let c := r.command code handle p present
  (if (s.tick r.t).pastCutoff = true then u.frame = { s.frame with laterCommands := s.frame.laterCommands ++ [c] }
    else u.frame = { s.frame with commands := s.frame.commands ++ [c] })
  ∧ (∃ f, u.eaves.inField = s.eaves.inField ++ [f] ∧ f.session = r.session ∧ f.tag = r.tag ∧ f.opcode = code)
  ∧ (∀ o, opInfo? code = some o → u.eaves.reply.credits = s.eaves.reply.credits - (o.grant.1 + o.grant.2))
  ∧ u.host.replies = s.host.replies ∧ u.host.frameReplies = s.host.frameReplies

/-- A command decided in the frame under way has this status and payload, and P holds after it; its reply, if the host side still waits for
it, is held for the record of that frame (R578, R583). -/
def State.Decides (s : State) (c : Command) (status : Nat) (payload : List Byte) (stamp : Bool) (fields : List StateField)
    (P : State → Prop) : Prop :=
  s.rst.unitsDown.contains (unitServing c.opcode c.payload) = false →
    P (s.decideCommand c) ∧ s.ChangesOnly ([.host, .laneA, .laneB] ++ fields) (s.decideCommand c)
      ∧ (s.decideCommand c).host.holder = s.host.holder ∧ (s.decideCommand c).host.users = s.host.users
      ∧ (s.decideCommand c).host.replies = s.host.replies
      ∧ ((s.eaves.inField.any fun f => f.session = c.req.session && f.tag = c.req.tag) = true →
          ∃ w, (s.decideCommand c).host.frameReplies = s.host.frameReplies ++
            [{ frame := s.frame.number, stamp := stamp, written := w,
               reply := c.req.reply c.opcode (if status = stAccepted then c.handle else 0) status payload }])

/-- A command of R578 with the status bits that the hardware sets in the cycle of the write: the request completes, going to its frame; and
decided in a frame it has this status and effect. -/
def State.CommandsWith (s : State) (i : Instr) (r : Req) (code : Nat) (p : List Byte) (present : List (Nat × Nat)) (status : Nat)
    (payload : List Byte) (stamp : Bool) (fields : List StateField) (P : State → Prop) : Prop :=
  (s.admits r code p = true → s.Completes i (requestFields ++ [.frame]) fun u => s.Forwards u r code 0 p present ∧ s.HostKeeps u)
    ∧ s.Decides (r.command code 0 p present) status payload stamp fields fun u => s.HostKeeps u ∧ P u

/-- The same of any other command. -/
def State.Commands (s : State) (i : Instr) (r : Req) (code : Nat) (p : List Byte) (status : Nat) (payload : List Byte) (stamp : Bool)
    (fields : List StateField) (P : State → Prop) : Prop :=
  s.CommandsWith i r code p [] status payload stamp fields P

/-- A long operation of R578: the request completes, with the next handle outstanding, going to its frame; and decided in a frame under a
handle for which H holds it is ACCEPTED, and P holds of both (R578, R584). -/
def State.BeginsWhere (s : State) (i : Instr) (r : Req) (code : Nat) (p : List Byte) (H : Nat → Prop) (fields : List StateField)
    (P : Nat → State → Prop) : Prop :=
  (s.admits r code p = true → s.Completes i (requestFields ++ [.frame]) fun u =>
      s.Forwards u r code s.handleNext p [] ∧ u.Holds s.handleNext r code ∧ u.host.holder = s.host.holder
        ∧ u.host.users = s.host.users)
    ∧ ∀ n, H n → s.Decides (r.command code n p []) stAccepted [] false fields fun u => u.host.handles = s.host.handles ∧ P n u

/-- The same of one that any handle suits. -/
def State.Begins (s : State) (i : Instr) (r : Req) (code : Nat) (p : List Byte) (fields : List StateField) (P : Nat → State → Prop) :
    Prop :=
  s.BeginsWhere i r code p (fun _ => True) fields P

/-- Each running lane that holds the snapshot took a command, kept it for a restored state (R79, R382), and Q holds of its core before and
after; one without a snapshot takes it at the start of its next frame (R87); a lane in reset is as before. -/
def State.LanesTake (s u : State) (c : LaneCmd) (Q : Core → Core → Prop) : Prop :=
  ∀ l, if (s.lane l).runs = true then
      (if (s.lane l).held.isSome = true then
        (u.lane l).journal = (s.lane l).journal ++ [c] ∧ Q (s.lane l).core (u.lane l).core
      else (u.lane l).missed = (s.lane l).missed ++ [c] ∧ (u.lane l).core = (s.lane l).core)
    else u.lane l = s.lane l

/-- Every time source but n that has been valid still delivers valid measurements, so that looking at the sources changes none of them
(R166); for n = 0 this is said of all three. -/
def State.SourcesHold (s : State) (n : Nat) : Prop := ∀ m, 1 ≤ m → m ≤ 3 → m ≠ n → (s.time.src m).valid = true → s.sourceValid m = true

/-- What a command that the lanes take may change. -/
abbrev laneCmdFields : List StateField := [.counters, .toRecorder, .laneA, .laneB]

end Sys2Proof.Machine
end

