-- ==== Sys2Proof/Certificates/Slice0/Obligations.lean ====
section
/-!
DEFINITION. The statements for the provers: what the commands do, family by family, and what holds of every step.
-/

open Sys2Proof Sys2Proof.Machine

/-- A step runs the command at the front of the queue on the state without it (00_scope.md, 95_what_each_step_holds.md). -/
def Obligations.StepRunsTheFrontCommand : Prop :=
  ∀ (c : Instr) (rest : List Instr) (s : State),
    (s.pending = c :: rest → step s = exec c { s with pending := rest }) ∧ (s.pending = [] → step s = .next s)

/-- What reset leaves, as far as the rules give the values (00_scope.md, 02_control_frame.md, 04_time.md, 06_batten_engine.md, 09_lanes_ridge_peer.md, 10_safety_functions.md, 14_host_interface.md). -/
def Obligations.ResetLeavesTheStatedValues : Prop :=
  State.reset.now = 0 ∧ (∀ id, State.reset.counter id = { value := 0, overflow := false })
    ∧ State.reset.frame.period = 20 ∧ State.reset.frame.number = 0
    ∧ State.reset.time.st = .freeRun ∧ State.reset.time.offset = 0 ∧ State.reset.time.warming = true
    ∧ State.reset.laneA.core.engine.status = 0xFF000000#32 ∧ State.reset.laneB.core.engine.status = 0xFF000000#32
    ∧ (State.reset.laneA.core.engine.fg.m, State.reset.laneA.core.engine.fg.n, State.reset.laneA.core.engine.fg.k) = (1, 1, 1)
    ∧ State.reset.laneA.core.ctl.mode = .standby ∧ State.reset.laneB.core.ctl.mode = .standby
    ∧ State.reset.ridge.health = .healthy ∧ State.reset.peer.duty = .duty
    ∧ State.reset.host.holder = 0 ∧ State.reset.host.sessions = []
    ∧ State.reset.eaves.command.credits = 4096 ∧ State.reset.eaves.reply.credits = 4096
    ∧ State.reset.eaves.event.credits = 8192 ∧ State.reset.eaves.bulkUp.credits = 49152
    ∧ State.reset.eaves.bulkDown.credits = 49152 ∧ State.reset.eaves.tokens = 200000
    ∧ State.reset.safety.su ≠ .run ∧ (∀ c : Chan, ∀ p ∈ (State.reset.safety.chan c).permits, p.on = false)
    ∧ State.reset.pending = []

/-- A Purlin router checks, counts, corrects, discards and forwards flits as R46 and R52 to R58 say (01_architecture.md, R46, R52, R53, R54, R55, R56, R57, R58). -/
def Obligations.PurlinRouterChecksEachFlit : Prop :=
  ∀ (t port hop : Nat) (f : BitVec 128) (err : BitVec 144) (s : State), s.unitHeld 0 = false →
    (64 ≤ port → flitDst f ≤ 0x10 → flitType f = 4 → flitVc f = 0 → flitLen f = 0 →
      (s.purlin.requesters (routeTo hop f) 0).length < 8 →
      (symbolErrors err = 0 → s.Completes (.purlinFlitReceive t port hop true f err 0) [.now, .time, .purlin] fun u =>
        u.purlin.waiting = s.purlin.waiting
            ++ [{ out := routeTo hop f, vc := 0, requester := port, data := f, head := f, last := true }]
          ∧ u.purlin.phase port = .head ∧ u.purlin.delivered = [] ∧ u.purlin.outstanding = s.purlin.outstanding)
      ∧ (symbolErrors err = 1 →
        s.Completes (.purlinFlitReceive t port hop true f err 0) [.now, .time, .purlin, .counters, .toRecorder] fun u =>
          s.Counts u (ctrFlitCorrected port) ∧ u.purlin.phase port = .head
            ∧ u.purlin.waiting = s.purlin.waiting
              ++ [{ out := routeTo hop f, vc := 0, requester := port, data := f, head := f, last := true }]))
    ∧ (∀ g, 64 ≤ port → symbolErrors err = 0 →
      ((0x11 ≤ flitDst f ∨ 6 < flitType f ∨ typeVcAgree (flitType f) (flitVc f) (flitSrc f) = false) ∨ 32 < flitLen f →
        s.Completes (.purlinFlitReceive t port hop true f err g) [.now, .time, .purlin, .counters, .toRecorder] fun u =>
          s.Counts u (ctrPacketDiscarded port) ∧ u.purlin.waiting = s.purlin.waiting
            ∧ u.purlin.phase port =
              (if 32 < flitLen f then .dropToHead else if flitLen f = 0 then .head else .drop (flitLen f)))
      ∧ (flitType f = 1 → flitVc f = 0 → flitLen f ≤ 32 → (flitSrc f = 1 ∨ flitSrc f = 2) → (flitDst f = 3 ∨ flitDst f = 4) →
        s.Completes (.purlinFlitReceive t port hop true f err g) [.now, .time, .purlin, .counters, .toRecorder] fun u =>
          s.Counts u ctrWriteRefused ∧ u.purlin.waiting = s.purlin.waiting))
    ∧ (∀ g, 64 ≤ port → symbolErrors err = 2 →
      s.Completes (.purlinFlitReceive t port hop true f err g) [.now, .time, .purlin, .counters, .toRecorder] (fun u =>
        s.Counts u (ctrFlitUncorrectable port) ∧ u.purlin.waiting = s.purlin.waiting ∧ u.purlin.phase port = .dropToHead)
      ∧ ∀ left out flits, s.purlin.phase port = .payload left out flits →
        s.Completes (.purlinFlitReceive t port hop false f err g) [.now, .time, .purlin, .counters, .toRecorder] fun u =>
          s.Counts u (ctrFlitUncorrectable port) ∧ u.purlin.waiting = s.purlin.waiting
            ∧ u.purlin.phase port = (if left ≤ 1 then .head else .drop (left - 1)))
    ∧ (∀ g, port < 64 → flitType f ≤ 1 → s.purlin.hasSpace port (flitType f) = true → symbolErrors err = 2 →
      s.Completes (.purlinFlitReceive t port hop true f err g) [.now, .time, .purlin, .counters, .toRecorder] fun u =>
        s.Counts u (ctrFlitUncorrectable port) ∧ ∃ o, u.purlin.outstanding = s.purlin.outstanding ++ [o]
          ∧ o.src = flitSrc (withSrc f port) ∧ o.tag = flitTag (withSrc f port) ∧ o.attempts = 1 ∧ o.sentAt = max s.now t)

/-- A Purlin request without reply is repeated once with its TAG, then reported with event 0xA001 (R58). -/
def Obligations.PurlinRequestIsRepeatedOnce : Prop :=
  ∀ (t src tag : Nat) (o : Outstanding) (s : State), s.unitHeld 0 = false →
    s.purlin.outstanding.find? (fun o => o.src = src ∧ o.tag = tag) = some o → o.sentAt + 50000 ≤ max s.now t →
    (∀ h fs, o.attempts = 1 → o.flits = h :: fs → headFault src h = none →
      (s.purlin.requesters o.out (flitVc h)).length < 8 →
      s.Completes (.purlinRequestTimeout t src tag) [.now, .time, .purlin] fun u =>
        u.purlin.waiting = s.purlin.waiting ++ waitFlits o.out src h o.flits
          ∧ u.purlin.outstanding = s.purlin.outstanding.filter (fun x => ¬ (x.src = src ∧ x.tag = tag))
              ++ [{ o with attempts := 2, sentAt := max s.now t }]
          ∧ u.purlin.deviceFaults = s.purlin.deviceFaults)
    ∧ (o.attempts = 2 → s.Completes (.purlinRequestTimeout t src tag) [.now, .time, .purlin, .toRecorder] fun u =>
      u.purlin.outstanding = s.purlin.outstanding.filter (fun x => ¬ (x.src = src ∧ x.tag = tag))
        ∧ u.purlin.deviceFaults = s.purlin.deviceFaults ++ [(o.src, o.dst)] ∧ u.purlin.waiting = s.purlin.waiting
        ∧ s.Tells u 0xA001 [o.src, o.dst])

/-- Eaves packets are checked, delivered in sequence order, acknowledged and resent class by class (01_architecture.md, 14_host_interface.md, R35, R36, R597, R598). -/
def Obligations.EavesClassesDeliverInSequence : Prop :=
  ∀ (t link : Nat) (toHost : Bool) (k : EavesKind) (bytes : List Byte) (s : State), s.unitHeld 0 = false → link ≤ 1 →
    (s.eaves.link link).up = true →
    let n := bytes.length
    let len := field bytes 4 2
    (12 ≤ n → field bytes (n - 4) 4 = (crc32c (bytes.take (n - 4))).toNat →
      (n = 12 + len → 1 ≤ len → len ≤ 8212 → field bytes 1 1 ≤ 3 → eavesKind (field bytes 0 1) toHost = some k →
        field bytes 2 2 = (s.eaves.cls k).expectSeq → (s.eaves.cls k).held = [] → (k = .event → bit (field bytes 1 1) 1 = false) →
        s.Completes (.eavesPacketReceive t link toHost (.packet bytes)) [.now, .time, .eaves] fun u =>
          (u.eaves.cls k).delivered = [(field bytes 1 1, slice bytes 8 len)]
            ∧ (u.eaves.cls k).expectSeq = ((s.eaves.cls k).expectSeq + 1) % 65536
            ∧ (u.eaves.link link).crcRun = 0 ∧ ∀ j, j ≠ k → u.eaves.cls j = s.eaves.cls j)
      ∧ (eavesKind (field bytes 0 1) toHost = none ∨ n ≠ 12 + len ∨ 8212 < len →
        s.Completes (.eavesPacketReceive t link toHost (.packet bytes)) [.now, .time, .eaves, .counters, .toRecorder] fun u =>
          s.Counts u (ctrEaves 2 (b2n toHost)) ∧ ∀ j, u.eaves.cls j = s.eaves.cls j))
    ∧ ((n < 12 ∨ field bytes (n - 4) 4 ≠ (crc32c (bytes.take (n - 4))).toNat) →
      s.Completes (.eavesPacketReceive t link toHost (.packet bytes)) [.now, .time, .eaves, .counters, .toRecorder] fun u =>
        s.Counts u (ctrEaves 1 link) ∧ (u.eaves.link link).crcRun = (s.eaves.link link).crcRun + 1
          ∧ ∀ j, u.eaves.cls j = s.eaves.cls j)
    ∧ (s.Completes (.eavesPacketReceive t link toHost .other) [.now, .time, .counters, .toRecorder] fun u =>
        s.Counts u (ctrEaves 2 (b2n toHost)))
    ∧ (∀ q r, s.eaves.events = [] → s.eaves.waitingLabels = [] → s.host.bulks = [] →
      s.Completes (.linkAcknowledgementReceive t k (some q) r) [.now, .time, .eaves] fun u =>
        (u.eaves.cls k).retry = (s.eaves.cls k).retry.filter (fun p => !(decide (p.seq = q) || seqLater 16 q p.seq))
          ∧ (k ≠ .reply → (u.eaves.cls k).credits = min (s.eaves.cls k).total ((s.eaves.cls k).credits + r))
          ∧ ∀ j, j ≠ k → u.eaves.cls j = s.eaves.cls j)
    ∧ (∀ q p, (s.eaves.cls k).retry.find? (fun p => p.seq = q) = some p → p.link = link →
      s.Completes (.eavesRetryResend t k q) [.now, .time, .eaves, .counters, .toRecorder] fun u =>
        s.Counts u (ctrEaves 0 link) ∧ (u.eaves.cls k).retry.length = (s.eaves.cls k).retry.length
          ∧ (u.eaves.cls k).retry.find? (fun p => p.seq = q) = some p ∧ ∀ j, j ≠ k → u.eaves.cls j = s.eaves.cls j)

/-- Loss and return of the Eaves links: event 0x8001, traffic on the other link, FIELD_UNREACHABLE, rejoin without reset (01_architecture.md, 14_host_interface.md, R40, R42, R43, R589). -/
def Obligations.EavesLinksFailAndReturn : Prop :=
  ∀ (t link : Nat) (s : State), link ≤ 1 →
    (∀ m, s.unitHeld 0 = false → (s.eaves.link link).up = true → (100000 < m ∨ 16 ≤ (s.eaves.link link).crcRun) →
      (s.eaves.link (1 - link)).up = true →
      s.Completes (.eavesLinkDown t link m) [.now, .time, .eaves, .counters, .toRecorder] fun u =>
        (u.eaves.link link).up = false ∧ (u.eaves.link (1 - link)).up = true
          ∧ (∃ e, u.toRecorder.getLast? = some e ∧ e.Says 0x8001 [link])
          ∧ ∀ k, (u.eaves.cls k).retry =
              (s.eaves.cls k).retry.map fun p => if p.link = link then { p with link := 1 - link } else p)
    ∧ (∀ d, s.eaves.bothDownSince = some d → d + 100000000 < max s.now t → s.eaves.bothDownTold = false →
      s.Completes (.bothLinksDown t) [.now, .time, .eaves, .host, .toRecorder] fun u =>
        u.host.fieldUnreachable = true ∧ u.eaves.waitingCommands = [] ∧ u.eaves.inField = [] ∧ s.Tells u 0x8002 []
          ∧ u.host.replies.length = s.host.replies.length + (s.eaves.waitingCommands ++ s.eaves.inField).length)
    ∧ (∀ l, s.unitHeld 0 = false → (s.eaves.link link).up = false →
      ((s.eaves.link (1 - link)).up = true →
        s.Completes (.eavesLinkRejoin t link l) [.now, .time, .eaves] fun u =>
          u.eaves.link link = { up := true, crcRun := 0, latency := l } ∧ u.eaves.link (1 - link) = s.eaves.link (1 - link)
            ∧ ∀ k, u.eaves.cls k = s.eaves.cls k)
      ∧ ((s.eaves.link (1 - link)).up = false → s.eaves.waitingReplies = [] → s.eaves.heldCompletions = [] →
        s.eaves.waitingLabels = [] → s.eaves.events = [] → s.host.bulks = [] → s.rst.lateHost = [] →
        s.Completes (.eavesLinkRejoin t link l) [.now, .time, .eaves, .host, .rst] fun u =>
          u.eaves.link link = { up := true, crcRun := 0, latency := l } ∧ u.host.fieldUnreachable = false
            ∧ u.eaves.bothDownSince = none ∧ u.eaves.bothDownTold = false
            ∧ ∀ k, (u.eaves.cls k).retry =
                (s.eaves.cls k).retry.map fun p => if p.link = 1 - link then { p with link := link } else p))

/-- The oldest event at the field endpoint meets the token bucket; suppressed events are counted and told once a second (14_host_interface.md, R593). -/
def Obligations.EventsMeetTheTokenBucket : Prop :=
  ∀ (t : Nat) (s : State),
    let tokens := min 200000 (s.eaves.tokens + (max s.now t - s.eaves.tokensAt) / 500)
    (∀ e rest, s.toHost = e :: rest → e.code ≠ 0x8005#16 → 1000 ≤ tokens →
      s.Completes (.eventForward t) [.now, .time, .eaves, .host, .toHost, .counters, .toRecorder] fun u =>
        u.toHost = rest ∧ u.eaves.tokens = tokens - 1000 ∧ u.eaves.suppressed = s.eaves.suppressed
          ∧ (s.eaves.events = [] → s.eventRoom e = true →
              u.eaves.events = [] ∧ u.eaves.event.nextSeq = (s.eaves.event.nextSeq + 1) % 65536))
    ∧ (∀ e rest, s.toHost = e :: rest → e.code ≠ 0x8005#16 → tokens < 1000 → e.severity < 3 →
      s.Completes (.eventForward t) [.now, .time, .eaves, .host, .toHost, .counters, .toRecorder] fun u =>
        u.toHost = rest ∧ u.eaves.tokens = tokens ∧ u.eaves.suppressed = s.eaves.suppressed + 1
          ∧ u.eaves.noticeLeft = s.eaves.noticeLeft + 1 ∧ u.eaves.event = s.eaves.event ∧ u.eaves.events = s.eaves.events)
    ∧ (s.eaves.noticeLeft ≠ 0 → s.eaves.noticeAt + 1000000000 ≤ max s.now t →
      s.Completes (.suppressionNotice t) [.now, .time, .eaves, .toRecorder] fun u =>
        u.eaves.noticeLeft = 0 ∧ u.eaves.noticeAt = max s.now t ∧ s.Tells u 0x8005 [s.eaves.noticeLeft])

/-- Samples and commands queue until the cut-off they beat closes the snapshot of the frame (02_control_frame.md, R78, R79, R82, R90, R91). -/
def Obligations.SamplesWaitForTheCutoff : Prop :=
  ∀ (t : Nat) (s : State), s.rst.up = .up → s.unitHeld 0 = false →
    (∀ source portTs sflags data,
      let x : Sample := { arrival := max s.now t, portTs := portTs, sflags := BitVec.ofNat 16 sflags, data := data }
      (s.config.active.motionSources.contains source = false →
        (s.frame.closed = none → (s.frame.begun = true → max s.now t + 500000 < s.frame.nextStrobe) →
          ((∀ k ∈ s.frame.building, k.source ≠ source) →
            s.Completes (.sampleArrival t (.message source portTs sflags data)) [.now, .time, .frame] fun u =>
              u.frame = { s.frame with building := s.frame.building ++ [{ source := source, samples := [x] }] })
          ∧ (∀ k, s.frame.building.find? (fun k => k.source = source) = some k → k.samples.length < 16 →
            s.Completes (.sampleArrival t (.message source portTs sflags data)) [.now, .time, .frame] fun u =>
              u.frame = { s.frame with
                building := s.frame.building.map fun y =>
                  if y.source = source then { y with samples := k.samples ++ [x] } else y })
          ∧ (∀ k, s.frame.building.find? (fun k => k.source = source) = some k → k.samples.length = 16 →
            s.Completes (.sampleArrival t (.message source portTs sflags data)) [.now, .time, .frame, .counters, .toRecorder] fun u =>
              s.Counts u (ctrOverrun source) ∧ u.frame = { s.frame with
                building := s.frame.building.map fun y =>
                  if y.source = source then
                    { y with samples := k.samples.drop 1 ++ [{ x with sflags := x.sflags ||| 1#16 }] } else y }))
        ∧ ((s.frame.closed.isSome = true ∨ (s.frame.begun = true ∧ s.frame.nextStrobe ≤ max s.now t + 500000)) →
          (∀ k ∈ s.frame.later, k.source ≠ source) →
          s.Completes (.sampleArrival t (.message source portTs sflags data)) [.now, .time, .frame] fun u =>
            u.frame = { s.frame with later := s.frame.later ++ [{ source := source, samples := [x] }] }))
      ∧ (s.config.active.motionSources.contains source = true →
        s.Completes (.sampleArrival t (.message source portTs sflags data)) [.now, .time, .frame, .counters, .toRecorder] fun u =>
          let k := (s.tick t).motionKey
          u.frame = { s.frame with
            motion := assocSet s.frame.motion k (enqueueSample ((assoc s.frame.motion k).getD []) source x).1 }))
    ∧ (∀ k x, s.frame.inFlight[k]? = some x →
      exec (.sampleArrival t (.inFlight k)) s =
        exec (.sampleArrival t (.message x.1 x.2.portTs x.2.sflags.toNat x.2.data))
          { s with frame.inFlight := s.frame.inFlight.eraseIdx k })
    ∧ (s.frame.closed = none → (s.frame.begun = true → s.frame.nextStrobe ≤ max s.now t + 500000) →
      (∃ u, exec (.snapshotCutoff t) s = .next u ∧ u.frame.building = [] ∧ u.frame.commands = []
        ∧ u.frame.closedCommands = s.frame.commands ∧ u.peer.atCutoff = s.peer.state
        ∧ u.frame.motion = s.frame.motion.filter (fun q => q.1 = 9)
        ∧ ∃ l five, u.frame.closed = some (l ++ five) ∧ five.map Section.source = [0x20, 0x21, 0x30, 0x40, 0x50]
          ∧ (s.sbasRepeat = none → l = s.frame.building ++ s.frame.motionClosed))
      ∧ (s.config.commit = none →
        s.Completes (.snapshotCutoff t) [.now, .time, .frame, .gnss, .out, .peer, .safety, .fio] fun u =>
          u.frame.building = []))

/-- A frame strobe numbers the frame, fixes its period and the time of the next strobe, and forms its snapshot (02_control_frame.md, 17_reset_startup_power.md, R71, R72, R73, R75, R84, R676). -/
def Obligations.StrobeStartsTheFrame : Prop :=
  ∀ (t : Nat) (e : Option Epoch) (s : State), s.rst.up = .up →
    (s.power.pfStopped = false →
      ∃ u, exec (.frameStrobe t e) s = .next u
        ∧ u.frame.number = (if s.frame.begun = true then s.frame.number + 1 else 0)
        ∧ u.frame.strobe = (if s.frame.begun = true then s.frame.nextStrobe else max s.now t)
        ∧ u.frame.begun = true ∧ u.frame.period = s.paramN 0x01010001
        ∧ u.frame.nextStrobe = u.frame.strobe + u.frame.period * 1000000 ∧ u.frame.strobe ≤ u.now
        ∧ u.frame.closed = none
        ∧ ∃ x, u.frame.current = some x ∧ x.frame = u.frame.number ∧ x.strobeMono = u.frame.strobe
            ∧ (s.frame.closed.isSome = true → x.commands = s.frame.closedCommands ∧ x.sections = s.frame.closed.getD []))
    ∧ (s.power.pfStopped = true →
      s.Completes (.frameStrobe t e) [.now, .time, .frame, .laneA, .laneB] fun u =>
        u.frame.number = (if s.frame.begun = true then s.frame.number + 1 else 0)
          ∧ u.frame.current = none ∧ u.frame.closed = none ∧ u.frame.building = []
          ∧ ∀ l, (u.lane l).slot = none ∧ (u.lane l).held = none ∧ (u.lane l).subs = [])

/-- Snapshots and sub-snapshots reach each running lane; a lane without one delivers only SNAPSHOT_LOST (02_control_frame.md, R84, R85, R86, R87, R90, R91, R92, R93). -/
def Obligations.SnapshotsReachTheLanes : Prop :=
  ∀ (t : Nat) (lane : LaneId) (ps : List Parsed) (s : State),
    (∀ x y copies, s.frame.current = some x → s.frame.corrupt = false → (s.lane lane).runs = true → (s.lane lane).held = none →
      (s.lane lane).deadline = false → max s.now t ≤ s.frame.strobe + 500000 →
      let x' : Snapshot := { x with sections := x.sections ++ s.frame.gnssPending }
      copies.findSome? (fun c => c.read x') = some y →
      s.Completes (.snapshotReceive t lane copies ps) [.now, .time, .frame, .ridge, .laneA, .laneB, .counters, .toRecorder] fun u =>
        (u.lane lane).held = some y ∧ u.frame.current = some x' ∧ u.frame.gnssPending = []
          ∧ u.ridge = { s.ridge with snapDigest := x'.digest } ∧ u.lane lane.other = s.lane lane.other)
    ∧ (s.frame.current.isSome = true → (s.lane lane).runs = true → (s.lane lane).held = none → (s.lane lane).deadline = false →
      s.frame.strobe + 500000 ≤ max s.now t → s.frame.replay = .none → s.ridge.restore = false →
      s.Completes (.snapshotDeadline t lane) [.now, .time, .laneA, .laneB, .counters, .toRecorder] fun u =>
        (u.lane lane).slot = some (LaneRecord.lost (s.tick t)) ∧ (u.lane lane).deadline = true
          ∧ (u.lane lane).core.stored = (s.lane lane).core.stored ++ s.frame.current.toList
          ∧ (u.lane lane).held = none ∧ u.lane lane.other = s.lane lane.other)
    ∧ (∀ c copiesA copiesB, s.rst.up = .up → s.frame.nextSub ≤ 7 → s.frame.current = some c →
      s.frame.strobe + s.frame.nextSub * s.frame.period * 1000000 / 8 ≤ max s.now t + 100000 →
      let x := s.subSnapshot s.frame.nextSub c
      s.Completes (.subframeCutoff t copiesA copiesB ps) [.now, .time, .frame, .laneA, .laneB, .counters, .toRecorder] fun u =>
        u.frame = { s.frame with
            nextSub := s.frame.nextSub + 1
            subs := s.frame.subs ++ [x]
            motion := s.frame.motion.filter fun q => s.frame.nextSub < q.1 }
          ∧ (s.laneA.runs = true → copiesA.head? = some .intact → u.laneA.subs = s.laneA.subs ++ [x])
          ∧ (s.laneB.runs = true → copiesB.head? = some .intact → u.laneB.subs = s.laneB.subs ++ [x]))

/-- The background window, what it leaves over, and the one outbox that is forwarded (01_architecture.md, 02_control_frame.md, 09_lanes_ridge_peer.md, R47, R100, R103, R157, R380, R386). -/
def Obligations.BackgroundWorkAndOutbox : Prop :=
  ∀ (t : Nat) (s : State), s.rst.up = .up → s.unitHeld 0 = false →
    (s.frame.current.isSome = true → s.frame.window ≠ 2 → s.windowStart ≤ max s.now t → max s.now t < s.windowEnd →
      (∀ fits rf, s.frame.window = 0 → s.windowItems.length ≤ fits →
        s.Completes (.backgroundWindow t fits true true rf true .clean .clean)
          [.now, .time, .frame, .ridge, .laneA, .laneB, .counters, .toRecorder, .memory, .gnss] (fun u =>
          u.ridge = { s.ridge with injected := s.ridge.injected + 1 } ∧ u.gnss = { s.gnss with onlineOk := rf }
            ∧ u.frame = { s.frame with background := [], window := 1 }
            ∧ ∀ l, (s.lane l).runs = true → ∃ d, (u.lane l).outbox.getLast? = some (.status s.frame.number d)))
      ∧ (∀ a b rf, s.Completes (.backgroundWindow t 0 a b rf false .clean .clean) [.now, .time, .frame, .ridge] fun u =>
          u.ridge.decision = s.ridge.decision ||| 8 ∧ u.frame = { s.frame with background := s.windowItems, window := 1 }))
    ∧ (s.frame.current.isSome = true → s.frame.window ≠ 2 → s.windowEnd ≤ max s.now t →
      s.Completes (.tailReserve t) [.now, .time, .frame, .laneA, .laneB] fun u =>
        u.frame = { s.frame with background := s.windowItems.filter (fun i => decide (2 ≤ i)), window := 2 }
          ∧ (s.windowItems.contains 1 = true → ∀ l, (s.lane l).runs = true → (u.lane l).core.late = []))
    ∧ (∀ e rest, (s.lane s.lead).outbox = e :: rest →
      s.Completes (.outboxForward t) [.now, .time, .laneA, .laneB, .toRecorder, .recorder, .eaves] fun u =>
        (u.lane s.lead).outbox = rest ∧ (u.lane s.lead.other).outbox = (s.lane s.lead.other).outbox.drop 1
          ∧ (∀ v, e = .event v → u.toRecorder = s.toRecorder ++ [v])
          ∧ (∀ n r, e = .record n r → u.recorder.frameRecord = r.bytes)
          ∧ (∀ n d, e = .trend n d → u.recorder.trendSample = some d)
          ∧ (∀ n d, e = .status n d → u.eaves.status = d))

/-- The bias state of an antenna: OVERLOAD after 10 ms above 100 mA, OPEN after 100 ms below 3 mA, the test 5 s after an overload (03_gnss_baseband.md, R105). -/
def Obligations.AntennaBiasStates : Prop :=
  ∀ (t ant cur : Nat) (s : State), s.unitHeld 0x30 = false → ant ≤ 1 →
    let a := s.gnss.antenna ant
    let keeps := fun u : State => u.gnss.antenna (1 - ant) = s.gnss.antenna (1 - ant)
    (bit (s.paramN 0x11020003) ant = true →
      (a.bias = .ok → 30 ≤ cur → cur ≤ 1000 →
        s.Completes (.antennaBiasCheck t ant cur) [.now, .time, .gnss] fun u =>
          (u.gnss.antenna ant).bias = .ok ∧ (u.gnss.antenna ant).current = cur
            ∧ (u.gnss.antenna ant).lowSince = none ∧ (u.gnss.antenna ant).highSince = none ∧ keeps u)
      ∧ (∀ t0, a.bias = .ok → 1000 < cur → a.highSince = some t0 → t0 + 10000000 ≤ max s.now t →
        s.Completes (.antennaBiasCheck t ant cur) [.now, .time, .gnss, .toRecorder] fun u =>
          (u.gnss.antenna ant).bias = .overload ∧ (u.gnss.antenna ant).biasOn = false
            ∧ (u.gnss.antenna ant).retestDue = some (max s.now t + 5000000000) ∧ s.Tells u (0x1101 + ant) [2, cur] ∧ keeps u)
      ∧ (∀ t0, a.bias = .ok → cur < 30 → a.lowSince = some t0 → t0 + 100000000 ≤ max s.now t →
        s.Completes (.antennaBiasCheck t ant cur) [.now, .time, .gnss, .toRecorder] fun u =>
          (u.gnss.antenna ant).bias = .opened ∧ s.Tells u (0x1101 + ant) [1, cur] ∧ keeps u))
    ∧ (bit (s.paramN 0x11020003) ant = false →
        s.Completes (.antennaBiasCheck t ant cur) [.now, .time, .gnss] fun u =>
          (u.gnss.antenna ant).bias = .disabled ∧ (u.gnss.antenna ant).biasOn = false ∧ keeps u)
    ∧ (∀ t0, a.bias = .overload → a.retestDue = some t0 → t0 ≤ max s.now t →
      (30 ≤ cur → cur ≤ 1000 →
        s.Completes (.antennaBiasRetest t ant cur) [.now, .time, .gnss, .toRecorder] fun u =>
          (u.gnss.antenna ant).bias = .ok ∧ (u.gnss.antenna ant).biasOn = true ∧ s.Tells u (0x1101 + ant) [0, cur] ∧ keeps u)
      ∧ (cur < 30 ∨ 1000 < cur →
        s.Completes (.antennaBiasRetest t ant cur) [.now, .time, .gnss] fun u =>
          (u.gnss.antenna ant).bias = .overload ∧ (u.gnss.antenna ant).retestDue = some (max s.now t + 5000000000) ∧ keeps u))

/-- A tracking channel goes from pull-in to phase lock, loses lock and is given back after 60 s (03_gnss_baseband.md, R124, R125, R126, R154). -/
def Obligations.ChannelsPassThroughLock : Prop :=
  ∀ (t ant ch : Nat) (c : Channel) (pre post : List Channel) (s : State), s.tracking = true →
    s.gnss.channels = pre ++ c :: post → c.ant = ant → c.ch = ch →
    (∀ d ∈ pre ++ post, ¬ (d.ant = ant ∧ d.ch = ch)) →
    (c.locked = true → s.Completes (.bitSynchronisation t ant ch) [.now, .time, .gnss] fun u =>
      u.gnss = { s.gnss with channels := pre ++ { c with bitSync := true } :: post })
    ∧ (∀ since, c.stage = .fll → c.since ≤ since → since + 200000000 ≤ max s.now t →
      s.Completes (.fllToPll t ant ch since) [.now, .time, .gnss] fun u =>
        u.gnss = { s.gnss with
          channels := pre ++ { c with stage := .pll, since := max s.now t, lockStart := max s.now t, cycles := none } :: post })
    ∧ (∀ since, c.stage = .pll → c.since ≤ since → since + 100000000 ≤ max s.now t →
      s.Completes (.carrierPhaseValid t ant ch since) [.now, .time, .gnss] fun u =>
        u.gnss = { s.gnss with channels := pre ++ { c with cpValid := true } :: post })
    ∧ (∀ cn0 low, c.locked = true → (cn0 < s.loopParam c.signal 6 ∨ (c.stage = .pll ∧ 50000000 ≤ low)) →
      let lost : Channel :=
        { c with stage := .lost, since := max s.now t, lockStart := 0, bitSync := false, cpValid := false,
                 halfCycle := dataOnly c.signal, slip := true, cycles := none }
      ((∃ d ∈ pre ++ post, d.ant ≤ 1 ∧ d.locked = true) →
        s.Completes (.lockLoss t ant ch cn0 low) [.now, .time, .gnss, .counters, .toRecorder] fun u =>
          s.Counts u (ctrSlips c.signal) ∧ u.gnss = { s.gnss with channels := pre ++ lost :: post })
      ∧ (s.gnss.lostAll = false → s.gnss.restarting = false → (∀ d ∈ pre ++ post, d.locked = false) →
        ∃ u, exec (.lockLoss t ant ch cn0 low) s = .next u ∧ u.gnss.channels = pre ++ lost :: post ∧ s.Counts u (ctrSlips c.signal)
          ∧ u.gnss.lostAll = true ∧ u.gnss.solValid = false ∧ ∃ e ∈ u.toRecorder, e.Says 0x1103 []))
    ∧ (c.stage = .lost → c.since + 60000000000 ≤ max s.now t →
      s.Completes (.channelHoldExpiry t ant ch) [.now, .time, .gnss] fun u =>
        u.gnss.channels = pre ++ post
          ∧ ((∀ d ∈ pre ++ post, ¬ (d.sys = c.sys ∧ d.svid = c.svid)) →
              u.gnss.acquired = s.gnss.acquired.filter fun a => !(a.sys = c.sys && a.svid = c.svid)))

/-- The channel manager keeps what is wanted and assigns the lowest free channels; an engine searches, detects and confirms (03_gnss_baseband.md, R115, R116, R117, R119, R120, R121). -/
def Obligations.ChannelsAreAssigned : Prop :=
  ∀ (t : Nat) (s : State), s.tracking = true →
    (∀ views, s.gnss.managerDue = true →
      ((s.demand views).length ≤ 192 →
        (∃ u, exec (.channelManagerRun t views) s = .next u ∧ u.gnss.capacity = false ∧ u.gnss.managerAt = s.gnss.latchAt
          ∧ ∀ c ∈ u.gnss.channels, c.ant ≤ 1 →
              ∃ e ∈ s.demand views, e.1.sys = c.sys ∧ e.1.svid = c.svid ∧ e.2 = c.signal)
        ∧ (s.gnss.lostAll = true → ∃ u, exec (.channelManagerRun t views) s = .next u
            ∧ s.ChangesOnly [.now, .time, .gnss, .toRecorder] u))
      ∧ (192 < (s.demand views).length →
        ∃ u, exec (.channelManagerRun t views) s = .next u ∧ u.gnss.capacity = true
          ∧ (s.gnss.capacity = false → ∃ e ∈ u.toRecorder, e.Says 0x1108 [(s.demand views).length])))
    ∧ (∀ engine ant sys svid k code sum noise,
      (assoc s.gnss.engines engine = none → s.searchable ant sys svid = true →
        s.Completes (.acquisitionBlock t engine ant sys svid k code sum noise) [.now, .time, .gnss] fun u =>
          assoc u.gnss.engines engine = some
              { ant := ant, sys := sys, svid := svid, gloK := s.gnss.channelOf sys svid k,
                know := (s.tick t).knowledge ant sys svid, done := 1, cell := none }
            ∧ u.gnss.channels = s.gnss.channels)
      ∧ (∀ e, assoc s.gnss.engines engine = some e →
        let bins := e.know.bins e.sys
        let blocks := e.know.blocks e.sys
        (e.cell = none → bins * (blocks - 1) ≤ e.done → detects sum noise = true →
          s.Completes (.acquisitionBlock t engine ant sys svid k code sum noise) [.now, .time, .gnss] fun u =>
            assoc u.gnss.engines engine = some { e with done := 0, cell := some (e.done % bins, code) }
              ∧ u.gnss.channels = s.gnss.channels)
        ∧ (∀ cell, e.cell = some cell →
          (e.done + 1 < blocks →
            s.Completes (.acquisitionBlock t engine ant sys svid k code sum noise) [.now, .time, .gnss] fun u =>
              assoc u.gnss.engines engine = some { e with done := e.done + 1 })
          ∧ (blocks ≤ e.done + 1 →
            (detects sum noise = true → code = cell.2 →
              s.Completes (.acquisitionBlock t engine ant sys svid k code sum noise) [.now, .time, .gnss] fun u =>
                u.gnss.engines = assocErase s.gnss.engines engine
                  ∧ ({ sys := e.sys, svid := e.svid, gloK := e.gloK } : Acquired) ∈ u.gnss.acquired
                  ∧ (e.sys, e.svid) ∉ u.gnss.searching)
            ∧ (detects sum noise = false ∨ code ≠ cell.2 →
              s.Completes (.acquisitionBlock t engine ant sys svid k code sum noise) [.now, .time, .gnss, .counters, .toRecorder]
                fun u => u.gnss = { s.gnss with engines := assocErase s.gnss.engines engine } ∧ s.Counts u ctrUnconfirmed)))))

/-- Navigation data sets are stored and sent once, 15 a frame; the assistance store; epochs that come late (02_control_frame.md, 03_gnss_baseband.md, R80, R111, R122, R125, R133, R138, R139). -/
def Obligations.NavigationDataIsKeptAndSent : Prop :=
  ∀ (t : Nat) (s : State),
    (∀ (n : NavSet) (f : NavFacts), s.tracking = true → svidValid n.sys n.svid = true → signalOf n.sys n.signal = true →
      s.gnss.tracks n.sys n.svid n.signal = true → f.ok = true → n.kind ≤ 3 →
      let m : NavSet := { n with rxMono := max s.now t }
      let kept := fun u : State =>
        (n.kind = 0 → u.gnss.store = storeNav s.gnss.store { set := m, validTo := f.validTo, healthy := f.healthy })
          ∧ (∀ c ∈ u.gnss.channels, c.locked = true → c.sys = n.sys → c.svid = n.svid → c.signal = n.signal → c.halfCycle = false)
      (s.gnss.navFresh n = true → s.gnss.ephCount < 15 →
        s.Completes (.navMessageDecode t n f) [.now, .time, .gnss, .frame] fun u =>
          kept u ∧ u.gnss.ephCount = s.gnss.ephCount + 1 ∧ u.gnss.ephQueue = s.gnss.ephQueue
            ∧ ∃ x, u.frame.inFlight = s.frame.inFlight ++ [(0x0103, x)] ∧ x.data = m.bytes n.kind)
      ∧ (s.gnss.navFresh n = true → 15 ≤ s.gnss.ephCount →
        s.Completes (.navMessageDecode t n f) [.now, .time, .gnss] fun u =>
          kept u ∧ u.gnss.ephQueue = s.gnss.ephQueue ++ [m] ∧ u.gnss.ephCount = s.gnss.ephCount)
      ∧ (s.gnss.navFresh n = false →
        s.Completes (.navMessageDecode t n f) [.now, .time, .gnss] fun u =>
          kept u ∧ u.gnss.ephQueue = s.gnss.ephQueue ∧ u.gnss.ephCount = s.gnss.ephCount))
    ∧ (s.unitHeld 0x30 = false → s.gnss.assistAt + 1800000000000 ≤ max s.now t →
      (s.Completes (.assistStoreWrite t true) [.now, .time, .gnss] fun u =>
        u.gnss = { s.gnss with assist := s.gnss.assistNow, assistAt := max s.now t })
      ∧ (s.Completes (.assistStoreWrite t false) [.now, .time, .gnss, .toRecorder] fun u =>
        u.gnss = { s.gnss with assistAt := max s.now t } ∧ s.Tells u 0x1109 []))
    ∧ (s.frame.gnssPending ≠ [] → s.frame.strobe + 150000 ≤ max s.now t →
      s.Completes (.gnssSectionLate t) [.now, .time, .frame, .counters, .toRecorder] fun u =>
        s.Counts u ctrLateEpochs ∧ u.frame.gnssPending = []
          ∧ u.frame.building.map Section.source = s.frame.building.map Section.source ++ s.frame.gnssPending.map (fun x => x.source + 8)
          ∧ (∀ c, s.frame.current = some c → u.frame.current = some { c with flags := c.flags ||| 1#16 })
          ∧ ∃ e, u.toRecorder.getLast? = some e ∧ e.Says 0x110A [s.frame.number.toNat])

/-- A notch engages on a line of 15 dB and is released after 10 s; a spoofing bit clears after 60 s and the last one raises 0x1107 (03_gnss_baseband.md, R150, R151, R152, R153). -/
def Obligations.NotchesAndSpoofingIndicators : Prop :=
  ∀ (t : Nat) (s : State), s.unitHeld 0x30 = false →
    (∀ ant chain line lv c, s.gnss.engines = [] → s.gnss.rfTest = none →
      s.gnss.chains.filter (fun c => c.ant = ant ∧ c.chain = chain) = [c] → c.scanDue (max s.now t) = true →
      c.notch1.engaged = false → c.notch2.engaged = false → c.flags = 0#4 → c.lastEvent = none → 1500 ≤ lv →
      s.Completes (.spectrumScan t ant chain [(line, lv)]) [.now, .time, .gnss, .toRecorder] fun u =>
        u.gnss = { s.gnss with chains := s.gnss.chains.map (fun x =>
          if x.ant = ant ∧ x.chain = chain then
            { x with scanAt := some (max s.now t), notch1 := { engaged := true, line := line, lowSince := none }, flags := 2#4,
                     lastEvent := some (max s.now t) }
          else x) }
          ∧ s.Tells u 0x1105 [ant, chain, 2])
    ∧ (∀ ant chain t0 c, s.gnss.chains.filter (fun c => c.ant = ant ∧ c.chain = chain) = [c] →
      c.notch1.engaged = true → c.notch2.engaged = false → c.notch1.lowSince = some t0 → t0 + 10000000000 ≤ max s.now t →
      c.flags = 2#4 →
      s.Completes (.notchRelease t ant chain 1) [.now, .time, .gnss] fun u =>
        u.gnss = { s.gnss with chains := s.gnss.chains.map (fun x =>
          if x.ant = ant ∧ x.chain = chain then { x with notch1 := .reset, flags := 0#4 } else x) })
    ∧ (∀ k b, s.gnss.spoof[k]? = some b → b.set = true → b.lastMet + 60000000000 ≤ max s.now t →
      s.Completes (.spoofIndicatorClear t k) [.now, .time, .gnss, .toRecorder] fun u =>
        u.gnss = { s.gnss with spoof := setAt s.gnss.spoof k (fun b => { b with set := false, sats := [] }) }
          ∧ (u.gnss.anySpoof = false → s.Tells u 0x1107 [])
          ∧ (u.gnss.anySpoof = true → u.toRecorder = s.toRecorder))

/-- Time sources are measured, qualify after 10 s, are selected, reverted to and found in conflict (04_time.md, R166, R167, R168, R169, R176, R200). -/
def Obligations.TimeSourcesQualifyAndAreSelected : Prop :=
  ∀ (t n : Nat) (s : State), 1 ≤ n → n ≤ 3 →
    let x := s.time.src n
    (∀ unc, s.SourcesHold 0 → s.sourceValid n = true →
      s.Completes (.timeOffsetMeasurement t n unc) [.now, .time] fun u =>
        (u.time.src n).e = s.sourceOffset n ∧ (u.time.src n).unc = unc ∧ (u.time.src n).valid = true
          ∧ (u.time.src n).base = (s.tick t).time.offset ∧ ∀ m, 1 ≤ m → m ≤ 3 → m ≠ n → u.time.src m = s.time.src m)
    ∧ (∀ unc, s.SourcesHold n → x.valid = true → s.sourceValid n = false → s.time.source ≠ n →
      s.Completes (.timeOffsetMeasurement t n unc) [.now, .time] fun u =>
        (u.time.src n).valid = false ∧ (u.time.src n).qualified = false ∧ u.time.source = s.time.source
          ∧ ∀ m, 1 ≤ m → m ≤ 3 → m ≠ n → u.time.src m = s.time.src m)
    ∧ (s.SourcesHold 0 → x.valid = true → x.qualified = false → x.validSince + 10000000000 ≤ max s.now t →
        x.maxE - x.minE ≤ qualLimit n →
      (((s.time.source ≠ 0 ∧ s.time.source ≠ 4) ∨ n ∉ s.priority) →
        s.Completes (.sourceQualified t n) [.now, .time] fun u =>
          (u.time.src n).qualified = true ∧ (u.time.src n).qualSince = max s.now t ∧ u.time.source = s.time.source)
      ∧ (s.time.source = 0 ∨ s.time.source = 4 → n ∈ s.priority →
        s.Completes (.sourceQualified t n) [.now, .time, .toRecorder] fun u =>
          (u.time.src n).qualified = true ∧ u.time.source = n ∧ ∃ e ∈ u.toRecorder, e.Says 0x1201 [n]))
    ∧ (s.SourcesHold 0 → x.qualified = true → s.time.source ≠ 0 → s.rank n < s.rank s.time.source →
        x.qualSince + s.paramN 0x12010008 * 1000000000 ≤ max s.now t →
        s.Completes (.revertDelayExpiry t n) [.now, .time, .toRecorder] fun u =>
          u.time.source = n ∧ ∃ e ∈ u.toRecorder, e.Says 0x1201 [n])
    ∧ (∀ t0, s.SourcesHold 0 → (s.tick t).conflicting = true → s.time.conflictTold = false → s.time.conflictSince = some t0 →
        t0 + 10000000000 ≤ max s.now t →
        s.Completes (.sourceConflict t) [.now, .time, .toRecorder] fun u =>
          u.time.conflictTold = true ∧ u.time.source = s.time.source ∧ s.Tells u 0x120A [])

/-- Holdover, the OCXO, steps of module time and leap seconds (04_time.md, R163, R171, R172, R175, R177, R178, R179, R181, R184). -/
def Obligations.HoldoverStepsAndLeapSeconds : Prop :=
  (∀ (t : Nat) (s : State),
     (∀ h, s.time.st = .holdover → s.time.hold = some h → h.entry + s.paramN 0x12010004 * 1000000000 ≤ max s.now t →
       s.Completes (.holdoverLimit t) [.now, .time, .toRecorder] fun u =>
         u.time = { (s.tick t).time with st := .unsynchronised } ∧ s.Tells u 0x1203 [])
     ∧ (s.time.warming = true →
       s.Completes (.ocxoWarmupComplete t) [.now, .time, .toRecorder] fun u =>
         u.time = { (s.tick t).time with warming := false, offsetRate := 0 } ∧ s.Tells u 0x1208 [])
     ∧ (s.time.ocxoFail = false →
       s.Completes (.ocxoFailure t) [.now, .time, .toRecorder] fun u =>
         u.time = { (s.tick t).time with ocxoFail := true, offsetRate := 0, st := .unsynchronised }
           ∧ (s.time.st = .unsynchronised → s.Tells u 0x1207 [])
           ∧ (s.time.st ≠ .unsynchronised → ∃ a b, u.toRecorder = s.toRecorder ++ [a, b] ∧ a.Says 0x1207 [] ∧ b.Says 0x1203 [])))
  ∧ (∀ (t : Nat) (s : State), s.SourcesHold 0 →
       (s.time.nextPulse ≤ (s.tick t).taiS → s.time.pending = none →
         s.Completes (.timePulse t) [.now, .time] fun u =>
           u.time.offset = (s.tick t).time.offset ∧ u.time.nextPulse = (s.tick t).taiS + 1 ∧ u.time.stepGen = s.time.stepGen)
       ∧ (∀ p, s.time.nextPulse ≤ (s.tick t).taiS → s.time.pending = some p → s.stepDue p = false →
         s.Completes (.timePulse t) [.now, .time] fun u =>
           u.time.offset = (s.tick t).time.offset ∧ u.time.pending = some { p with pulses := p.pulses + 1 }
             ∧ u.time.stepGen = s.time.stepGen)
       ∧ (∀ p, s.time.nextPulse ≤ (s.tick t).taiS → s.time.pending = some p → s.stepDue p = true →
         s.Completes (.timePulse t) [.now, .time, .gnss, .laneA, .laneB, .toRecorder] fun u =>
           u.time.offset = offset96 ((s.tick t).time.offset - p.e * 4294967296 / 10) ∧ u.time.stepGen = !s.time.stepGen
             ∧ u.time.lastStep = some (max s.now t) ∧ u.time.pending = none ∧ u.time.slewing = false ∧ u.time.slewLeft = 0
             ∧ ∃ e ∈ u.toRecorder, e.Says 0x1205 [])
       ∧ (∀ p t0, s.time.pending = some p → p.announced = true → p.lowSince = some t0 → t0 + 2000000000 ≤ max s.now t →
         s.Completes (.stepCancel t) [.now, .time, .toRecorder] fun u =>
           u.time.pending = none ∧ u.time.offset = (s.tick t).time.offset ∧ u.time.slewLeft = -p.e * 4294967296 / 10
             ∧ u.time.stepGen = s.time.stepGen))
  ∧ (∀ (t : Nat) (s : State), s.time.leap ≠ 0 → (s.time.leapStart : Int) + s.time.leap ≤ (s.tick t).taiS →
         s.Completes (.leapSecond t) [.now, .time, .gnss, .toRecorder] fun u =>
           u.time = { (s.tick t).time with
             taiUtc := some (s.taiMinusUtc + s.time.leap), leap := 0, ptp1 := s.time.ptp1.afterLeap, ptp2 := s.time.ptp2.afterLeap }
           ∧ u.gnss = { s.gnss with utc := s.gnss.utc.map fun x => (x.1 + x.2, 0) } ∧ s.Tells u 0x120B [])

/-- PTP: exchanges give an offset, requests are answered, Announce is missed, timestamps are queued (04_time.md, R141, R183, R185, R186, R187, R188, R189, R190, R191). -/
def Obligations.PtpInstancesServeTheirPorts : Prop :=
  ∀ (t n : Nat) (s : State), s.unitHeld 0x31 = false → n = 2 ∨ n = 3 → s.paramN (ptpBase n + 1) = 1 →
    let p := s.time.ptp n
    let dom := s.paramN (ptpBase n + 3)
    let via := s.paramN (ptpBase n + 5)
    let port := s.paramN (ptpBase n + 2)
    let own := Config.ptpIdentity.toNat
    (∀ seq origin corr, p.st = .slave → p.parent ≠ own →
      s.Completes (.ptpMessageReceive t n dom via p.parent (.sync seq false origin corr)) [.now, .time] fun u =>
        u.time.ptp n = { p with exchange := (some
          { syncSeq := seq, t1 := some ((origin : Int) + corr).toNat, t2 := ((s.tick t).rxStamp port).toNat, reqSeq := 0,
            t3 := none, stepGen := s.time.stepGen }) })
    ∧ (∀ x t1 t3 rx corr, p.st = .slave → p.parent ≠ own → p.exchange = some x → x.t1 = some t1 → x.t3 = some t3 →
        x.stepGen = s.time.stepGen →
      s.Completes (.ptpMessageReceive t n dom via p.parent (.delayResp x.reqSeq rx corr own)) [.now, .time] fun u =>
        u.time.ptp n = { p with exchange := none, offset := (some
          (((x.t2 - t1 : Int) - ((rx - corr : Int) - t3)) * 5 - s.paramI (ptpBase n + 13) * 10)) })
    ∧ (∀ seq sender, p.st = .master → sender ≠ own →
      s.Completes (.ptpMessageReceive t n dom via sender (.delayReq seq)) [.now, .time] fun u =>
        u.time.ptp n = { p with sent := [s.ptpOut n (.delayResp seq ((s.tick t).rxStamp port).toNat sender)] })
    ∧ (p.st ≠ .master → p.lastAnnounce + s.paramN (ptpBase n + 11) * 2 ^ s.paramN (ptpBase n + 9) * 1000000000 ≤ max s.now t →
      s.Completes (.ptpAnnounceTimeout t n) [.now, .time, .toRecorder] fun u =>
        (u.time.ptp n).st = (if s.paramN (ptpBase n + 4) = 1 then .master else .listening)
          ∧ (u.time.ptp n).master = none ∧ (u.time.ptp n).announces = 0)
    ∧ (p.st = .master →
      (s.Completes (.ptpMessageSend t n 11) [.now, .time] fun u =>
        u.time.ptp n = { p with
          seqAnnounce := (p.seqAnnounce + 1) % 65536
          sent := [s.ptpOut n (.announce p.seqAnnounce (s.ownMaster n) (if s.time.utcValid then some s.taiMinusUtc else none)
            s.time.leap)] })
      ∧ ((s.time.txq port).entries.length < 16 →
        s.Completes (.ptpMessageSend t n 0) [.now, .time] fun u =>
          u.time.ptp n = { p with
            seqSync := (p.seqSync + 1) % 65536
            sent := [s.ptpOut n (.sync p.seqSync), s.ptpOut n (.followUp p.seqSync ((s.tick t).txStamp port).toNat)] }
            ∧ (u.time.txq port).entries.map TxStamp.seq = (s.time.txq port).entries.map TxStamp.seq ++ [p.seqSync])
      ∧ (16 ≤ (s.time.txq port).entries.length →
        s.Completes (.ptpMessageSend t n 0) [.now, .time, .counters, .toRecorder] fun u =>
          s.Counts u (ctrTxDropped port) ∧ (u.time.txq port).entries = (s.time.txq port).entries
            ∧ (u.time.txq port).ovf = true ∧ (u.time.ptp n).sent = [s.ptpOut n (.sync p.seqSync)]))
    ∧ (∀ x, p.st = .slave → p.exchange = some x → (s.time.txq port).entries.length < 16 →
      s.Completes (.ptpMessageSend t n 1) [.now, .time] fun u =>
        u.time.ptp n = { p with
          seqReq := (p.seqReq + 1) % 65536
          sent := [s.ptpOut n (.delayReq p.seqReq)]
          exchange := some { x with reqSeq := p.seqReq, t3 := some ((s.tick t).txStamp port).toNat } })
    ∧ (∀ fnet source data,
      let ts := (((max s.now t : Nat) - (s.rst.options.phyLat.getD (2 * fnet) 0 + s.paramI (0x12040001 + 2 * fnet))) / 4 * 4).toNat
      (s.Completes (.fieldNetworkFrameReceive t fnet source false data) [.now, .time, .frame] fun u =>
        u.frame.inFlight = s.frame.inFlight ++ [(source, { arrival := 0, portTs := ts, sflags := 0, data := data })])
      ∧ (∀ m, rtcmFrames data.length data = ([m], 0) →
        s.Completes (.fieldNetworkFrameReceive t fnet source true data) [.now, .time, .frame] fun u =>
          u.frame.inFlight = s.frame.inFlight ++ [(source, { arrival := 0, portTs := ts, sflags := 0, data := m })]))

/-- Time marks and labels cross the barrier, and the host copy is isolated when they stop (01_architecture.md, 04_time.md, R38, R194, R195, R196, R197). -/
def Obligations.HostCopyOfModuleTime : Prop :=
  ∀ (t : Nat) (s : State),
    (s.eaves.link0.up = true ∨ s.eaves.link1.up = true →
      ((s.tick t).taiNsTotal / 1000000).toNat * 1000000 ≠ s.time.lastMark →
      let link := if s.eaves.link0.up then 0 else 1
      s.Completes (.timeMarkSend t) [.now, .time, .eaves] fun u =>
        u.time = { (s.tick t).time with lastMark := ((s.tick t).taiNsTotal / 1000000).toNat * 1000000, markLink := link }
          ∧ u.eaves = { s.eaves with symbols := s.eaves.symbols ++ [(link, .timeMark)] })
    ∧ (500000000 ≤ (s.tick t).taiNs → s.time.label = none →
      s.Completes (.timeLabelSend t) [.now, .time, .eaves] fun u =>
        u.time.offset = (s.tick t).time.offset ∧ u.time.host.labelsMissed = s.time.host.labelsMissed + 1
          ∧ ∃ l, u.time.label = some l ∧ l.taiS = (s.tick t).taiS + 1 ∧ l.tstatus = (s.tick t).timeStatus
            ∧ l.utc = s.taiMinusUtcAt ((s.tick t).taiS + 1) ∧ l.leap = s.time.leap ∧ l.uncertainty = (s.tick t).uncertainty
            ∧ (s.linkUp = true → s.eaves.labelCredits < 16 → s.eaves.waitingLabels = [] →
                u.eaves.event = s.eaves.event.send s.eaves.link0.up s.eaves.link1.up 2 0 l.bytes
                  ∧ u.eaves.labelCredits = s.eaves.labelCredits + 1))
    ∧ (∀ delay err, s.eaves.symbols.contains (s.time.markLink, .timeMark) = true →
      (s.time.host.isolated = false →
        s.Completes (.hostTimeMark t delay err) [.now, .time, .eaves] fun u =>
          u.time.host.lastMark = max s.now t ∧ u.time.host.isolated = false ∧ u.time.offset = (s.tick t).time.offset
            ∧ (s.time.host.slewLeft = 0 → s.time.host.stepWaiting = none → s.time.markLink = 0 →
                u.time.host.offset = (s.tick t).taiNsTotal - (max s.now t : Nat) + ((s.eaves.link0.latency : Int) - delay)))
      ∧ (s.time.host.isolated = true →
        s.Completes (.hostTimeMark t delay err) [.now, .time, .host, .eaves] fun u =>
          u.time.host.isolated = false ∧ u.time.host.awaitingLabel = true ∧ u.time.host.lastMark = max s.now t
            ∧ ((err.natAbs : Int) * 10 ≤ s.stepThreshold →
                u.time.host.slewLeft = -err * 4294967296 ∧ u.time.host.stepWaiting = none)
            ∧ (s.stepThreshold < (err.natAbs : Int) * 10 → u.time.host.stepWaiting = some err)
            ∧ u.time.offset = (s.tick t).time.offset))
    ∧ (s.time.host.isolated = false → (s.time.host.lastMark + 10000000 ≤ max s.now t ∨ 3 ≤ s.time.host.labelsMissed) →
      s.Completes (.hostMarkTimeout t) [.now, .time, .host] fun u =>
        u.time.host = { s.time.host with isolated := true, isolatedAt := max s.now t }
          ∧ u.time.offset = (s.tick t).time.offset)

/-- A silent reference becomes STALE, recovery ends SUSPECT, re-acceptance ends REJECTED, bars run out (05_reference_fusion.md, R223, R225, R226, R237). -/
def Obligations.ReferencesFollowTheirTimers : Prop :=
  ∀ (t ref : Nat) (l : LaneId) (s : State), (s.lane l).runs = true →
    let c := (s.lane l).core
    let r := c.ref ref
    let put (x : RefState) : Core := { c with fusion := { c.fusion with refs := setAt c.fusion.refs ref fun _ => x } }
    ref < c.fusion.refs.length →
    ((s.lane l).fused = true → ∀ e, s.config.active.ref? ref = some e → e.on 8 = true → r.appliedAt + e.timeout * 1000000 ≤ max s.now t → r.stale = false →
      r.deselected = false → r.rejected = false → r.shown ≠ 4 →
      s.Completes (.referenceTimeout t ref) laneFields (s.Turns t l
        (put { r with
          passSince := max s.now t
          stale := true
          suspect := false
          track := none
          restart := true
          fixedPoint := none
          last := none
          varSince := none
          divSince := none
          drift := []
          innovations := []
          shown := 4
          cause := 8 })
        [(0x1001, [ref, r.shown, 4, 8])]))
    ∧ ((s.lane l).fused = true → r.code = 2 → r.shown = 2 → r.restart = false → r.suspectAt + s.paramN 0x1001000A * 1000000000 ≤ max s.now t →
      s.Completes (.suspectRecovery t ref) laneFields (s.Turns t l
        (put { r with suspect := false, shown := if r.clockBad then 1 else 0, cause := 19 })
        [(0x1001, [ref, 2, if r.clockBad then 1 else 0, 19])]))
    ∧ (∀ e, (s.lane l).fused = true → s.config.active.ref? ref = some e → e.auto = true → r.code = 3 → r.shown = 3 →
      r.passSince + s.paramN 0x1001000B * 1000000000 ≤ max s.now t →
      s.Completes (.reacceptanceTime t ref) laneFields (s.Turns t l
        (put { r with rejected := false, suspect := true, suspectAt := max s.now t, innovFails := 0, shown := 2, cause := 20 })
        [(0x1001, [ref, 3, 2, 20])]))
    ∧ ((s.lane l).fused = false →
      s.Completes (.referenceTimeout t ref) laneFields (s.Turns t l c [])
        ∧ s.Completes (.suspectRecovery t ref) laneFields (s.Turns t l c [])
        ∧ s.Completes (.reacceptanceTime t ref) laneFields (s.Turns t l c []))
    ∧ s.Completes (.satelliteBarExpiry t) laneFields (s.Turns t l
        { c with fusion := { c.fusion with barred := c.fusion.barred.filter fun b => decide (max s.now t < b.2.2) } } [])

/-- A target track coasts, is lost and ends FOLLOW-TARGET; a refinement shadow moves 1 LSB per component and stops at 5000 (05_reference_fusion.md, R222, R248, R249, R299). -/
def Obligations.TargetTracksAndRefinement : Prop :=
  ∀ (t track : Nat) (l : LaneId) (s : State), (s.lane l).runs = true →
    let c := (s.lane l).core
    let g := c.fusion.targets.getD track { st := 0, track := none, samples := 0, lastAt := 0 }
    let put (x : Target) : Core := { c with fusion := { c.fusion with targets := setAt c.fusion.targets track fun _ => x } }
    (track < c.fusion.targets.length → g.st ≠ 0 → g.st ≠ 4 → g.lastAt + s.paramN 0x10040002 * 1000000000 ≤ max s.now t →
      s.Completes (.targetTrackTimeout t track) laneFields (s.Turns t l (put { g with st := 4, samples := 0 }) [(0x1009, [track])])
      ∧ (c.ctl.mode ≠ .followTarget →
        s.Completes (.targetTrackLost t track) laneFields (s.Turns t l (put { g with st := 4, samples := 0 }) [(0x1009, [track])]))
      ∧ (c.ctl.mode = .followTarget → c.ctl.follow = track →
        let m : Control :=
          { c.ctl with
            mode := .autoPosition
            tn := c.engine.int 0x1110
            te := c.engine.int 0x1111
            th := (c.engine.word 0x1112).toNat
            pulse1 := c.ctl.count1
            pulse2 := c.ctl.count2 }
        s.Completes (.targetTrackLost t track) laneFields
          (s.Turns t l { put { g with st := 4, samples := 0 } with ctl := m } [(0x1009, [track]), (0x0201, [4, 3]), (0x0203, [])])))
    ∧ (track < c.fusion.targets.length → g.st ≠ 0 → g.st ≠ 4 → max s.now t < g.lastAt + s.paramN 0x10040002 * 1000000000 →
      g.lastAt + s.paramN 0x10040001 * 1000000 ≤ max s.now t →
      s.Completes (.targetTrackTimeout t track) laneFields (s.Turns t l (put { g with st := 3 }) []))
    ∧ (∀ x d, s.paramN 0x10060001 ≠ 0 → c.ctl.mode.isDp = true → c.shadows = [x] → x.stopped = false →
        x.lastStep + 6000000000 ≤ max s.now t → x.estimate = some d →
      let lg := s.config.active.leggett x.entry
      let y : Shadow :=
        { Shadow.start lg x.entry (max s.now t) with
          x := x.x + clampInt (-1) 1 (lg.x + d.1 - x.x)
          y := x.y + clampInt (-1) 1 (lg.y + d.2 - x.y) }
      let stop := 5000 ≤ (y.x - lg.x).natAbs ∨ 5000 ≤ (y.y - lg.y).natAbs
      s.Completes (.refinementShadowStep t) laneFields
        (s.Turns t l { c with shadows := [{ y with stopped := decide stop }] } (if stop then [(0x100A, [x.entry])] else [])))
    ∧ ((∀ x ∈ c.shadows, x.stopped = true ∨ max s.now t < x.lastStep + 6000000000 ∨ x.estimate = none)
          ∨ s.paramN 0x10060001 = 0 ∨ c.ctl.mode.isDp = false →
      s.Completes (.refinementShadowStep t) laneFields (s.Turns t l c []))

/-- Fusion, observer and control, allocation and the consequence case of a frame in each lane (02_control_frame.md, 05_reference_fusion.md, 06_batten_engine.md, R88, R98, R102, R242, R245, R289, R363, R378). -/
def Obligations.FramePhasesOfALane : Prop :=
  ∀ (t : Nat) (l : LaneId) (snap : Snapshot) (s : State), (s.lane l).runs = true →
    (∀ ps, s.frame.replay = .none → (s.lane l).held = some snap → (s.lane l).reapply = false → (s.lane l).missed = [] →
        s.frame.undecided = [] →
      s.Completes (.fusionPhase t ps) laneFields fun u =>
        (u.lane l).core.rewind.map (·.frame) = (snap.frame :: (s.lane l).core.rewind.map (·.frame)).take 32
          ∧ (u.lane l).core.ctl.depthFrames = (s.lane l).core.ctl.depthFrames + 1 ∧ (u.lane l).core.stored = []
          ∧ (u.lane l).fused = true)
    ∧ (s.frame.replay = .none → (s.lane l).held = some snap → (s.lane l).core.ctl.mode = .maintenance →
      s.Completes (.observerControlPhase t) laneFields fun u =>
        u.lane l = { s.lane l with core := { (s.lane l).core with tau := (0, 0, 0) }, fused := false })
    ∧ (s.frame.replay = .none → (s.lane l).held = some snap → (s.lane l).core.ctl.mode = .standby →
      s.Completes (.observerControlPhase t) laneFields fun u =>
        (u.lane l).core.tau = (0, 0, 0) ∧ (u.lane l).core.ctl.status = 0x70
          ∧ (u.lane l).core.ctl.autoAxes = [false, false, false] ∧ (u.lane l).core.ctl.mode = .standby)
    ∧ (s.frame.replay = .none → (s.lane l).held = some snap →
      s.Completes (.allocationPhase t .clean .clean) laneFields fun u =>
        (∃ r, (u.lane l).slot = some r ∧ r.frame = snap.frame ∧ r.snapDigest = snap.digest ∧ r.snapshotLost = false
          ∧ r.mode = (s.lane l).core.ctl.mode.code ∧ r.engineFault = (s.lane l).engineFault)
        ∧ (u.lane l).engineFault = false ∧ (u.lane l).solverFault = false ∧ (u.lane l).auxFault = false)
    ∧ (s.frame.carries = true ∨ s.frame.katWindow = true ∨ s.frame.caseRun = true →
      s.Completes (.consequenceCaseRun t .clean .clean) [.now, .time] fun u => u.lane l = s.lane l)
    ∧ (s.frame.begun = true → s.frame.carries = false → s.frame.katWindow = false → s.frame.caseRun = false →
        s.frame.strobe + 5000000 ≤ max s.now t → max s.now t + 3000000 < s.frame.strobe + s.frame.period * 1000000 →
        s.casesRun (s.lane l).core.ctl.mode = true →
        s.config.active.enabledCases.contains (s.lane l).core.cases.pointer = true →
      let k := (s.lane l).core.cases
      ((s.lane l).auxFault = true →
        s.Completes (.consequenceCaseRun t .clean .clean) (laneFields ++ [.frame]) fun u =>
          u.frame = { s.frame with caseRun := true }
            ∧ s.Turns t l { (s.lane l).core with cases := { k with last := { CaseResult.none with cflags := 4 } } }
              [(0x2205, [k.pointer])] u)
      ∧ ((s.lane l).auxFault = false → k.pointer < k.cases.length →
        s.Completes (.consequenceCaseRun t .clean .clean) (laneFields ++ [.frame]) fun u =>
          let m := (u.lane l).core.cases
          u.frame = { s.frame with caseRun := true } ∧ m.last.case_ = k.pointer ∧ m.last.frame = s.frame.number
            ∧ (m.cases.getD k.pointer (.reset k.pointer)).result = m.last
            ∧ m.pointer = nextCase s.config.active.enabledCases k.pointer))

/-- The elementwise Batten instructions write what R266 to R268 say and nothing else (06_batten_engine.md, R258, R259, R260, R265, R266, R267, R268). -/
def Obligations.BattenElementwiseInstructions : Prop :=
  ∀ (r : BRun) (f : BFields) (s : State), (s.lane r.lane).runs = true → r.fault = false →
    let e := (s.lane r.lane).core.engine
    let n := (e.ctx r.inertial).m * (e.ctx r.inertial).n
    n ≤ 4096 →
    let x (j : Nat) : Int := e.int (f.srca + j)
    let y (j : Nat) : Int := e.int (f.srcb + j)
    let z (j : Nat) : Int := e.int (f.dst + j)
    let c (j : Nat) : Int := (e.coef false (f.srcb + j)).value1
    let half (a b : Int) : Int := (2 * (a * b.sign) + b.natAbs) / (2 * b.natAbs)
    let writes (i : BRun → BFields → Instr) (vals : List (Nat × Int)) : Prop :=
      (f.fmt = 1 ∨ ∀ p ∈ vals, InRange p.2) → s.Computes r (i r f) vals
    let one (g : Nat → Int) : List (Nat × Int) := (List.range n).map fun j => (f.dst + j, g j)
    let two (g : Nat → Int × Int) : List (Nat × Int) :=
      (List.range n).flatMap fun j => [(f.dst + 2 * j, (g j).1), (f.dst + 2 * j + 1, (g j).2)]
    writes .movc (one fun j => shrRound (c j) f.osh)
    ∧ writes .movd (one fun j => shrRound (x j) f.osh)
    ∧ writes .vadd (one fun j => shrRound (x j + y j) f.osh)
    ∧ writes .vsub (one fun j => shrRound (x j - y j) f.osh)
    ∧ writes .vmul (one fun j => shrRound (x j * y j) f.osh)
    ∧ writes .vabs (one fun j => shrRound (x j).natAbs f.osh)
    ∧ writes .vclmp (one fun j => min (max (x j) (c (2 * j))) (c (2 * j + 1)))
    ∧ writes .vsel (((List.range n).filter fun j => decide (y j ≠ 0)).map fun j => (f.dst + j, x j))
    ∧ writes .vcgt (one fun j => if y j < x j then 1 else 0)
    ∧ writes .rlim (one fun j => shrRound (z j + min (max (x j - z j) (-(c j))) (c j)) f.osh)
    ∧ writes .blnd (one fun j => shrRound (x j + ((z j - x j) * max 0 (min 65536 (y 0)) + 32768) / 65536) f.osh)
    ∧ writes .sincos (two fun j => (sinQ30 (e.word (f.srca + j)).toNat, cosQ30 (e.word (f.srca + j)).toNat))
    ∧ (let sn := sinQ30 (e.word f.srcb).toNat
       let cs := cosQ30 (e.word f.srcb).toNat
       writes .rot2 (two fun j =>
         if f.mod then (shrRound (cs * x (2 * j) + sn * x (2 * j + 1)) 30, shrRound (-sn * x (2 * j) + cs * x (2 * j + 1)) 30)
         else (shrRound (cs * x (2 * j) - sn * x (2 * j + 1)) 30, shrRound (sn * x (2 * j) + cs * x (2 * j + 1)) 30)))
    ∧ ((∀ j, j < n → y j ≠ 0) → writes .div (one fun j => half (x j * (2 ^ f.osh : Nat)) (y j)))
    ∧ ((∀ j, j < n → 0 ≤ x j) → ∃ g : Nat → Int, writes .isqrt (one g)
        ∧ ∀ j, j < n → 0 ≤ g j ∧ (g j = 0 ∨ (2 * g j - 1) * (2 * g j - 1) ≤ 4 * (x j * (2 ^ f.osh : Nat)))
          ∧ 4 * (x j * (2 ^ f.osh : Nat)) < (2 * g j + 1) * (2 * g j + 1))
    ∧ (∀ lo hi : Nat → Int × Int, (e.table f.srcb).Pairwise (fun a b => a.1 < b.1) →
        (∀ j, j < n → ∃ i, (e.table f.srcb)[i]? = some (lo j) ∧ (e.table f.srcb)[i + 1]? = some (hi j) ∧ (lo j).1 ≤ x j ∧ x j < (hi j).1) →
        writes .tbl (one fun j =>
          shrRound ((lo j).2 + half ((x j - (lo j).1) * ((hi j).2 - (lo j).2)) ((hi j).1 - (lo j).1)) f.osh))
    ∧ ((∀ j, j < n → ¬ (x (2 * j) = 0 ∧ x (2 * j + 1) = 0)) →
        s.Computes r (.atan2 r f) (one fun j => (direction (x (2 * j)) (x (2 * j + 1)) : Nat)))

/-- MVC, MVD, MMC, MMD and VSCL form exact sums, shift them once and write them column by column (06_batten_engine.md, R254, R256, R257, R258, R259, R265, R266). -/
def Obligations.BattenMatrixInstructions : Prop :=
  ∀ (r : BRun) (f : BFields) (s : State), (s.lane r.lane).runs = true → r.fault = false →
    let e := (s.lane r.lane).core.engine
    let m := (e.ctx r.inertial).m
    let n := (e.ctx r.inertial).n
    let k := (e.ctx r.inertial).k
    1 ≤ m → m ≤ 64 → 1 ≤ n → n ≤ 64 → 1 ≤ k → k ≤ 64 →
    let start (a : Nat) : Int := if f.acc then e.int a * (2 ^ f.osh : Nat) else 0
    let total (p : Nat × List Int) : Int := start p.1 + p.2.sum
    let sums (i : BRun → BFields → Instr) (elems : List (Nat × List Int)) : Prop :=
      (∀ p ∈ elems, ∀ q, q ≤ p.2.length → -2361183241434822606848 ≤ start p.1 + (p.2.take q).sum
        ∧ start p.1 + (p.2.take q).sum ≤ 2361183241434822606847) →
      (f.fmt = 1 ∨ ∀ p ∈ elems, InRange (shrRound (total p) f.osh)) →
      s.Accumulates r (i r f) (elems.map fun p => (p.1, shrRound (total p) f.osh)) (elems.map total)
    let col (h : Nat) : Nat := 32 * ((h + 31) / 32)
    let term (a x : Nat) : Int := (e.coef f.mod a).term (e.int x)
    sums .mvc ((List.range m).map fun i =>
      (f.dst + i, (List.range n).map fun j => term (f.srcb + col m * j + i) (f.srca + j)))
    ∧ sums .mvd ((List.range m).map fun i =>
      (f.dst + i, (List.range n).map fun j => e.int (f.srcb + col m * j + i) * e.int (f.srca + j)))
    ∧ sums .mmc ((List.range n).flatMap fun j => (List.range m).map fun i =>
      (f.dst + col m * j + i, (List.range k).map fun q => term (f.srcb + col m * q + i) (f.srca + col k * j + q)))
    ∧ sums .mmd ((List.range n).flatMap fun j => (List.range m).map fun i =>
      (f.dst + col m * j + i, (List.range k).map fun q =>
        e.int (f.srcb + col m * q + i) * e.int (f.srca + col k * j + q)))
    ∧ sums .vscl ((List.range (m * n)).map fun j =>
      (f.dst + j, [(e.coef false (f.srcb + j)).term (e.int (f.srca + j))]))

/-- Saturation, a zero divisor, a negative root, (0, 0) and an overflow reach the numeric status word (06_batten_engine.md, R257, R258, R261, R262, R267, R268). -/
def Obligations.BattenExceptionsReachTheStatusWord : Prop :=
  ∀ (r : BRun) (f : BFields) (s : State), (s.lane r.lane).runs = true → r.fault = false → f.fmt = 0 → r.slot ≤ 0xFE →
    let e := (s.lane r.lane).core.engine
    (e.ctx r.inertial).m = 1 → (e.ctx r.inertial).n = 1 →
    let x := e.int f.srca
    let y := e.int f.srcb
    let next := r.inertial && decide (e.inertialSub ≠ 0)
    let old := if next then e.nextStatus else e.status
    let counted (w : Word) : Prop :=
      bits w.toNat 23 16 = min 255 (bits old.toNat 23 16 + 1)
        ∧ bits w.toNat 31 24 = (if bits old.toNat 31 24 = 0xFF then r.slot else bits old.toNat 31 24)
        ∧ w &&& 0xFFFF#32 = (old &&& 0xFFFF#32) ||| (1#32 <<< r.cls)
    let result (i : Instr) (v : Int) (w : Word) : Prop :=
      ∃ d, e.Holds d [(f.dst, v)]
        ∧ exec i s = .next (s.withEngine r.lane (if next then { e.advance r.inertial with data := d, nextStatus := w }
            else { e.advance r.inertial with data := d, status := w }))
    (r.cls ≤ 5 → f.osh = 0 → ¬ InRange (x + y) →
      ∃ w, counted w ∧ result (.vadd r f) (if 0 < x + y then 2147483647 else -2147483648) w)
    ∧ (r.cls = 6 → f.osh = 0 → ¬ InRange (x + y) → result (.vadd r f) (if 0 < x + y then 2147483647 else -2147483648) old)
    ∧ (r.cls ≤ 5 → y = 0 →
      result (.div r f) (if 0 < x then 2147483647 else if x < 0 then -2147483648 else 0) (old ||| 0x100#32))
    ∧ (r.cls ≤ 5 → x < 0 → result (.isqrt r f) 0 (old ||| 0x200#32))
    ∧ (r.cls ≤ 5 → x = 0 → e.int (f.srca + 1) = 0 → result (.atan2 r f) 0 (old ||| 0x200#32))
    ∧ (r.cls ≤ 5 → f.osh = 0 → ∀ p rest, e.table f.srcb = p :: rest → x < p.1 → InRange p.2 →
      ∃ w, counted w ∧ result (.tbl r f) p.2 w)
    ∧ (r.cls ≤ 5 → f.osh = 63 → f.acc = false → 2361183241434822606847 < (e.coef false f.srcb).term x →
      let c := e.ctx r.inertial
      let e' := (e.advance r.inertial).setCtx r.inertial { c with
        pc := c.pc + 1
        acc := 2361183241434822606847 :: c.acc.drop 1 }
      ∃ d, e.Holds d [(f.dst, 256)]
        ∧ exec (.vscl r f) s = .next (s.withEngine r.lane (if next then { e' with data := d, nextStatus := old ||| 0x80#32 }
            else { e' with data := d, status := old ||| 0x80#32 })))

/-- Batten programs start, queue, move through NOP, SHAPE and END, abort on a memory error, and give way to inertial runs (06_batten_engine.md, R263, R264, R266, R276, R277, R279). -/
def Obligations.BattenProgramsStartAndEnd : Prop :=
  ∀ (r : BRun) (f : BFields) (s : State),
    let x := s.lane r.lane
    let e := x.core.engine
    let fresh (c : Context) (k : Nat) : Context := { c with slot := some k, pc := 0, m := 1, n := 1, k := 1 }
    ((x.runs = true → r.fault = false →
      exec (.nop r f) s = .next (s.withEngine r.lane (e.advance r.inertial))
      ∧ (∃ u c, exec (.shape r f) s = .next u ∧ u = s.withEngine r.lane (e.setCtx r.inertial c)
          ∧ c = { e.ctx r.inertial with pc := (e.ctx r.inertial).pc + 1, m := f.srcb % 64 + 1, n := f.srcb / 64 % 64 + 1,
                                        k := f.srca % 64 + 1 })
      ∧ (r.inertial = true → exec (.endProg r f) s = .next (s.withEngine r.lane
          { e with inertial := { e.inertial with pc := e.inertial.pc + 1, slot := none } }))
      ∧ (r.inertial = false → e.inertialWaits = none → e.queue = [] → exec (.endProg r f) s = .next (s.withEngine r.lane
          { e with fg := { e.fg with pc := e.fg.pc + 1, slot := none } }))
      ∧ (∀ k rest, r.inertial = false → e.inertialWaits = none → e.queue = k :: rest → exec (.endProg r f) s = .next (s.withEngine r.lane
          { e with fg := fresh e.fg k, queue := rest })))
    ∧ (x.runs = true → r.fault = true → (r.inertial = true ∨ e.inertialWaits = none) → ∀ i ∈ [Instr.nop r f, .vadd r f, .mvc r f, .sincos r f, .endProg r f],
        s.Completes i [.counters, .toRecorder, .laneA, .laneB] fun u =>
          (u.lane r.lane).engineFault = true ∧ (u.lane r.lane).core.engine = { e.finish r.inertial with fault := true }
            ∧ (u.lane r.lane).outbox = x.outbox ++ [.event (s.makeEvent 0x2005 0 (le 4 r.lane.code))])
    ∧ (∀ k, x.runs = true → e.fg.slot = none →
        exec (.battenStart r.lane k) s = .next (s.withEngine r.lane { e with fg := fresh e.fg k }))
    ∧ (∀ k, x.runs = true → e.fg.slot ≠ none → e.queue.length < 4 →
        exec (.battenStart r.lane k) s = .next (s.withEngine r.lane { e with queue := e.queue ++ [k] }))
    ∧ (∀ k, x.runs = true → e.fg.slot ≠ none → 4 ≤ e.queue.length → s.lead = r.lane →
        s.Completes (.battenStart r.lane k) [.counters, .toRecorder, .laneA, .laneB] fun u =>
          s.Counts u ctrBattenFull
            ∧ u.lane r.lane = { x with outbox := x.outbox ++ [.event (s.makeEvent 0x2004 0 (le 4 r.lane.code ++ le 4 k))] })
    ∧ (x.runs = true →
        (r.inertial = true ∨ (e.runOut false).inertialWaits = none →
          exec (.battenProgramEnd r.lane r.inertial) s = .next (s.withEngine r.lane ((e.runOut r.inertial).finish r.inertial)))
        ∧ (∀ k p, e.fg.slot = some k → e.programAt k = some p → p.code.drop e.fg.pc = [] → e.inertialWaits = none → e.queue = [] →
          exec (.battenProgramEnd r.lane false) s = .next (s.withEngine r.lane { e with fg := { e.fg with slot := none } })))
    ∧ (∀ t k ps, x.runs = true →
        (e.converting = true → s.Completes (.inertialStart t k ps) laneFields
          (s.Turns t r.lane { x.core with engine := { e with inertialWaits := some (k, ps) } } []))
        ∧ (e.converting = false → s.Completes (.inertialStart t k ps) laneFields fun u =>
          ∃ a rest, (u.lane r.lane).attitudes = a :: rest ∧ a.time = s.frame.strobe + k * s.frame.period * 1000000 / 8
            ∧ (u.lane r.lane).core.fusion = x.core.fusion ∧ (u.lane r.lane).outbox = x.outbox))
    ∧ (x.runs = false → ∀ i ∈ [Instr.nop r f, .shape r f, .endProg r f, .vadd r f, .mvc r f, .battenProgramEnd r.lane r.inertial],
        exec i s = .next s))

/-- Sea-state samples are taken when due, a bin moves by one; a gain blend ends and starts the request held (06_batten_engine.md, R284, R285, R290, R291). -/
def Obligations.SeaStateSamplesAndGainBlends : Prop :=
  ∀ (t : Nat) (l : LaneId) (s : State), (s.lane l).runs = true →
    let c := (s.lane l).core
    (c.ctl.sampleDue = none → s.Completes (.seaStateSample t) laneFields (s.Turns t l c []))
    ∧ (∀ h, c.ctl.sampleDue = some h → c.ctl.samples.length < 15 →
      s.Completes (.seaStateSample t) laneFields
        (s.Turns t l { c with ctl := { c.ctl with samples := h :: c.ctl.samples, sampleDue := none } } []))
    ∧ (s.paramN 0x2001000B < c.ctl.blend → c.ctl.heldLevel = none →
      s.Completes (.gainBlendEnd t) laneFields
        (s.Turns t l { c with
          engine := { c.engine with prevLevel := c.engine.level }
          ctl := { c.ctl with blend := 0 } } []))
    ∧ (∀ k, s.paramN 0x2001000B < c.ctl.blend → c.ctl.heldLevel = some k → k ≠ c.engine.level →
      s.Completes (.gainBlendEnd t) laneFields
        (s.Turns t l { c with
          engine := { c.engine with prevLevel := c.engine.level, level := k }
          ctl := { c.ctl with blend := 1, heldLevel := none } } [(0x2003, [c.engine.level, k])]))
    ∧ (c.ctl.blend ≤ s.paramN 0x2001000B → s.Completes (.gainBlendEnd t) laneFields (s.Turns t l c []))

/-- Crossings enter and leave RUNDOWN, a rundown ends at zero force, transits and ready indications time out (07_thrust_allocation.md, R317, R318, R319, R320, R322, R350). -/
def Obligations.ActuatorsFollowTheirTimers : Prop :=
  ∀ (t i : Nat) (l : LaneId) (e : ActEntry) (s : State), (s.lane l).runs = true → s.config.active.act? i = some e →
    let c := (s.lane l).core
    let a := c.alloc.act i
    let put (x : ActState) : Core := { c with alloc := { c.alloc with acts := setAt c.alloc.acts i fun _ => x } }
    let prev := (dispatchedOf (((s.lane l).held.map (·.sections)).getD [])).getD i (0, 0)
    let ts := s.paramN 0x21010008
    a.typ = e.typ → i < c.alloc.acts.length →
    (a.st = .active → ts ≤ a.metRun → e.typ = 0 → prev ≠ (0, 0) →
      s.Completes (.crossingPersistence t i) laneFields
        (s.Turns t l (put { a with st := .rundown, unmetRun := 0 }) [(0x2104, [i])]))
    ∧ (a.st = .rundown → ts ≤ a.unmetRun → s.Completes (.crossingPersistence t i) laneFields
        (s.Turns t l (put { a with st := .active, metRun := 0, unmetRun := 0 }) []))
    ∧ (a.st = .rundown → a.unmetRun < ts → e.typ = 0 → prev = (0, 0) →
      s.Completes (.crossingPersistence t i) laneFields
        (s.Turns t l (put { a with
          st := .transit
          transitDue := max s.now t + 2 * a.width * 1000000000 / e.rateDir + s.paramN 0x2101000B * 1000000000
          metRun := 0
          unmetRun := 0 }) []))
    ∧ (a.st = .rundown → a.unmetRun < ts → e.typ = 2 → prev.1 = 0 →
      s.Completes (.crossingPersistence t i) laneFields
        (s.Turns t l (put { a with st := .active, astern := !a.astern, metRun := 0, unmetRun := 0 })
          [(0x210A, [i, if a.astern then 0 else 1])]))
    ∧ (a.st = .transit → a.transitDue ≤ max s.now t → a.fit e (max s.now t) = true → a.wasAvail = true →
      s.Completes (.transitTimeout t i) laneFields
        (s.Turns t l (put { a with
          st := .unavailable
          timedOut := true
          metRun := 0
          unmetRun := 0
          edges := []
          wasAvail := false }) [(0x2105, [i]), (0x2103, [i, 0])]))
    ∧ (∀ q, a.st ≠ .unavailable → a.readyAt = some q → q + e.fbTimeout * 1000000 < max s.now t → a.wasAvail = true →
      s.Completes (.actuatorReadyTimeout t i) laneFields
        (s.Turns t l (put { a with
          st := .unavailable
          timedOut := false
          metRun := 0
          unmetRun := 0
          edges := []
          wasAvail := false }) [(0x2103, [i, 0])]))

/-- FAIL alarms and MARGINAL warnings set and clear by persistence; a load-shed contact scales the commands at once (08_consequence_load_reduction.md, R364, R366, R368, R369). -/
def Obligations.AlarmsOfFailureCasesAndLoadShed : Prop :=
  ∀ (t c : Nat) (l : LaneId) (s : State),
    ((s.lane l).runs = true → c < 32 →
      let k := (s.lane l).core.cases
      let h := k.cases.getD c (.reset c)
      let np := (s.paramN 0x22010007 * 1000 + s.frame.period - 1) / s.frame.period
      let nc := (s.paramN 0x22010008 * 1000 + s.frame.period - 1) / s.frame.period
      let age (f : Nat) : Nat := (s.frame.number - BitVec.ofNat 32 f).toNat
      let on := BitVec.ofNat 32 (2 ^ c)
      let core (k' : CaseState) : Core := { (s.lane l).core with cases := k' }
      (∀ f, f < 4294967296 → bit k.failAlm.toNat c = false → h.failSince = some f → np ≤ age f →
        s.Completes (.failAlarmSet t c) laneFields (s.Turns t l (core { k with failAlm := k.failAlm ||| on }) [(0x2201, [c])]))
      ∧ (∀ f, f < 4294967296 → bit k.failAlm.toNat c = true → h.clearSince = some f → nc ≤ age f →
        s.Completes (.failAlarmClear t c) laneFields (s.Turns t l (core { k with failAlm := k.failAlm &&& ~~~on }) [(0x2202, [c])]))
      ∧ (∀ f, f < 4294967296 → bit k.margAlm.toNat c = false → h.badSince = some f → np ≤ age f →
        s.Completes (.marginalWarningSet t c) laneFields (s.Turns t l (core { k with margAlm := k.margAlm ||| on }) [(0x2203, [c])]))
      ∧ (∀ f, f < 4294967296 → bit k.margAlm.toNat c = true → h.okSince = some f → nc ≤ age f →
        s.Completes (.marginalWarningClear t c) laneFields
          (s.Turns t l (core { k with margAlm := k.margAlm &&& ~~~on }) [(0x2204, [c])])))
    ∧ (∀ (contact ua : Nat), contact ≤ 1 → ua ≤ 1000 ∨ 3000 ≤ ua →
      let closed := decide (3000 ≤ ua)
      let old := if contact = 0 then s.out.ls1 else s.out.ls2
      let sheds := if s.paramN (0x22040001 + contact) = 1 then !closed else closed
      let new : Contact := { closed := closed, applied := sheds, changes := min 65535 (old.changes + 1), ts := max s.now t }
      (old.closed = closed → s.Completes (.loadShedContactAccept t contact ua) [.now, .time] fun u => u.out = s.out)
      ∧ (old.closed ≠ closed → sheds = false →
        s.Completes (.loadShedContactAccept t contact ua) [.now, .time, .out, .toRecorder] fun u =>
          (if contact = 0 then u.out.ls1 else u.out.ls2) = new ∧ (if contact = 0 then u.out.ls2 = s.out.ls2 else u.out.ls1 = s.out.ls1)
            ∧ u.out.sent = s.out.sent ∧ u.out.dispatched = s.out.dispatched
            ∧ s.Tells u 0x2208 [contact, s.config.active.shedSections contact])
      ∧ (old.closed ≠ closed → sheds = true → old.applied = false → s.fio.inhibit = false → s.peer.duty = .duty →
        s.ridge.holdStage = .none → (if contact = 0 then s.out.ls2.applied else s.out.ls1.applied) = false →
        s.Completes (.loadShedContactAccept t contact ua) [.now, .time, .out, .fio, .buses, .counters, .toRecorder] fun u =>
          (if contact = 0 then u.out.ls1 else u.out.ls2) = new
            ∧ u.out.sent = s.out.released.map fun q =>
              let sec := ((s.config.active.act? q.num).map (·.section_)).getD 0
              let f := if 1 ≤ sec ∧ bit (s.config.active.shedSections contact) (sec - 1) = true
                then s.config.active.shedFactors contact q.num else (65536, 65536)
              { q with
                fx := (q.fx * f.1 + 32768) / 65536
                fy := (q.fy * f.1 + 32768) / 65536
                cmd1 := (q.cmd1 * f.2 + 32768) / 65536 }))

/-- Equal records are released and become the commands in force; after a mismatch nothing is released and frame n is withheld (09_lanes_ridge_peer.md, R379, R381, R388, R391). -/
def Obligations.EqualRecordsAreReleased : Prop :=
  ∀ (t : Nat) (la lb ca cb : Bool) (s : State), s.frame.replay = .none → s.ridge.spoilt = false →
    let fields : List StateField := [.now, .time, .counters, .toRecorder, .frame, .host, .eaves, .laneA, .laneB, .ridge, .out, .fio, .buses]
    let a := s.slotOf .a la ca
    let b := s.slotOf .b lb cb
    (∀ r, s.ridge.health = .healthy → a = some r → b = some r → r.faulty = false →
      s.Completes (.ridgeCompare t la lb ca cb true) fields fun u =>
        u.out.record = some r ∧ u.out.released = r.commands ∧ u.ridge.releasedFrame = some r.frame
          ∧ u.ridge.equalRun = s.ridge.equalRun + 1 ∧ u.ridge.withheld = s.ridge.withheld
          ∧ u.laneA.slot = none ∧ u.laneB.slot = none ∧ u.frame.lostRun = 0)
    ∧ (s.ridge.health = .healthy → recordsEqual a b = false → (isLost a && isLost b) = false →
      s.Completes (.ridgeCompare t la lb ca cb true) fields fun u =>
        u.out.record = s.out.record ∧ u.out.released = s.out.released ∧ u.ridge.withheld = some s.frame.number
          ∧ u.ridge.origA = a ∧ u.ridge.origB = b ∧ u.ridge.katDue = true ∧ u.ridge.equalRun = 0
          ∧ u.host.frameReplies = s.host.frameReplies
          ∧ ∃ e l, u.toRecorder = s.toRecorder ++ e :: l ∧ e.Says 0x7001 [s.frame.number.toNat])
    ∧ (∀ r, s.ridge.health = .degraded → s.laneA.excluded = false → s.laneB.excluded = true → s.ridge.rejoin = none →
      a = some r → r.faulty = false → s.Completes (.ridgeCompare t la lb ca cb true) fields fun u =>
        u.out.record = some r ∧ u.out.released = r.commands ∧ u.frame.lateRun = 0 ∧ u.ridge.faultyRun = 0)
    ∧ (s.ridge.health = .hold ∨ s.ridge.health = .failed →
      s.Completes (.ridgeCompare t la lb ca cb true) fields fun u =>
        u.out.record = s.out.record ∧ u.out.released = s.out.released ∧ u.ridge.releasedFrame = s.ridge.releasedFrame)

/-- After a mismatch the replays, then the known-answer set, decide; a health reset ends by the set of the running lanes (09_lanes_ridge_peer.md, R381, R382, R384, R393). -/
def Obligations.MismatchesAreDecided : Prop :=
  ∀ (t : Nat) (s : State),
    let fields : List StateField := [.now, .time, .counters, .toRecorder, .frame, .host, .eaves, .laneA, .laneB, .ridge, .out, .fio, .buses]
    (∀ (la lb ca cb : Bool), s.frame.replay = .replay → s.ridge.spoilt = false →
      (∀ r, s.slotOf .a la ca = some r → s.slotOf .b lb cb = some r → r.faulty = false →
        s.Completes (.replayCompare t la lb ca cb true) fields fun u =>
          u.out.record = some r ∧ u.out.released = r.commands ∧ u.frame.replay = .none ∧ u.ridge.withheld = none
            ∧ u.ridge.restore = false ∧ u.ridge.katDue = false)
      ∧ (recordsEqual (s.slotOf .a la ca) (s.slotOf .b lb cb) = false →
        s.Completes (.replayCompare t la lb ca cb true) [.now, .time, .frame, .laneA, .laneB, .ridge] fun u =>
          u.frame.replay = .knownAnswer ∧ u.ridge.withheld = s.ridge.withheld ∧ u.ridge.decision = s.ridge.decision))
    ∧ (∀ (n : Word), s.frame.replay = .knownAnswer → s.ridge.withheld = some n → s.ridge.katDue = true →
      let results (a b : Bool) : State → Prop := fun u =>
        u.laneA = { s.laneA with katPassed := some a } ∧ u.laneB = { s.laneB with katPassed := some b }
      (s.laneB.excluded = false → s.Completes (.knownAnswerSet t true false) [.now, .time, .laneA, .laneB, .ridge] fun u =>
        results true false u ∧ u.ridge = { s.ridge with katDue := false, decision := s.ridge.decision ||| 2, causeB := 1 })
      ∧ (s.laneA.excluded = false → s.Completes (.knownAnswerSet t false true) [.now, .time, .laneA, .laneB, .ridge] fun u =>
        results false true u ∧ u.ridge = { s.ridge with katDue := false, decision := s.ridge.decision ||| 1, causeA := 1 })
      ∧ s.Completes (.knownAnswerSet t false false) [.now, .time, .laneA, .laneB, .ridge] (fun u =>
        results false false u ∧ u.ridge = { s.ridge with katDue := false, decision := s.ridge.decision ||| 4 })
      ∧ (14 ≤ s.frame.period → s.Completes (.knownAnswerSet t true true) [.now, .time, .laneA, .laneB, .ridge] fun u =>
        results true true u ∧ u.ridge = { s.ridge with katDue := false, decision := s.ridge.decision ||| 4 }))
    ∧ (∀ h (pa pb : Bool), s.ridge.healthReset = some h → s.ridge.healthResetKat = false →
        s.frame.katWindow = true ∨ s.frame.replay = .knownAnswer →
      (s.laneA.excluded = false → s.laneB.excluded = false → pa = true → pb = true → 50 ≤ s.ridge.equalRun →
        s.Completes (.healthResetKatComplete t pa pb) [.now, .time, .laneA, .laneB, .ridge] fun u =>
          u.ridge = { s.ridge with healthResetKat := true, resumeAs := some .healthy })
      ∧ (s.laneA.excluded = false → s.laneB.excluded = true → pa = true →
        s.Completes (.healthResetKatComplete t pa pb) [.now, .time, .laneA, .laneB, .ridge] fun u =>
          u.ridge = { s.ridge with healthResetKat := true, resumeAs := some .degraded })
      ∧ (s.laneA.excluded = false → s.laneB.excluded = false → (pa = false ∨ pb = false ∨ s.ridge.equalRun < 50) →
        s.Completes (.healthResetKatComplete t pa pb) [.now, .time, .toRecorder, .host, .eaves, .laneA, .laneB, .ridge] fun u =>
          u.ridge = { s.ridge with healthReset := none, healthResetKat := false, resumeAs := none }))

/-- The hold time ends in a ramp or a freeze; a rejoin starts by itself and passes its steps or fails and counts (09_lanes_ridge_peer.md, R392, R394, R395). -/
def Obligations.HoldsRampAndLanesRejoin : Prop :=
  ∀ (t : Nat) (s : State), s.unitHeld 0 = false →
    (s.ridge.holdStage = .frozen → s.ridge.holdSince + s.paramN 0x70010001 * 1000000 ≤ max s.now t →
      s.Completes (.holdTimeExpiry t) [.now, .time, .ridge] fun u =>
        u.ridge = { s.ridge with holdStage := if s.paramN 0x70010002 = 1 then .indefinite else .ramp 0 })
    ∧ (s.ridge.health = .degraded → s.paramN 0x70010004 = 1 → s.laneA.excluded = false → s.laneB.excluded = true →
      s.config.commit = none → s.ridge.rejoin = none → s.ridge.failedB < 3 → s.ridge.excludedAt + 60000000000 ≤ max s.now t →
      s.Completes (.autoRejoin t) [.now, .time, .ridge, .toRecorder] fun u =>
        (∃ j, u.ridge = { s.ridge with rejoin := some j } ∧ j.lane = .b ∧ j.step = 1 ∧ j.frameK = none ∧ j.caught = false
          ∧ j.handle = none) ∧ s.Tells u 0x7007 [1, 1, 0])
    ∧ (∀ j, s.ridge.rejoin = some j → j.handle = none →
      let given (u : State) (step : Nat) : Prop :=
        u.ridge = { s.ridge with
          rejoin := none
          failedA := s.ridge.failedA + (if j.lane = .a then 1 else 0)
          failedB := s.ridge.failedB + (if j.lane = .b then 1 else 0) }
        ∧ (u.lane j.lane).inReset = true ∧ (u.lane j.lane).excluded = true ∧ u.lane j.lane.other = s.lane j.lane.other
        ∧ s.Tells u 0x7007 [j.lane.code, step, 2]
      (j.step ≤ 2 → s.Completes (.rejoinBootComplete t true true) [.now, .time, .ridge, .config] fun u =>
          u.ridge = { s.ridge with rejoin := some { j with step := 3 } }
            ∧ u.config.store j.lane = (s.config.store j.lane).copyOf (s.config.store j.lane.other) s.params
            ∧ u.config.store j.lane.other = s.config.store j.lane.other ∧ u.config.active = s.config.active)
      ∧ (∀ ok, j.step ≤ 2 → s.Completes (.rejoinBootComplete t false ok) [.now, .time, .ridge, .laneA, .laneB, .toRecorder] fun u =>
          given u j.step)
      ∧ (∀ k, j.step = 3 ∨ j.step = 4 → j.frameK = some k →
        s.Completes (.rejoinCatchUpComplete t true) [.now, .time, .ridge] fun u =>
          u.ridge = { s.ridge with rejoin := some { j with step := 4, caught := true } })
      ∧ (∀ k, j.step ≤ 4 → j.frameK = some k → 500 ≤ (s.frame.number - k).toNat →
        s.Completes (.rejoinCatchUpTimeout t) [.now, .time, .ridge, .laneA, .laneB, .toRecorder] fun u => given u j.step)
      ∧ (j.step = 5 → 250 ≤ j.equalRun →
        s.Completes (.rejoinTrialComplete t) [.now, .time, .ridge, .toRecorder] fun u =>
          u.ridge = { s.ridge with rejoin := some { j with step := 6 } } ∧ s.Tells u 0x7007 [j.lane.code, 5, 1]))

/-- Peer messages are checked and used, the link is lost and regained, and both-hold-duty is resolved (09_lanes_ridge_peer.md, R396, R397, R398, R399, R404, R406). -/
def Obligations.PeerMessagesAndDuty : Prop :=
  ∀ (t : Nat) (bytes : List Byte) (s : State),
    (s.unitHeld 0x31 = false →
      (s.peerPduOk bytes = false → s.Completes (.peerStateReceive t bytes) [.now, .time, .peer, .counters, .toRecorder] fun u =>
        u.peer = { s.peer with validRun := 0 } ∧ s.Counts u (ctrPeer 1))
      ∧ (s.peerPduOk bytes = true → s.peer.conn.st = .run → s.peer.conn.lastSeq = some (field bytes 0 2 + 65535 - 65536 * b2n (decide (1 ≤ field bytes 0 2))) →
        s.Completes (.peerStateReceive t bytes) [.now, .time, .peer, .toRecorder] fun u =>
          u.peer.state = some (PeerState.of (slice bytes 2 64)) ∧ u.peer.validRun = s.peer.validRun + 1
            ∧ (u.peer.up = true ↔ s.peer.up = true ∨ 9 ≤ s.peer.validRun)
            ∧ (s.peer.up = false → 9 ≤ s.peer.validRun → s.Tells u 0x7103 []))
      ∧ ((bytes.length ≠ 228 ∨ crcOk bytes 224 = false ∨
          (∃ d, s.peer.data = some d ∧ seqLater 32 (PeerData.of bytes).frame.toNat d.frame.toNat = false)) →
        s.Completes (.peerDataReceive t bytes) [.now, .time, .counters, .toRecorder] fun u => s.Counts u (ctrPeer 2))
      ∧ (bytes.length = 228 → crcOk bytes 224 = true → s.peer.up = true →
        (∀ d, s.peer.data = some d → seqLater 32 (PeerData.of bytes).frame.toNat d.frame.toNat = true) →
        s.Completes (.peerDataReceive t bytes) [.now, .time, .peer] fun u =>
          u.peer = { s.peer with data := some (PeerData.of bytes), dataFresh := true }))
    ∧ (∀ physical, s.peer.up = true → (physical = false ∨ s.peer.conn.lastAt + s.paramN 0x71010003 * 1000000 ≤ max s.now t) →
      s.Completes (.peerLinkLost t physical) [.now, .time, .peer, .toRecorder] fun u =>
        u.peer.up = false ∧ u.peer.validRun = 0 ∧ u.peer.dataFresh = false ∧ u.peer.physical = physical
          ∧ u.peer.duty = s.peer.duty ∧ s.Tells u 0x7102 [])
    ∧ (∀ q, s.paramN 0x71010002 = 1 → s.peer.readySince = some q → q + 3000000000 ≤ max s.now t →
      s.Completes (.roleBWait t) [.now, .time, .peer] fun u => u.peer = { s.peer with settled := true })
    ∧ (∀ x, s.peer.duty = .duty → 3 ≤ s.peer.dualRun → s.peer.state = some x →
      (s.paramN 0x71010002 = 1 → bit x.pflags 0 = false →
        s.Completes (.dualDutyRelease t) [.now, .time, .peer, .out, .fio, .toRecorder] fun u =>
          u.peer.duty = .release ∧ u.peer.dualRun = 0 ∧ u.out.sent = []
            ∧ ∃ e l, u.toRecorder = s.toRecorder ++ e :: l ∧ e.Says 0x7105 [])
      ∧ (s.paramN 0x71010002 ≠ 1 → bit x.pflags 0 = true →
        s.Completes (.dualDutyRelease t) [.now, .time, .peer, .toRecorder] fun u =>
          u.peer = { s.peer with dualRun := 0 } ∧ s.Tells u 0x7105 []))

/-- Safety inputs, circuits, discrepancy and wiring faults, and the permits each channel switches off (10_safety_functions.md, R419, R420, R421, R422, R423, R424, R428, R430). -/
def Obligations.SafetyCircuitsLatchTheirFaults : Prop :=
  ∀ (t : Nat) (c : Chan) (s : State),
    let k := s.safety.chan c
    let same (u : State) : Prop := u.safety.chan c.other = s.safety.chan c.other ∧ u.safety.su = s.safety.su
    (∀ input mv ua, input < 12 → s.Completes (.safetyInputAccept t c input mv ua) [.now, .time, .safety, .toRecorder] fun u =>
      u.safety = s.safety.onChan c fun k => { k with inputs := setAt k.inputs input fun x => sinReads x mv ua })
    ∧ (∀ input mv ua, 12 ≤ input → namurFault ua = false →
      s.Completes (.safetyInputAccept t c input mv ua) [.now, .time, .safety, .toRecorder] fun u =>
        u.safety = s.safety.onChan c fun k => { k with inputs := setAt k.inputs input fun x => namurReads x ua })
    ∧ (∀ input mv ua i, 12 ≤ input → namurFault ua = true → i < 4 → i < k.circuits.length → k.mode i = 3 → (k.circuit i).latched = 0 →
      (input = 12 + 2 * (entryField k.tables.circuits i 1 1 - 1) ∨ input = 13 + 2 * (entryField k.tables.circuits i 1 1 - 1)) →
      s.Completes (.safetyInputAccept t c input mv ua) [.now, .time, .safety, .toRecorder] fun u =>
        ((u.safety.chan c).circuit i).latched = 3 ∧ (u.safety.chan c).permits = k.permits ∧ same u)
    ∧ (∀ i, i < 4 → i < k.circuits.length → k.mode i ≠ 0 → (k.circuit i).moving = true → k.discTime i ≤ (k.circuit i).count + 1 →
      (k.circuit i).latched = 0 → s.Completes (.discrepancyFault t c i) [.now, .time, .safety, .toRecorder] fun u =>
        ((u.safety.chan c).circuit i).latched = 2 ∧ (u.safety.chan c).inputs = k.inputs ∧ same u
          ∧ ∀ p, p < 4 → bit (entryField k.tables.permits p 1 1) i = true → ((u.safety.chan c).permit p).on = false)
    ∧ ((s.safety.running = false ∨ k.tickOff (max s.now t) = false) → k.inbox = [] → k.heldRestart = false → k.heldReset = none →
      s.Completes (.safetyTick t c .good []) [.now, .time, .safety, .toRecorder] (fun u =>
        let k' := u.safety.chan c
        same u ∧ k'.inputs = k.inputs
          ∧ (∀ p, p < 4 → k'.blocked s.safety.running p ≠ 0 → (k'.permit p).on = false)
          ∧ (∀ p, (k'.permit p).on = true → (k.permit p).on = true)
          ∧ (k.swapDue = false → ∀ i, i < 4 → i < k.circuits.length → 1 ≤ k.discTime i → k.mode i ≠ 0 → (k.circuit i).latched = 0 →
            let q := k.circuit i
            let ab := k.circuitInputs i
            (q.moving = false → ab = (q.together, q.together) → k'.circuit i = q)
            ∧ (q.moving = false → ab.1 ≠ ab.2 → k'.circuit i = { q with moving := true, count := 0 })
            ∧ (q.moving = true → q.count + 1 < k.discTime i → (ab.1 ≠ ab.2 ∨ ab.1 = q.together) →
              k'.circuit i = { q with count := q.count + 1 })
            ∧ (q.moving = true → q.count + 1 < k.discTime i → ab.1 = ab.2 → ab.1 ≠ q.together →
              (k'.circuit i).together = ab.1 ∧ (k'.circuit i).moving = false ∧ (k'.circuit i).latched = 0)
            ∧ (q.moving = true → k.discTime i ≤ q.count + 1 → (k'.circuit i).latched = 2))))
    ∧ (s.safety.su = .run → k.inbox = [] → k.heldRestart = false → k.heldReset = none →
      s.Completes (.safetyTick t c .memory []) [.now, .time, .safety, .toRecorder] fun u =>
        u.safety.su = .safeFault ∧ (∀ d : Chan, ∀ q ∈ (u.safety.chan d).permits, q.on = false)
          ∧ ∃ l e l', u.toRecorder = s.toRecorder ++ l ++ [e] ++ l' ∧ e.Says 0x5001 [c.code, 7])
    ∧ (∀ m w, s.safety.running = false ∨ k.tickOff (max s.now t) = false → k.inbox = [m] → crcOk (changedBytes m w) 4 = false →
      k.heldReset = none → s.safety.restart = none →
      s.Completes (.safetyTick t c .good [w]) [.now, .time, .safety, .counters, .toRecorder] fun u =>
        s.Counts u ctrCommand ∧ (u.safety.chan c).cmdSeq = k.cmdSeq ∧ u.safety.su = s.safety.su)
    ∧ (s.safety.running = false ∨ k.tickOff (max s.now t) = false → k.inbox = [] → s.safety.x.heldRestart = true →
      s.safety.y.heldRestart = true → s.Completes (.safetyTick t c .good []) [.now, .time, .safety, .toRecorder] fun u =>
        u.safety.su = .starting ∧ ∀ d : Chan, ∀ q ∈ (u.safety.chan d).permits, q.on = false)
    ∧ (∀ a, s.safety.running = false ∨ k.tickOff (max s.now t) = false → k.inbox = [] → k.heldRestart = false →
      s.safety.x.heldReset = some a → s.safety.y.heldReset = some a → k.reported = true →
      s.Completes (.safetyTick t c .good []) [.now, .time, .safety, .toRecorder] fun u =>
        u.safety.x.heldReset = none ∧ u.safety.y.heldReset = none ∧ u.safety.su = s.safety.su)
    ∧ (∀ source dropped ok, (∀ i, i < 4 → k.mode i ≠ 1) →
      s.Completes (.testPulse t c source dropped ok) [.now, .time] fun u => u.safety = s.safety)
    ∧ (∀ i, i < 4 → i < k.circuits.length → (∀ j, j < 4 → (k.mode j = 1 ↔ j = i)) → (k.circuitInputs i).1 = true →
      (k.circuit i).latched = 0 → k.pulseDue 1 (max s.now t) = true →
      s.Completes (.testPulse t c 1 [] true) [.now, .time, .safety, .counters, .toRecorder] fun u =>
        ((u.safety.chan c).circuit i).latched = (if (k.circuit i).obsShortA then 3 else 0)
          ∧ ((u.safety.chan c).circuit i).obsShortA = true ∧ s.Counts u (ctrPulse i)
          ∧ (u.safety.chan c).pulse1At = some (max s.now t) ∧ same u)

/-- SAFE-FAULT, the self-test, contactor feedback, FLD-2 and the cross-compare of the two channels (10_safety_functions.md, R412, R414, R415, R416, R434, R435, R437, R441). -/
def Obligations.SafetyUnitStatesAndSupply : Prop :=
  ∀ (t : Nat) (c : Chan) (s : State),
    let k := s.safety.chan c
    let off (u : State) : Prop := ∀ d : Chan, ∀ q ∈ (u.safety.chan d).permits, q.on = false
    let fault (u : State) (ch cause : Nat) : Prop :=
      u.safety.su = .safeFault ∧ off u ∧ ∃ l e, u.toRecorder = s.toRecorder ++ l ++ [e] ∧ e.Says 0x5001 [ch, cause]
    (∀ p, s.safety.su ≠ .safeFault → bit (entryField k.tables.permits p 0 1) 2 = true → (k.permit p).on = true →
      s.safety.testDue c p (max s.now t) = true →
      (∀ x y, (x && y) = false →
        s.Completes (.switchTest t c p x y) [.now, .time, .safety, .toRecorder] fun u => fault u c.code 2)
      ∧ s.Completes (.switchTest t c p true true) [.now, .time, .safety] fun u =>
        u.safety = s.safety.onChan c fun k => { k with testedAt := setAt k.testedAt p fun _ => some (max s.now t) })
    ∧ (s.safety.su ≠ .safeFault → 2 ≤ k.missing → ∀ r,
      s.Completes (.crossCompareExchange t c false r) [.now, .time, .safety, .toRecorder] fun u => fault u c.code 1)
    ∧ (k.missing < 2 → ∀ r, s.Completes (.crossCompareExchange t c false r) [.now, .time, .safety] fun u =>
        u.safety = s.safety.onChan c fun k => { k with missing := k.missing + 1 })
    ∧ s.Completes (.crossCompareExchange t c true []) [.now, .time, .safety, .toRecorder] (fun u =>
        (u.safety.chan c).missing = 0 ∧ (u.safety.chan c).supplyLoss = (k.supplyLoss || (s.safety.chan c.other).supplyLoss)
          ∧ ∀ p, p < k.permits.length → (((s.safety.chan c.other).permit p).contactorFault = true →
              ((u.safety.chan c).permit p).contactorFault = true)
            ∧ (((u.safety.chan c).permit p).on = true → (k.permit p).on = true))
    ∧ s.Completes (.fld2Undervoltage t c) [.now, .time, .safety, .toRecorder] (fun u =>
        u.safety = s.safety.onChan c fun k => { k with supplyLow := true })
    ∧ s.Completes (.fld2SupplyLoss t c) [.now, .time, .safety, .toRecorder] (fun u =>
        (u.safety.chan c).supplyLoss = true ∧ (∀ q ∈ (u.safety.chan c).permits, q.on = false)
          ∧ u.safety.chan c.other = s.safety.chan c.other)
    ∧ s.Completes (.fld2Recovery t c) [.now, .time, .safety, .toRecorder] (fun u =>
        u.safety = s.safety.onChan c fun k => { k with supplyLow := false, supplyLoss := false })
    ∧ (∀ p q, p < 4 → p < k.permits.length → k.fbEnabled p = true → (k.permit p).switchedAt = some q →
      q + entryField k.tables.permits p 2 2 * 1000000 ≤ max s.now t → (k.permit p).followed = false →
      k.input (8 + p) = (k.permit p).on → s.Completes (.feedbackTimeout t c p) [.now, .time, .safety, .toRecorder] fun u =>
        ((u.safety.chan c).permit p).contactorFault = true ∧ ((u.safety.chan c).permit p).on = false
          ∧ u.safety.chan c.other = s.safety.chan c.other)
    ∧ (s.safety.restart = none → s.Completes (.safetyWatchdogExpiry t c) [.now, .time, .safety, .toRecorder] fun u =>
        u.safety.su = .starting ∧ off u ∧ u.safety.x.tables = s.safety.x.tables ∧ u.safety.y.tables = s.safety.y.tables)
    ∧ (s.safety.restart = none → s.Completes (.safetyRailBrownOut t) [.now, .time, .safety, .toRecorder] fun u =>
        u.safety.su = .starting ∧ off u ∧ u.safety.x.tables = s.safety.x.tables ∧ u.safety.y.tables = s.safety.y.tables)
    ∧ (s.safety.su = .starting → s.safetyHeld = false → s.safety.serialX = true → s.safety.serialY = true →
      s.safety.restart = none → s.rst.bootFailed = [] →
      s.Completes (.safetySelfTestComplete t 0 0) [.now, .time, .safety, .toRecorder] (fun u =>
        u.safety = { s.safety with su := .run } ∧ s.Tells u 0x500A [])
      ∧ ∀ f, f ≠ 0 → s.Completes (.safetySelfTestComplete t f 0) [.now, .time, .safety, .toRecorder] fun u => fault u 0 5)

/-- Xiros connections accept, discard and time out PDUs, and send the safety status (10_safety_functions.md, R442, R444, R445, R446, R448). -/
def Obligations.XirosConnections : Prop :=
  ∀ (t c tr port addr : Nat) (bytes e : List Byte) (s : State), s.transportHeld tr = false →
    ((s.safety.x.tables.conns.find? fun p => connTakes p.2 tr port addr) = none →
      s.Completes (.xirosPduReceive t tr port addr bytes) [.now, .time] fun u => u.safety = s.safety)
    ∧ (((s.safety.x.tables.conns.find? fun p => connTakes p.2 tr port addr) = some (c, e)) → assoc s.safety.x.tables.conns c = some e →
      assoc s.safety.y.tables.conns c = some e →
      (pduOk e bytes = false → s.Completes (.xirosPduReceive t tr port addr bytes) [.now, .time, .safety, .counters, .toRecorder]
        fun u => u.safety = s.safety ∧ s.Counts u (ctrPdu 0 c))
      ∧ (∀ x : Conn, ∀ l, pduOk e bytes = true → u8 e 5 ≠ 2 → bit (u16 e 16) 0 = false → c < s.safety.x.conns.length →
        c < s.safety.y.conns.length → s.safety.x.conn c = x → s.safety.y.conn c = x → x.st = .run → x.lastSeq = some l → l < 65536 →
        let seq := field bytes 0 2
        let d := (seq + 65536 - l) % 65536
        (1 ≤ d → d ≤ u8 e 7 → d < 32768 →
          s.Completes (.xirosPduReceive t tr port addr bytes) [.now, .time, .safety, .counters, .toRecorder] fun u =>
            (∀ ch : Chan, ((u.safety.chan ch).conn c).st = .run ∧ ((u.safety.chan ch).conn c).data = slice bytes 2 (u8 e 6)
              ∧ ((u.safety.chan ch).conn c).lastSeq = some seq ∧ ((u.safety.chan ch).conn c).lastAt = max s.now t)
            ∧ u.counters = (s.countN (ctrPdu 2 c) (d - 1)).counters)
        ∧ (u8 e 7 < d → d < 32768 →
          s.Completes (.xirosPduReceive t tr port addr bytes) [.now, .time, .safety, .counters, .toRecorder] fun u =>
            ∀ ch : Chan, ((u.safety.chan ch).conn c).st = .fault ∧ ((u.safety.chan ch).conn c).data = [])
        ∧ (d = 0 ∨ 32768 ≤ d →
          s.Completes (.xirosPduReceive t tr port addr bytes) [.now, .time, .safety, .counters, .toRecorder] fun u =>
            s.Counts u (ctrPdu 0 c) ∧ ∀ ch : Chan, (u.safety.chan ch).conn c = x)))
    ∧ (∀ ch : Chan, c < (s.safety.chan ch).conns.length → ((s.safety.chan ch).conn c).st = .run →
      ((s.safety.chan ch).conn c).lastAt + entryField (s.safety.chan ch).tables.conns c 8 2 * 1000000 ≤ max s.now t →
      s.Completes (.xirosWatchdog t ch c) [.now, .time, .safety, .toRecorder] fun u =>
        (u.safety.chan ch).conn c = { (s.safety.chan ch).conn c with st := .fault, data := [] }
          ∧ u.safety.chan ch.other = s.safety.chan ch.other)
    ∧ (assoc s.safety.x.tables.conns c = some e → u8 e 4 = 2 → u8 e 5 = tr → tr < 4 → tr ≠ 2 → c < s.safety.tx.length →
      (s.safety.tx.getD c .reset).sentAt = none → s.Completes (.xirosTransmit t c) [.now, .time, .safety] fun u =>
        u.safety.sent = s.safety.sent ++ [{
            transport := tr, port := u16 e 10, addr := u32 e 12
            bytes := pduBytes (u32 e 0) (s.safety.tx.getD c .reset).seq s.safety.txContent }]
          ∧ (u.safety.tx.getD c .reset).seq = ((s.safety.tx.getD c .reset).seq + 1) % 65536
          ∧ u.safety.x = s.safety.x ∧ u.safety.y = s.safety.y)
    ∧ (∀ q, assoc s.safety.x.tables.conns c = some e → u8 e 4 = 2 → (s.safety.tx.getD c .reset).sentAt = some q →
      max s.now t < q + u16 e 8 * 1000000 → s.safety.txContent = (s.safety.tx.getD c .reset).last →
      s.Completes (.xirosTransmit t c) [.now, .time] fun u => u.safety = s.safety)

/-- The 1 ms pass gives each output the first rule of R472 that applies; pulses and host timeouts end as the rules say (11_digital_energy_limited_io.md, R466, R467, R469, R471, R472). -/
def Obligations.OutputsFollowTheFirstRule : Prop :=
  ∀ (t c : Nat) (s : State), s.unitHeld 0x21 = false → s.fio.channels.length = 32 → 1 ≤ c → c ≤ 32 →
    let k := s.dio c
    let e := s.dioEntry c
    let off : Bool := s.fio.inReset || s.fio.inhibit || k.supplyOff || k.overload || k.readback || k.groupOverload
    let value : Bool := xor (bit s.fio.cmdBits (u8 e 7)) (bit (u8 e 4) 0)
    let sets (v : Bool) (u : State) : Prop := (u.dio c).cmd = v ∧ (u.dio c).restartWait = false
    s.Completes (.outputPass t) [.now, .time, .fio] (fun u =>
      (u8 e 0 ≠ 2 → u.dio c = k)
      ∧ (u8 e 0 = 2 → off = true → u.dio c = { k with cmd := false, pulsing := false })
      ∧ (u8 e 0 = 2 → off = false → k.restartWait = true → (u.dio c).cmd = false)
      ∧ (∀ v, u8 e 0 = 2 → off = false → k.restartWait = false → k.forced = some v → sets v u)
      ∧ (u8 e 0 = 2 → off = false → k.restartWait = false → k.forced = none → u8 e 5 = 1 →
        (s.fio.expired = false → s.peer.duty = .duty → sets value u)
        ∧ (s.fio.expired = false → s.peer.duty ≠ .duty → sets false u)
        ∧ (s.fio.expired = true → sets (if u8 e 6 = 1 then true else if u8 e 6 = 2 then k.atExpiry else false) u))
      ∧ u.fio.terms = s.fio.terms ∧ u.fio.outputs = s.fio.outputs ∧ u.fio.cmdBits = s.fio.cmdBits)
    ∧ (∀ mv, k.pulsing = true → k.pulseSince + s.paramN 0x30010002 * 1000 ≤ max s.now t →
      (mv ≤ 5000 → s.Completes (.outputTestPulseEnd t c mv) [.now, .time, .fio] fun u =>
        u.fio = { s.fio with channels := setAt s.fio.channels (c - 1) fun _ => { k with pulsing := false, testFails := 0 } })
      ∧ (5000 < mv → k.testFails = 0 → s.Completes (.outputTestPulseEnd t c mv) [.now, .time, .fio, .counters, .toRecorder] fun u =>
        u.dio c = { k with pulsing := false, testFails := 1 } ∧ s.Counts u (ctrDio 5 c))
      ∧ (5000 < mv → 1 ≤ k.testFails → u8 e 0 = 2 → k.extDrive = false →
        s.Completes (.outputTestPulseEnd t c mv) [.now, .time, .fio, .counters, .toRecorder] fun u =>
          u.dio c = { k with pulsing := false, testFails := k.testFails + 1, extDrive := true, forced := none }))
    ∧ (∀ mv, k.pulsing = false ∨ max s.now t < k.pulseSince + s.paramN 0x30010002 * 1000 →
      s.Completes (.outputTestPulseEnd t c mv) [.now, .time] fun u => u.fio = s.fio)
    ∧ (s.paramN 0x30010003 ≠ 0 → u8 e 5 = 4 → u8 e 0 = 2 → k.hostAt + s.paramN 0x30010003 * 1000000000 ≤ max s.now t →
      k.hostExpired = false → off = false → k.restartWait = false → k.forced = none →
      s.Completes (.hostOutputTimeout t c) [.now, .time, .fio] fun u =>
        (u.dio c).hostExpired = true ∧ (u.dio c).atExpiry = k.cmd
          ∧ sets (if u8 e 6 = 1 then true else if u8 e 6 = 2 then k.cmd else false) u)

/-- Accepted inputs, wire breaks, and the latched faults of digital outputs (11_digital_energy_limited_io.md, R401, R461, R462, R463, R466). -/
def Obligations.DigitalFaultsLatch : Prop :=
  ∀ (t c : Nat) (s : State), s.unitHeld 0x21 = false → s.fio.channels.length = 32 → 1 ≤ c → c ≤ 32 →
    let k := s.dio c
    let e := s.dioEntry c
    let put (x : DioChannel) : FieldIo := { s.fio with channels := setAt s.fio.channels (c - 1) fun _ => x }
    let counted : List StateField := [.now, .time, .fio, .counters, .toRecorder]
    (∀ mv ua, s.paramN 0x71010001 ≠ 1 ∨ c ≠ s.paramN 0x71010005 →
      let v := dioReads (u8 e 1 = 3) k.st mv ua
      (u8 e 0 = 0 → s.Completes (.dioInputAccept t c mv ua) [.now, .time] fun u => u.fio = s.fio)
      ∧ (u8 e 0 = 1 → c ≤ 28 ∨ bit (u8 e 4) 4 = false ∨ v = k.st →
        s.Completes (.dioInputAccept t c mv ua) [.now, .time, .fio] fun u => u.fio = put { k with st := v, level := ua / 10 })
      ∧ (u8 e 0 = 2 → s.Completes (.dioInputAccept t c mv ua) [.now, .time, .fio] fun u =>
        u.fio = put { k with st := if 11000 ≤ mv then true else if mv ≤ 5000 then false else k.st, level := ua / 1000 })
      ∧ (u8 e 0 = 1 → 29 ≤ c → bit (u8 e 4) 4 = true → v ≠ k.st →
        s.Completes (.dioInputAccept t c mv ua) [.now, .time, .fio, .frame] fun u =>
          u.fio = put { k with st := v, level := ua / 10 }
            ∧ u.frame = { s.frame with inFlight := s.frame.inFlight ++ [(0x41 + (c - 29), { arrival := 0, portTs := max s.now t - u16 e 2 * 20000, sflags := 0, data := le 4 (b2n v + 2 * b2n (s.dioValid c)) })] }))
    ∧ (u8 e 0 = 1 → c ≤ 28 → bit (u8 e 4) 1 = true → k.wireBreak = false → k.st = false →
      s.Completes (.wireBreakSet t c) counted fun u => u.fio = put { k with wireBreak := true } ∧ s.Counts u (ctrDio 0 c))
    ∧ (u8 e 0 = 1 → c ≤ 28 → bit (u8 e 4) 1 = true → k.wireBreak = true →
      s.Completes (.wireBreakClear t c) [.now, .time, .fio, .toRecorder] fun u =>
        u.fio = put { k with wireBreak := false } ∧ s.Tells u 0x3002 [c, 0])
    ∧ (u8 e 0 = 2 → k.cmd = false → k.extDrive = false → ∀ mv, 11000 ≤ mv → s.Completes (.extDriveFault t c mv) counted fun u =>
        u.fio = put { k with extDrive := true, forced := none } ∧ s.Counts u (ctrDio 1 c))
    ∧ (u8 e 0 = 2 → k.cmd = true → k.overload = false → s.Completes (.outputOverload t c) counted fun u =>
        u.fio = put { k with overload := true, cmd := false, pulsing := false } ∧ s.Counts u (ctrDio 2 c))
    ∧ (u8 e 0 = 2 → k.cmd = true → k.readback = false → ∀ mv, mv + 1500 < 10 * (s.supplyOf c).volts → s.Completes (.readbackFault t c mv) counted fun u =>
        u.fio = put { k with readback := true, cmd := false, pulsing := false } ∧ s.Counts u (ctrDio 3 c))
    ∧ (u8 e 0 = 2 → k.cmd = true → (∀ d, c < d → (d - 1) / 8 = (c - 1) / 8 → u8 (s.dioEntry d) 0 ≠ 2 ∨ (s.dio d).cmd = false) →
      ∀ currents, 4000 < (((groupChannels ((c - 1) / 8)).zipIdx.filter fun p => s.dioDir p.1 = 2).map fun p => currents.getD p.2 0).sum →
      s.Completes (.groupOverloadFault t ((c - 1) / 8) currents) counted fun u =>
        u.dio c = { k with groupOverload := true, cmd := false, pulsing := false, level := currents.getD ((c - 1) % 8) 0 }
          ∧ s.Counts u (ctrDio 4 c))
    ∧ (∀ high, s.Completes (.dutyDiscreteChange t high) [.now, .time, .peer, .fio] fun u =>
      u.peer = { s.peer with discrete := high } ∧ u.fio = { s.fio with
        channels := setAt s.fio.channels (s.paramN 0x71010005 - 1) fun x => { x with st := high } })

/-- Logic terms delay their changes, supplies pass between their states, NAMUR inputs show and lose validity (11_digital_energy_limited_io.md, R475, R476, R477, R478, R479, R487). -/
def Obligations.LogicSuppliesAndNamurInputs : Prop :=
  ∀ (t : Nat) (s : State), s.unitHeld 0x21 = false →
    s.Completes (.logicTermPass t) [.now, .time, .fio] (fun u =>
      u.fio.channels = s.fio.channels ∧ u.fio.terms.length = s.fio.terms.length
        ∧ ∀ i x, i < 64 → s.fio.terms[i]? = some x →
          (s.entry? 0x30 0x04 i = none → u.fio.terms[i]? = some x)
          ∧ (∀ e, s.entry? 0x30 0x04 i = some e → (∀ k, k < 4 → u8 e k = 0xC1) → ∃ y, u.fio.terms[i]? = some y
              ∧ (bit (u16 e 4) 15 = true → y.ones = x.ones + 1 ∧ y.zeros = 0 ∧ (y.out = true ↔ x.out = true ∨ u16 e 6 ≤ x.ones))
              ∧ (bit (u16 e 4) 15 = false → y.zeros = x.zeros + 1 ∧ y.ones = 0
                ∧ (y.out = true ↔ x.out = true ∧ x.zeros < u16 e 8))))
    ∧ (∀ (x : SupplyState) (peak least : Nat), (peak < 1200 → x.follow peak least = .cutoff)
      ∧ (1200 ≤ peak → peak < 1600 → x = .normal ∨ x = .warning → x.follow peak least = .undervoltage)
      ∧ (1600 ≤ peak → peak < 1920 → x = .normal ∨ x = .warning → x.follow peak least = .warning)
      ∧ (1200 ≤ peak → least < 1600 → x = .undervoltage ∨ x = .cutoff → x.follow peak least = x)
      ∧ (1920 ≤ peak → 1960 ≤ least → x.follow peak least = .normal))
    ∧ (∀ group volts peak least, group ≤ 1 →
      let old := if group = 1 then s.fio.fld2 else s.fio.fld1
      let x := old.st.follow peak least
      let i : Instr := .fieldSupplyState t group volts peak least
      let new (u : State) : Supply := if group = 1 then u.fio.fld2 else u.fio.fld1
      (x = old.st → s.Completes i [.now, .time, .fio] fun u => new u = { old with volts := volts } ∧ u.fio.channels = s.fio.channels)
      ∧ (x ≠ old.st → x ≠ .cutoff → old.st ≠ .cutoff → s.Completes i [.now, .time, .fio, .toRecorder] fun u =>
          new u = { st := x, volts := volts } ∧ u.fio.channels = s.fio.channels ∧ s.Tells u 0x3001 [group + 1, x.code])
      ∧ (x ≠ old.st → x = .cutoff → s.Completes i [.now, .time, .fio, .toRecorder] fun u =>
          new u = { st := .cutoff, volts := volts } ∧ s.Tells u 0x3001 [group + 1, 3]
            ∧ ∀ c, 1 ≤ c → c ≤ s.fio.channels.length →
              (u.dio c) = if onFld2 c = decide (group = 1) ∧ s.dioDir c = 2 then { s.dio c with cmd := false, pulsing := false, supplyOff := true }
                else s.dio c))
    ∧ (∀ i x, s.fio.namur[i]? = some x → ∀ ua,
      (x.valid = true → namurFault ua = true →
        s.Completes (.namurLineFault t i ua) [.now, .time, .fio, .counters, .toRecorder] fun u =>
          u.fio = { s.fio with namur := setAt s.fio.namur i fun _ => { x with valid := false } } ∧ s.Counts u (0x33F00000 + i))
      ∧ (x.valid = false → namurFault ua = false → s.Completes (.namurLineFault t i ua) [.now, .time, .fio, .toRecorder] fun u =>
        u.fio = { s.fio with namur := setAt s.fio.namur i fun _ => { x with valid := true } }
          ∧ s.Tells u 0x3301 [i / 2 + 1, i % 2 + 1, 0])
      ∧ s.Completes (.namurInputAccept t i ua) [.now, .time, .fio] fun u =>
        u.fio = { s.fio with namur := setAt s.fio.namur i fun _ => { x with st := namurReads x.st ua } })

/-- Analogue samples, their validity, the shunt, and calibration (12_analogue_filter_chains.md, R495, R496, R497, R498, R518, R519). -/
def Obligations.AnalogueInputsAndCalibration : Prop :=
  ∀ (t source : Nat) (x : AnalogIn) (s : State), s.unitHeld 0x21 = false → s.input? source = some x →
    let now := max s.now t
    let is (u : State) (y : AnalogIn) : Prop :=
      u.input? source = some y ∧ (∀ k, k ≠ source → u.input? k = s.input? k) ∧ u.fio.channels = s.fio.channels
        ∧ u.fio.outputs = s.fio.outputs ∧ u.fio.pulses = s.fio.pulses
    (∀ v, now % 20000 ≠ 0 ∨ s.fio.sampledAt = some now → s.Completes (.adcSample t [(source, v)]) [.now, .time] fun u => u.fio = s.fio)
    ∧ (∀ v, now % 20000 = 0 → s.fio.sampledAt ≠ some now → (∀ i, i < 24 → s.entry? 0x32 0x02 i = none) → x.cal = none →
      s.inputMode source ≠ 0 → s.power.pfSince = none →
      let c := x.calibrated (s.inputMode source) v
      let taken (ok above : Bool) : AnalogIn :=
        { x with
          code := c
          window := (c :: x.window).take 50
          overrange := above
          valid := ok
          validSince := if ok = x.valid then x.validSince else now }
      (inRange (s.inputMode source) c = true → s.Completes (.adcSample t [(source, v)]) [.now, .time, .fio, .toRecorder] fun u =>
        is u (taken (!x.shuntOpen) false))
      ∧ (inRange (s.inputMode source) c = false →
        s.Completes (.adcSample t [(source, v)]) [.now, .time, .fio, .toRecorder, .counters] fun u =>
          is u (taken false true) ∧ s.Counts u (ctrAnalog 0 source)))
    ∧ (∀ v k, now % 20000 = 0 → s.fio.sampledAt ≠ some now → (∀ i, i < 24 → s.entry? 0x32 0x02 i = none) → x.cal = some k →
      k.holds now = true → s.inputMode source ≠ 0 →
      s.Completes (.adcSample t [(source, v)]) [.now, .time, .fio] fun u =>
        is u { x with
          code := k.held
          window := (k.held :: x.window).take 50
          cal := some { k with start := some (k.start.getD now) } })
    ∧ (x.valid ≠ x.told → x.validSince + 100000000 ≤ now →
      s.Completes (.inputValidityChange t source) [.now, .time, .fio, .toRecorder] fun u =>
        is u { x with told := x.valid } ∧ s.Tells u 0x3101 [source, if x.valid then 1 else 0])
    ∧ (∀ ua, 30000 < ua →
      let opened (u : State) : Prop :=
        is u { x with
          shuntOpen := true
          shuntAt := now
          valid := false
          validSince := if x.valid then now else x.validSince } ∧ s.Counts u (ctrAnalog 1 source)
      (2 ≤ s.inputMode source → x.shuntOpen = false →
        s.Completes (.shuntOpen t source ua) [.now, .time, .fio, .toRecorder, .counters] opened)
      ∧ (x.shuntOpen = true → x.shuntAt + 1010000000 ≤ now →
        s.Completes (.shuntRetest t source ua) [.now, .time, .fio, .toRecorder, .counters] opened))
    ∧ (∀ ua, ua ≤ 30000 → x.shuntOpen = true → x.shuntAt + 1010000000 ≤ now →
      s.Completes (.shuntRetest t source ua) [.now, .time, .fio, .toRecorder] fun u =>
        is u { x with shuntOpen := false } ∧ s.Tells u 0x3102 [source, 0])
    ∧ (∀ k q, x.cal = some k → k.start = some q →
      s.Completes (.calibrationPhase t source) [.now, .time, .fio] fun u =>
        is u { x with cal := some (if k.phase < 4 ∧ q + 8000000 * (k.phase + 1) ≤ now then { k with phase := k.phase + 1 } else k) })
    ∧ (∀ k q offset gain, x.cal = some k → k.start = some q → q + 40000000 ≤ now →
      s.Completes (.calibrationHoldEnd t source offset gain) [.now, .time, .fio, .toRecorder, .host, .eaves] fun u =>
        if offset.natAbs ≤ 2000 ∧ gain.natAbs ≤ 5000 then
          is u { x with cal := none, calFail := false, offset := offset, gain := gain }
        else is u { x with cal := none, calFail := true })

/-- Pulse inputs count, packed samples close, analogue output faults and the output watchdog act (12_analogue_filter_chains.md, 11_digital_energy_limited_io.md, R471, R500, R510, R515, R516). -/
def Obligations.PulsesPackedSamplesAndOutputs : Prop :=
  ∀ (t i : Nat) (s : State), s.unitHeld 0x21 = false →
    (∀ p, s.fio.pulses[i]? = some p → p.a = false →
      let quiet (o : Option Nat) : Prop := ∀ q, o = some q → q + s.paramN 0x3101001D * 100 ≤ max s.now t
      let mode := s.paramN (0x3101001A + i)
      (quiet p.lastA → (mode = 1 ∨ mode = 2) → s.Completes (.pulseInputEdge t i true p.b) [.now, .time, .fio] fun u =>
        ∃ y, u.fio = { s.fio with pulses := setAt s.fio.pulses i fun _ => y } ∧ y.a = true ∧ y.b = p.b
          ∧ y.edgeAt = max s.now t ∧ y.lastA = some (max s.now t) ∧ y.qerr = p.qerr
          ∧ y.count = (if mode = 1 ∨ p.b = true then p.count + 1 else p.count - 1))
      ∧ (mode = 3 ∨ mode = 4 → s.Completes (.pulseInputEdge t i true (!p.b)) [.now, .time, .fio, .counters, .toRecorder] fun u =>
        ∃ y, u.fio = { s.fio with pulses := setAt s.fio.pulses i fun _ => y } ∧ y.count = p.count
          ∧ y.qerr = min 65535 (p.qerr + 1) ∧ s.Counts u (ctrAnalog 2 i)))
    ∧ (∀ e, i < 24 → (∀ j, j < 24 → s.entry? 0x32 0x02 j = if j = i then some e else none) → i < s.fio.chains.length →
      s.frame.begun = false ∨ s.frame.nextStrobe ≤ max s.now t + 600000 →
      let k := s.chain i
      (k.values ≠ [] → s.Completes (.packedSampleClose t) [.now, .time, .fio, .frame] fun u =>
        u.chain i = { k with values := [], covered := .none } ∧ (∀ j, j ≠ i → u.chain j = s.chain j)
          ∧ u.frame.inFlight = s.frame.inFlight ++ [(0x0200 + i,
              { arrival := 0, portTs := k.first, sflags := BitVec.ofNat 16 (2 * b2n (bit k.flags 0) + 4 * b2n (bit k.flags 1)),
                data := k.packed e (20000 * decimation (chainStages e)) })])
      ∧ (k.values = [] → s.Completes (.packedSampleClose t) [.now, .time] fun u => u.fio = s.fio))
    ∧ (∀ o, s.fio.outputs[i]? = some o →
      (u8 (s.aoEntry i) 0 = 2 → 2560 < o.code → o.openLoop = false →
        s.Completes (.analogueOutputFault t i 0 true) [.now, .time, .fio, .counters, .toRecorder] fun u =>
          u.fio = { s.fio with outputs := setAt s.fio.outputs i fun _ => { o with openLoop := true } }
            ∧ s.Counts u (ctrAnalog 3 i))
      ∧ (o.openLoop = true → s.Completes (.analogueOutputFault t i 0 false) [.now, .time, .fio, .toRecorder] fun u =>
          u.fio = { s.fio with outputs := setAt s.fio.outputs i fun _ => { o with openLoop := false } }
            ∧ s.Tells u 0x3104 [i, 0, 0]))
    ∧ (s.fio.inhibit = false → s.fio.expired = false → s.paramN 0x30010001 ≤ s.fio.undispatched →
      s.Completes (.outputWatchdogExpiry t) [.now, .time, .fio, .toRecorder] fun u =>
        u.fio.expired = true ∧ s.Tells u 0x3007 [1]
          ∧ ∀ j o, j < 4 → s.fio.outputs[j]? = some o → s.fio.inReset = false → u8 (s.aoEntry j) 0 ≠ 0 → o.forced = none →
            ∃ y, u.fio.outputs[j]? = some y ∧ y.code = if u8 (s.aoEntry j) 3 = 1 then o.code else aoOff (s.aoEntry j))

/-- Message-bus controllers receive, lock mailboxes, transmit, count errors, leave and re-enter the bus (13_buses_serial.md, R525, R529, R530, R532, R534, R536, R537, R538, R540, R541, R543). -/
def Obligations.BusControllersKeepTheirRules : Prop :=
  ∀ (t b : Nat) (s : State), 1 ≤ b → b ≤ 6 → b ≤ s.buses.can.length →
    let k := s.bus b
    let now := max s.now t
    let ts := 2 * now / 25 * 25 / 2
    let bus (k' : BusCtl) : Buses := { s.buses with can := setAt s.buses.can (b - 1) fun _ => k' }
    (∀ f, s.busRuns b = 0 ∨ k.busOff = true → s.Completes (.canFrameReceive t b f) [.now, .time] fun u => u.buses = s.buses)
    ∧ (∀ f, s.busRuns b ≠ 0 → k.busOff = false → f.fdf = true → s.busFlag b 0 = false → k.protEvent = none →
      s.Completes (.canFrameReceive t b f) [.now, .time, .buses, .counters, .toRecorder] fun u =>
        u.buses = bus { k with protExc := true, protEvent := some now } ∧ s.Counts u (ctrBus 1 b 0))
    ∧ (∀ f, s.busRuns b = 1 → k.busOff = false → f.fdf = false → k.rate = .programmed → k.tec < 128 → k.rec_ < 128 →
      let k1 := { k with rec_ := k.rec_ - 1 }
      (s.filterMailbox b f = none →
        s.Completes (.canFrameReceive t b f) [.now, .time, .buses, .counters, .toRecorder] fun u =>
          u.buses = bus k1 ∧ s.Counts u (ctrBus 0 b 0))
      ∧ (∀ m x, s.filterMailbox b f = some m → s.mailboxDest b m = 1 → k.mailboxes[m]? = some x → x.locked = false →
        s.Completes (.canFrameReceive t b f) [.now, .time, .buses, .frame] fun u =>
          u.buses = bus { k1 with mailboxes := setAt k.mailboxes m fun x => { x with locked := true, lost := false } }
            ∧ u.frame.inFlight = s.frame.inFlight ++ [(0x400 + 32 * (b - 1) + m,
                { arrival := 0, portTs := ts, sflags := BitVec.ofNat 16 (b2n x.lost), data := canSample f false x.lost })])
      ∧ (∀ m x, s.filterMailbox b f = some m → s.mailboxDest b m ≠ 0 → k.mailboxes[m]? = some x → x.locked = true → x.shadow = none →
        s.Completes (.canFrameReceive t b f) [.now, .time, .buses] fun u =>
          u.buses = bus { k1 with mailboxes := setAt k.mailboxes m fun x => { x with shadow := some (f, ts) } }))
    ∧ (∀ m x, k.mailboxes[m]? = some x → x.locked = true →
      (x.shadow = none → s.Completes (.mailboxUnlock t b m) [.now, .time, .buses] fun u =>
        u.buses = bus { k with mailboxes := setAt k.mailboxes m fun x => { x with locked := false } })
      ∧ (∀ f ts, x.shadow = some (f, ts) → s.mailboxDest b m = 1 →
        s.Completes (.mailboxUnlock t b m) [.now, .time, .buses, .frame] fun u =>
          u.buses = bus { k with mailboxes := setAt k.mailboxes m fun _ => { locked := true, shadow := none, lost := false } }
            ∧ u.frame.inFlight = s.frame.inFlight ++ [(0x400 + 32 * (b - 1) + m,
                { arrival := 0, portTs := ts, sflags := BitVec.ofNat 16 (b2n x.lost), data := canSample f true x.lost })]))
    ∧ (∀ e rest, s.busRuns b = 1 → k.busOff = false → k.buffers = [e] :: rest → (∀ es ∈ rest, es = []) → e.newer = none →
      e.expired = false → u8 (s.busEntry b) 3 = 0 → k.tec < 120 → k.rec_ < 128 →
      s.Completes (.canTransmitAttempt t b .started) [.now, .time, .buses] (fun u =>
          u.buses = bus { k with buffers := [{ e with onWire := true }] :: rest })
      ∧ s.Completes (.canTransmitAttempt t b .lostArbitration) [.now, .time, .buses] (fun u =>
          u.buses = bus { k with buffers := [{ e with onWire := false }] :: rest })
      ∧ s.Completes (.canTransmitAttempt t b .acknowledged) [.now, .time, .buses] (fun u =>
          u.buses = bus { k with
            buffers := [] :: rest
            tec := k.tec - 1
            noAck := false
            ackRun := 0
            lastSent := some e.frame })
      ∧ (∀ lec, s.Completes (.canTransmitAttempt t b (.error lec)) [.now, .time, .buses] fun u =>
          u.buses = bus { k with
            buffers := [{ e with attempts := e.attempts + 1, onWire := false }] :: rest
            tec := k.tec + 8
            lec := lec
            ackRun := 0 }))
    ∧ (∀ lec step, s.busRuns b = 1 → k.busOff = false → k.rate = .programmed → 255 < k.tec + step →
      s.Completes (.canBusError t b lec step true) [.now, .time, .buses, .toRecorder] fun u =>
        u.buses = bus { k with lec := lec, tec := k.tec + step, busOff := true, recovering := !s.busFlag b 2 }
          ∧ s.Tells u 0x4002 [b])
    ∧ (∀ lec step c g st, s.busRuns b ≠ 0 → k.busOff = false → k.rate = .detecting c g st →
      s.Completes (.canBusError t b lec step false) [.now, .time, .buses] fun u =>
        u.buses = bus { k with lec := lec, rate := .detecting (if c + 1 < u8 (s.busEntry b) 2 then c + 1 else 0) 0 st })
    ∧ (k.busOff = true → k.recovering = true → s.Completes (.busOffRecovery t b) [.now, .time, .buses, .toRecorder] fun u =>
        u.buses = bus { k with busOff := false, recovering := false, tec := 0, rec_ := 0 } ∧ s.Tells u 0x4003 [b])
    ∧ (∀ c g st, k.rate = .detecting c g st → k.detectHandle = none → st + u16 (s.busEntry b) 4 * 1000000 ≤ now →
      s.Completes (.rateDetectTimeout t b) [.now, .time, .buses, .toRecorder] fun u =>
        u.buses = bus { k with rate := .fallenBack } ∧ s.Tells u 0x4006 [b, 0])
    ∧ s.Completes (.entryLifetimeExpiry t) [.now, .time, .buses, .counters, .toRecorder] (fun u =>
        (∀ es ∈ k.buffers, ∀ e ∈ es, e.newer = none ∧ (e.due s.frame.number = true → e.onWire = false)) →
          u.bus b = { k with buffers := k.buffers.map fun es => es.filter fun e => !e.due s.frame.number })

/-- Serial ports collect sentences and binary messages, deliver whole ones and discard the others (13_buses_serial.md, R554, R555, R556, R557, R558). -/
def Obligations.SerialPortsDeliverWholeMessages : Prop :=
  ∀ (t p : Nat) (s : State), s.unitHeld (0x10 + p) = false → 1 ≤ p → p ≤ 8 → p ≤ s.buses.ser.length → (s.ser p).queue = [] →
    let now := max s.now t
    let k := s.ser p
    let e := s.serEntry p
    let port (k' : SerPort) : Buses := { s.buses with ser := setAt s.buses.ser (p - 1) fun _ => k' }
    let noted : List StateField := [.now, .time, .buses, .counters, .toRecorder]
    let start := now - halfBits e (2 * charData e + 3)
    (∀ c err ov, u8 e 0 = 0 ∨ (u8 e 0 = 2 ∧ now < k.busyUntil) →
      s.Completes (.serialCharacterReceive t p c err ov) [.now, .time] fun u => u.buses = s.buses)
    ∧ (u8 e 0 ≠ 0 → (u8 e 0 ≠ 2 ∨ k.busyUntil ≤ now) → k.rx.length + k.tag.length < 4096 →
      (∀ c err ov, u8 e 1 = 0 → s.Completes (.serialCharacterReceive t p c err ov) [.now, .time, .buses] fun u =>
        u.buses = port { k with lastRx := now })
      ∧ (∀ c err, u8 e 1 ≠ 0 → s.Completes (.serialCharacterReceive t p c err true) noted fun u =>
        u.buses = port { k with rx := [], tag := [], inTag := false, lastRx := now } ∧ s.Counts u (ctrSer 1 p))
      ∧ (u8 e 1 = 1 → k.rx = [] → k.inTag = false →
        s.Completes (.serialCharacterReceive t p 0x24#8 false false) [.now, .time, .buses] (fun u =>
          u.buses = port { k with rx := [(0x24#8, start, now)], inTag := false, lastRx := now })
        ∧ ∀ c, s.Completes (.serialCharacterReceive t p c true false) noted fun u =>
          u.buses = port { k with tag := [], inTag := false, lastRx := now } ∧ s.Counts u (ctrSer 2 p))
      ∧ (∀ first rest, let body := k.rx.map (·.1) ++ [0x0A#8]
        let inner := (body.drop 1).take (body.length - 3)
        u8 e 1 = 1 → k.rx = first :: rest → k.tag = [] → k.inTag = false → body.length ≤ 82 →
        (k.rx.getLast?.map (·.1)) = some 0x0D#8 →
        (∀ i, nmeaCheck inner = some true → s.serSlot p 1 0 inner = some i →
          s.Completes (.serialCharacterReceive t p 0x0A#8 false false) [.now, .time, .buses, .frame] fun u =>
            u.buses = port { k with rx := [], lastRx := now }
              ∧ u.frame.inFlight = s.frame.inFlight ++ [(0x500 + 16 * (p - 1) + i,
                  { arrival := 0, portTs := now, sflags := 0,
                    data := le 8 first.2.1 ++ le 2 body.length ++ le 2 0 ++ pad4 body })])
        ∧ (nmeaCheck inner = some false → s.Completes (.serialCharacterReceive t p 0x0A#8 false false) noted fun u =>
            (u.ser p).rx = [] ∧ u.frame = s.frame ∧ s.Counts u (ctrSer 0 p)))
      ∧ (∀ c x y rest, u8 e 1 = 2 → slice e 8 (u8 e 12) = x :: y :: rest → k.rx = [] →
        (c ≠ x → s.Completes (.serialCharacterReceive t p c false false) [.now, .time, .buses] fun u =>
          u.buses = port { k with rx := [], lastRx := now })
        ∧ s.Completes (.serialCharacterReceive t p x false false) [.now, .time, .buses] (fun u =>
          u.buses = port { k with rx := [(x, start, now)], lastRx := now })
        ∧ s.Completes (.serialCharacterReceive t p c true false) noted (fun u =>
          u.buses = port { k with lastRx := now } ∧ s.Counts u (ctrSer 2 p))))
    ∧ (∀ x y z rest, u8 e 1 = 2 → slice e 8 (u8 e 12) = x :: y :: rest → k.rx = [z] → z.2.2 + u8 e 3 * charTime e ≤ now →
      s.Completes (.serialGapTimeout t p) [.now, .time, .buses] fun u => u.buses = port { k with rx := [] })
    ∧ (∀ z, u8 e 1 ≠ 2 ∨ (k.rx.getLast? = some z ∧ now < z.2.2 + u8 e 3 * charTime e) →
      s.Completes (.serialGapTimeout t p) [.now, .time] fun u => u.buses = s.buses)

/-- Status requests, parameter and counter reads are answered from the state and change nothing they are not said to clear (14_host_interface.md, R19, R20, R191, R453, R580, R581, R582, R583, R601, R670, R688). -/
def Obligations.ReadsAnswerFromTheState : Prop :=
  ∀ (r : Req) (s : State),
    let s' := s.tick r.t
    let entries (ids : List Nat) : List Byte :=
      ids.flatMap fun id => le 4 id ++ le 4 (s.counter id).value.toNat ++ le 4 (b2n (s.counter id).overflow)
    (∀ p, s.Reads (.status r p) r 0x0101 p s'.statusBytes ∧ s.Reads (.safetyStatus r p) r 0x5010 p s'.safety.sample)
    ∧ (∀ p, r.session ≠ 0 → s.Reads (.identify r p) r 0x0100 p (s'.identity r.transport))
    ∧ (r.session = 0 → s.hostUp = true → r.prp = none → s.Completes (.identify r []) [.now, .time, .host] fun u =>
        u.host = { s.host with replies := s.host.replies ++ [r.reply 0x0100 0 stOk (s'.identity r.transport)] })
    ∧ (∀ p, s.Reads (.refStatus r p) r 0x1010 p ((s.out.record.map LaneRecord.fusion).getD .zero).bytes)
    ∧ (∀ p, s.Reads (.allocStatus r p) r 0x2110 p ((s.out.record.map LaneRecord.alloc).getD .zero).bytes)
    ∧ (∀ p, s.Reads (.caseStatus r p) r 0x2201 p (s.core.cases.cases.flatMap fun h => h.result.bytes))
    ∧ (∀ p, s.Reads (.gnssStatus r p) r 0x1110 p (s.gnss.lastNav ++ s.gnss.lastAnt.flatten))
    ∧ (∀ p, s.Reads (.timeStatus r p) r 0x1210 p (le 2 s'.timeStatus.toNat ++ [0, 0] ++ le 4 s'.uncertainty))
    ∧ (∀ p, s.Reads (.memoryStatus r p) r 0xA002 p
        (le 4 s.recorder.opSeconds.toNat ++ [18, 0] ++ le 1 s.memory.marchResult ++ le 1 s.memory.marchMem ++ le 8 s.memory.marchAddr
          ++ (List.range 18).flatMap fun m =>
            le 1 m ++ le 1 (s.mem m).code ++ [0, 0] ++ le 4 (s.counter (ctrMemory 0 m)).value.toNat
              ++ le 4 (s.counter (ctrMemory 1 m)).value.toNat ++ le 8 (s.mem m).lastAddr
              ++ le 4 (s.counter (ctrMemory 2 m)).value.toNat))
    ∧ (∀ p, s.Reads (.resetHistory r p) r 0x9002 p
        (le 2 s.rst.history.length ++ le 1 s'.recentStarts.length ++ le 1 s.rst.bringup ++ le 8 s.rst.fuses ++ [0, 0, 0, 0]
          ++ s.rst.history.flatMap fun e =>
            le 4 e.opSeconds.toNat ++ le 4 e.powerCycles.toNat ++ le 2 e.sources ++ le 1 e.level ++ le 1 e.target ++ le 1 e.island
              ++ le 1 e.phase ++ le 1 (e.copyUsed + 4 * e.failedReads)
              ++ le 1 (b2n e.storm + 2 * b2n e.pinStuck + 4 * b2n e.dropped)))
    ∧ (∀ p, s.Reads (.eavesStatus r p) r 0x8010 p
        (([0, 1].flatMap fun n => le 1 (b2n (s.eaves.link n).up) ++ [0, 0, 0] ++ le 4 (s.eaves.link n).latency
            ++ le 4 (s.counter (ctrEaves 0 n)).value.toNat ++ le 4 (s.counter (ctrEaves 1 n)).value.toNat)
          ++ [EavesKind.command, .reply, .event, .bulkToHost, .bulkToField].flatMap fun k =>
            le 4 (s.freeCredits k) ++ le 4 (s.counter (ctrEaves 4 k.index)).value.toNat))
    ∧ (∀ ids : List Nat, ids ≠ [] → ids.length ≤ 255 → (∀ id ∈ ids, id < 4294967296 ∧ id / 65536 ≠ 0x4008
          ∧ (s.readItem id).isSome = true) →
        s.Reads (.paramRead r ids) r 0x0110 (le 2 ids.length ++ [0, 0] ++ ids.flatMap (le 4))
          (ids.flatMap fun id => le 4 id ++ le 4 ((s'.readItem id).getD 0)))
    ∧ (∀ b, 1 ≤ b → b ≤ 6 → s.Serves (.statusReadClear r (0x40080000 + b)) r 0x0110 ([1, 0, 0, 0] ++ le 4 (0x40080000 + b)) stOk
        (le 4 (0x40080000 + b) ++ le 4 (s'.busStatus b)) false [.buses] fun u =>
          u.buses = { s.buses with can := setAt s.buses.can (b - 1) fun k => { k with lec := 0 } })
    ∧ (∀ ids : List Nat, ids ≠ [] → ids.length ≤ 255 → (∀ id ∈ ids, counterKnown id = true) →
        let p := le 2 ids.length ++ [0, 0] ++ ids.flatMap (le 4)
        s.Commands (.counterRead r p) r 0x0112 p stOk (entries ids) false [] (fun u => u.counters = s.counters)
        ∧ s.Commands (.counterReadClear r p) r 0x0113 p stOk (entries ids) false [.counters] fun u =>
            (∀ id ∈ ids, u.counter id = { value := 0, overflow := false }) ∧ ∀ id, id ∉ ids → u.counter id = s.counter id)
    ∧ (∀ port, port ≤ 2 → s.Commands (.txtsRead r [BitVec.ofNat 8 port, 0, 0, 0]) r 0x1203 [BitVec.ofNat 8 port, 0, 0, 0] stOk
        (le 1 (s.time.txq port).entries.length ++ le 1 (b2n (s.time.txq port).ovf) ++ [0, 0]
          ++ (s.time.txq port).entries.flatMap TxStamp.bytes) false [.time] fun u => u.time = s.time.setTxq port .reset)

/-- Mode, set-point, track, reference and actuator commands are taken by each running lane and answered with the frame (06_batten_engine.md, 14_host_interface.md, R227, R292, R293, R294, R298, R301, R350, R577, R578, R583). -/
def Obligations.OperatorCommandsReachTheLanes : Prop :=
  ∀ (r : Req) (p : List Byte) (s : State),
    (∀ m, Mode.ofCode (field p 0 1) = some m → modeEncodingOk p = true → s.peer.duty ≠ .twin → s.bringupStatus r m = stOk →
      let again : Bool := m = .followTarget && (bit (field p 1 1) 7 || decide (field p 2 1 ≠ s.core.ctl.follow))
      (m = s.mode → again = false → s.Commands (.modeSet r p) r 0x0201 p stOk [] true [] fun u => u.mode = m)
      ∧ (m ≠ s.mode ∨ again = true → s.modeListStatus m (field p 2 1) = stOk →
        s.Commands (.modeSet r p) r 0x0201 p stOk [] true (laneCmdFields ++ [.fio, .rst]) fun u =>
          (∃ off hdg, s.LanesTake u (.mode m (field p 2 1) off hdg) fun c c' =>
            c'.ctl.mode = m
              ∧ (c.ctl.mode ≠ .standby ∨ m.isDp = false → ∀ k, k < 3 → c'.engine.int (0x1110 + k) =
                  if c.ctl.mode.axes.getD k false then c.engine.int (0x1110 + k) else c.engine.int (0x1306 + k)))
            ∧ (s.mode = .maintenance → m ≠ .maintenance →
                (∀ k ∈ u.fio.channels, k.forced = none) ∧ ∀ o ∈ u.fio.outputs, o.forced = none)
            ∧ (s.mode ≠ .maintenance → u.fio = s.fio ∧ u.rst = s.rst)))
    ∧ (field p 0 1 ≤ 1 → field p 1 1 ≤ 7 → field p 2 2 = 0 → field p 16 4 = 0 → s.peer.duty ≠ .twin → s.mode ≠ .track →
      s.Commands (.setpointSet r p) r 0x0202 p stOk [] true laneCmdFields fun u =>
        ∃ hdg, s.LanesTake u (.setpoint (field p 0 1 = 1) (field p 1 1) (fieldInt p 4 4) (fieldInt p 8 4) hdg) fun c c' =>
          let auto (k : Nat) : Bool := c.ctl.mode.axes.getD k false && bit (field p 1 1) k
          (c.ctl.mode ≠ .followTarget → field p 0 1 = 0 →
            c'.ctl = { c.ctl with
              tn := sat32 (if auto 0 then fieldInt p 4 4 else c.ctl.tn)
              te := sat32 (if auto 1 then fieldInt p 8 4 else c.ctl.te)
              th := if auto 2 then field p 12 4 else c.ctl.th })
          ∧ (field p 0 1 = 1 → c'.ctl.th = if auto 2 then angleAdd c.ctl.th (fieldInt p 12 4) else c.ctl.th)
          ∧ c'.engine = c.engine ∧ c'.fusion = c.fusion ∧ c'.alloc = c.alloc)
    ∧ (s.peer.duty ≠ .twin → s.mode = .track → s.core.ctl.held = .stop →
      s.Commands (.trackContinue r p) r 0x0203 p stOk [] true laneCmdFields fun u => s.LanesTake u .trackContinue fun c c' =>
        if c.ctl.held ≠ .stop then c' = c
        else if c.ctl.route.length ≤ c.ctl.leg + 1 then c'.ctl.leg = c.ctl.leg ∧ c'.ctl.held = .last
        else c'.ctl.leg = c.ctl.leg + 1 ∧ c'.ctl.held = .none)
    ∧ (∀ i, i ≤ 25 → field p 0 1 = i → field p 1 3 = 0 → (s.config.active.ref? i).isSome = true →
      let st := (s.core.fusion.refs.getD i .reset).code
      (st = 5 → s.Commands (.refSelect r p) r 0x1001 p stOk [] true laneCmdFields fun u =>
        s.LanesTake u (.refSelect i) fun c c' =>
          c'.fusion = { c.fusion with refs := setAt c.fusion.refs i fun (x : RefState) =>
            { x with selectPending := true, restart := true, track := none, last := none, fixedPoint := none, drift := [],
                     innovations := [] } })
      ∧ (st ≠ 5 → s.Commands (.refDeselect r p) r 0x1002 p stOk [] true laneCmdFields fun u =>
        s.LanesTake u (.refDeselect i) fun c c' => c'.fusion = { c.fusion with
          refs := setAt c.fusion.refs i fun (x : RefState) => { x with deselected := true, selectPending := false, fixedPoint := none, cause := 17 } })
      ∧ (st = 3 → s.Commands (.refReaccept r p) r 0x1003 p stOk [] true laneCmdFields fun u =>
        s.LanesTake u (.refReaccept i) fun c c' => c'.fusion = { c.fusion with
          refs := setAt c.fusion.refs i fun (x : RefState) =>
            { x with rejected := false, suspect := true, suspectAt := s.now, innovFails := 0, cause := 17 } }))
    ∧ (∀ i, i ≤ 23 → field p 0 1 = i → field p 1 3 = 0 →
      (s.Commands (.actDisable r p) r 0x2101 p stOk [] true laneCmdFields fun u =>
        s.LanesTake u (.actDisable i) fun c c' => i < c.alloc.acts.length →
          (c'.alloc.act i).disabled = true
            ∧ ((s.config.active.act? i).isSome = true → (c'.alloc.act i).st = .unavailable))
      ∧ (s.Commands (.actEnable r p) r 0x2102 p stOk [] true laneCmdFields fun u =>
        s.LanesTake u (.actEnable i) fun c c' => i < c.alloc.acts.length → (c'.alloc.act i).disabled = false))

/-- STEP_CONFIRM, TIME_SET and GNSS_EXCLUDE act on the pending step, the operator source and the exclusion list (03_gnss_baseband.md, 04_time.md, R118, R176, R180, R182, R183, R583). -/
def Obligations.TimeAndSatelliteCommandsAct : Prop :=
  ∀ (r : Req) (p : List Byte) (s : State),
    (∀ x, s.time.pending = some x → x.announced = true →
      s.Commands (.stepConfirm r p) r 0x1201 p stOk [] true [.time] fun u =>
        u.time = { s.time with pending := some { x with confirmed := true } })
    ∧ (s.time.pending = none → s.Commands (.stepConfirm r p) r 0x1201 p stConditions [] false [] fun u => u.time = s.time)
    ∧ (field p 6 4 < 1000000000 → field p 14 2 = 0 → s.time.source = 0 ∨ s.time.source = 4 →
      let e : Int := ((s.now : Int) * 4294967296 + s.time.offset) * 10 / 4294967296
        - ((field p 0 6 * 1000000000 + field p 6 4 : Nat) : Int) * 10
      s.Commands (.timeSet r p) r 0x1202 p stOk [] true [.time, .toRecorder] fun u =>
        u.time.source = 4 ∧ u.time.operatorUnc = field p 10 4 ∧ u.time.offset = s.time.offset
          ∧ if (e.natAbs : Int) ≤ s.paramN 0x12010001 * 10 then
              u.time.pending = none ∧ u.time.slewLeft = -e * 4294967296 / 10
            else u.time.slewLeft = 0
              ∧ u.time.pending = some { e := e, announced := true, pulses := 0, confirmed := false, lowSince := none })
    ∧ (field p 3 1 = 0 →
      let v := (field p 1 1, field p 2 1)
      (field p 0 1 = 0 → svidValid v.1 v.2 = true → v ∉ s.gnss.excluded → s.gnss.excluded.length < 32 →
        s.Commands (.gnssExclude r p) r 0x1101 p stOk [] true [.gnss, .config] fun u =>
          u.gnss = { s.gnss with excluded := s.gnss.excluded ++ [v] })
      ∧ (field p 0 1 = 1 → svidValid v.1 v.2 = true → s.Commands (.gnssExclude r p) r 0x1101 p stOk [] true [.gnss, .config] fun u =>
          u.gnss = { s.gnss with excluded := s.gnss.excluded.filter fun x => x ≠ v })
      ∧ (field p 0 1 = 2 → s.Commands (.gnssExclude r p) r 0x1101 p stOk [] true [.gnss, .config] fun u =>
          u.gnss = { s.gnss with excluded := [] }))

/-- Host outputs, forces, fault clears and bus recovery act on the channels they name (11_digital_energy_limited_io.md, 12_analogue_filter_chains.md, R17, R468, R469, R472, R473, R482, R514, R515, R543, R545). -/
def Obligations.OutputCommandsDriveTheirChannels : Prop :=
  ∀ (r : Req) (p : List Byte) (s : State),
    let forceOf (x : DioChannel) : Option Bool := x.forced
    ((∀ i, i < 32 → bit (u32 p 0) i = true → s.dioDir (i + 1) = 2 ∧ s.dioSource (i + 1) = 4) →
      s.Commands (.dioHostOutput r p) r 0x3001 p stOk [] true [.fio] fun u =>
        ∀ i x, i < 32 → s.fio.channels[i]? = some x → ∃ y, u.fio.channels[i]? = some y
          ∧ forceOf y = forceOf x
          ∧ if bit (u32 p 0) i then y.hostValue = bit (u32 p 4) i ∧ y.hostAt = s.now ∧ y.hostExpired = false
            else y.hostValue = x.hostValue ∧ y.hostAt = x.hostAt ∧ y.hostExpired = x.hostExpired)
    ∧ (∀ c a x, field p 0 1 = c → field p 1 1 = a → u16 p 2 = 0 → 1 ≤ c → c ≤ 32 → a ≤ 2 → s.dioDir c = 2 →
      s.fio.channels[c - 1]? = some x → x.extDrive = false →
      s.Commands (.dioForce r p) r 0x3002 p stOk [] true [.fio] fun u =>
        (∀ d, d ≠ c - 1 → u.fio.channels[d]? = s.fio.channels[d]?) ∧ u.fio.outputs = s.fio.outputs
          ∧ ∃ y, u.fio.channels[c - 1]? = some y ∧ y.forced = (if a = 0 then none else some (decide (a = 2)))
            ∧ (a ≠ 0 → s.fio.inReset = false → s.fio.inhibit = false → x.supplyOff = false → x.latched = false →
                x.restartWait = false → y.cmd = decide (a = 2)))
    ∧ (∀ i x, field p 0 1 = i → i < 4 → s.fio.outputs[i]? = some x →
      let v : Int := if u8 (s.aoEntry i) 0 = 1 then fieldInt p 2 2 else u16 p 2
      (u8 p 1 = 0 → u8 (s.aoEntry i) 1 = 3 → s.Commands (.aoHostOutput r p) r 0x3101 p stOk [] true [.fio] fun u =>
        (∀ d, d ≠ i → u.fio.outputs[d]? = s.fio.outputs[d]?) ∧ u.fio.channels = s.fio.channels
          ∧ ∃ y, u.fio.outputs[i]? = some y ∧ y.hostCode = v ∧ y.hostAt = s.now ∧ y.hostExpired = false)
      ∧ (u8 p 1 ≤ 1 → s.Commands (.aoForce r p) r 0x3102 p stOk [] true [.fio] fun u =>
        (∀ d, d ≠ i → u.fio.outputs[d]? = s.fio.outputs[d]?) ∧ u.fio.channels = s.fio.channels
          ∧ ∃ y, u.fio.outputs[i]? = some y ∧ y.forced = if u8 p 1 = 1 then some v else none))
    ∧ (∀ c mask present x, 1 ≤ c → c ≤ 32 → mask < 4294967296 → s.fio.channels[c - 1]? = some x → 1 ≤ s.authority r →
      let left (old : Bool) (b : Nat) : Bool := (old && !bit mask b) || bit present b
      let p := le 4 (0x30050000 + c) ++ le 4 mask
      s.CommandsWith (.channelFaultClear r c mask present) r 0x0111 p [(0x30050000 + c, present)] stOk [0, 0, 0, 0] false
        [.fio, .toRecorder] fun u => ∃ y, u.fio.channels[c - 1]? = some y
          ∧ y.extDrive = left x.extDrive 7 ∧ y.overload = left x.overload 8
          ∧ y.readback = left x.readback 9 ∧ y.groupOverload = left x.groupOverload 10
          ∧ ∀ d z, d ≠ c - 1 → s.fio.channels[d]? = some z → ∃ w, u.fio.channels[d]? = some w
              ∧ (w.extDrive, w.overload, w.readback, w.groupOverload) = (z.extDrive, z.overload, z.readback, z.groupOverload))
    ∧ (∀ b mask now, 1 ≤ b → b ≤ 6 → mask < 4294967296 → 2 ≤ s.authority r →
      let p := le 4 (0x40080000 + b) ++ le 4 mask
      s.CommandsWith (.w1cClear r (0x40080000 + b) mask now) r 0x0111 p [(0x40080000 + b, now)] stOk [0, 0, 0, 0] false
        [.buses] fun u => u.buses = { s.buses with can := setAt s.buses.can (b - 1) fun k => { k with
          protExc := (k.protExc && !bit mask 11) || bit now 11
          overrun := (k.overrun && !bit mask 10) || bit now 10
          txFull := (k.txFull && !bit mask 9) || bit now 9 } })
    ∧ (∀ b, field p 0 1 = b → field p 1 3 = 0 → 1 ≤ b → b ≤ 6 → (s.bus b).busOff = true →
      s.Commands (.busRecover r p) r 0x4002 p stOk [] true [.buses] fun u =>
        u.buses = { s.buses with can := setAt s.buses.can (b - 1) fun k => { k with recovering := true } })

/-- A counter counts up to 0xFFFFFFFF and holds it; the increment that reaches it sets the overflow bit and raises event 0x0107 once (R19). -/
def Obligations.CountersHoldTheirLargestValue : Prop :=
  ∀ (id : Nat) (s : State),
    let c := s.counter id
    let u := s.count id
    (c.value.toNat < 0xFFFFFFFE → (u.counter id).value = c.value + 1 ∧ (u.counter id).overflow = c.overflow
      ∧ u.toRecorder = s.toRecorder)
    ∧ (c.value = 0xFFFFFFFE#32 → u.counter id = { value := 0xFFFFFFFF#32, overflow := true } ∧ s.Tells u 0x0107 [id])
    ∧ (c.value = 0xFFFFFFFF#32 → u = s)
    ∧ (∀ other, other ≠ id → u.counter other = s.counter other)
    ∧ s.ChangesOnly [.counters, .toRecorder] u

/-- PARAM_WRITE writes every entry or none: the checks of each entry in order, then those over several parameters (14_host_interface.md, 15_configuration.md, R400, R468, R575, R582, R606). -/
def Obligations.ParametersAreWrittenAllOrNone : Prop :=
  ∀ (r : Req) (id : Nat) (v : Word) (s : State), id < 4294967296 →
    let p := le 4 id ++ le 4 v.toNat
    (∀ d, paramDesc id = some d → s.entryStatus r (id, v) = stOk → s.crossFailure [(id, v)] = none →
      s.Commands (.paramWrite r p []) r 0x0111 p stOk [0, 0, 0, 0] false
        [.counters, .params, .toRecorder, .config, .laneA, .laneB, .out, .peer, .time] fun u =>
          u.param id = v ∧ ∀ other, other ≠ id → u.param other = s.param other)
    ∧ (s.entryStatus r (id, v) ≠ stOk →
        s.Commands (.paramWrite r p []) r 0x0111 p (s.entryStatus r (id, v)) (le 4 id) false [] fun u => u.params = s.params)
    ∧ (∀ id1 v1, id1 < 4294967296 → s.entryStatus r (id1, v1) = stOk → s.entryStatus r (id, v) ≠ stOk →
        s.Commands (.paramWrite r (le 4 id1 ++ le 4 v1.toNat ++ p) []) r 0x0111 (le 4 id1 ++ le 4 v1.toNat ++ p)
          (s.entryStatus r (id, v)) (le 4 id) false [] fun u => u.params = s.params)
    ∧ (∀ d bad, paramDesc id = some d → s.entryStatus r (id, v) = stOk → s.crossFailure [(id, v)] = some bad →
        s.Commands (.paramWrite r p []) r 0x0111 p stBadValue (le 4 bad) false [] fun u => u.params = s.params)

/-- SAFETY_RESET, REC_FLUSH, FREEZE_TRIGGER, FREEZE_RELEASE, HOLD_RAMP, DUTY_TRANSFER and RESET_REQUEST act on their units (09_lanes_ridge_peer.md, 10_safety_functions.md, 16_recorder.md, 17_reset_startup_power.md, R392, R402, R432, R640, R642, R657). -/
def Obligations.UnitCommandsAct : Prop :=
  ∀ (r : Req) (p : List Byte) (s : State),
    (∀ mask, field p 0 1 = mask → mask < 16 → field p 1 3 = 0 →
      let seq := (s.safety.gatewaySeq + 1) % 65536
      let m := gatewayMessage 1 mask seq
      (s.safety.resetPermits mask s.now).2 = stOk → s.Commands (.safetyReset r p) r 0x5001 p stOk [] true [.safety] fun u =>
        u.safety = { s.safety with gatewaySeq := seq, x.inbox := s.safety.x.inbox ++ [m], y.inbox := s.safety.y.inbox ++ [m] })
    ∧ (s.recorder.lost = false → s.Commands (.recFlush r p) r 0x6002 p stOk [] true [.recorder, .toRecorder] fun u =>
        (u.recorder.openOf 0).records = [] ∧ (u.recorder.openOf 1).records = []
          ∧ u.recorder.nextSeq = s.recorder.nextSeq ∧ u.recorder.stored = s.recorder.stored)
    ∧ (s.recorder.lost = false → s.recorder.freezeLocked = false → s.recorder.copying = none →
      s.Commands (.freezeTrigger r p) r 0x6003 p stOk [] true [.recorder, .toRecorder, .toHost] fun u =>
        u.recorder.copying = some (s.recorder.opSeconds.toNat, s.recorder.nextSeq)
          ∧ (u.recorder.openOf 0).records = [] ∧ (u.recorder.openOf 1).records = [])
    ∧ (s.recorder.copying = none → s.recorder.freezeLocked = true →
      s.Commands (.freezeRelease r p) r 0x6004 p stOk [] true [.recorder, .toRecorder] fun u =>
        u.recorder = { s.recorder with freezeLocked := false } ∧ s.Tells u 0x6005 [])
    ∧ (s.recorder.freezeLocked = false →
      s.Commands (.freezeRelease r p) r 0x6004 p stConditions [] false [] fun u => u.recorder = s.recorder)
    ∧ (s.ridge.health = .hold → s.ridge.holdStage = .frozen ∨ s.ridge.holdStage = .indefinite →
      s.Commands (.holdRamp r p) r 0x7002 p stOk [] true [.ridge] fun u => u.ridge = { s.ridge with holdStage := .ramp 0 })
    ∧ (s.ridge.health = .healthy → s.Commands (.holdRamp r p) r 0x7002 p stConditions [] false [] fun u => u.ridge = s.ridge)
    ∧ (∀ x, s.peerEnabled = true → s.peer.duty = .duty → s.peerTwin 1 = true → s.peer.state = some x →
      x.configGen = s.config.active.generation →
      s.Commands (.dutyTransfer r p) r 0x7101 p stOk [] true [.peer] fun u => u.peer = { s.peer with transferAsked := true })
    ∧ (s.peer.duty ≠ .duty → s.Commands (.dutyTransfer r p) r 0x7101 p stConditions [] false [] fun u => u.peer = s.peer)
    ∧ (∀ level target, u8 p 0 = level → u8 p 1 = target → p.length = 4 → u16 p 2 = 0 → level ≤ 3 → s.swrBound ≤ level →
      (level ≤ 1 → target = 0 ∧ s.quiet = true) →
      (level = 2 → target ≤ 1 ∧ (s.lane (if target = 0 then .a else .b)).excluded = false) →
      (level = 3 → unitCodes.contains target = true ∧ target ≠ 0x50) →
      s.Serves (.resetRequest r p) r 0x9001 p stOk p false [.rst] fun u => u.rst = { s.rst with swr := some (level, target), swrAt := max s.now r.t })

/-- Long operations outside configuration are ACCEPTED under the next handle, with what each starts (14_host_interface.md, R103, R122, R157, R251, R394, R416, R473, R517, R529, R584, R645). -/
def Obligations.LongOperationsAreAccepted : Prop :=
  ∀ (r : Req) (p : List Byte) (s : State),
    let now := max s.now r.t
    (s.gnss.rfTest = none → s.Begins (.gnssRfTest r p) r 0x1102 p [.gnss] fun n u => u.gnss = { s.gnss with rfTest := some n })
    ∧ s.BeginsWhere (.assistSave r p) r 0x1103 p
        (fun n => ∀ h ∈ s.host.handles, h.opcode = 0x1103 → h.outstanding = true → h.number = n) [] (fun _ u => u.gnss = s.gnss)
    ∧ ((∀ i, i < 32 → bit (u32 p 0) i = true → s.dioDir (i + 1) = 2) →
        s.Begins (.dioOutputTest r p) r 0x3003 p [] fun _ u => u.fio = s.fio)
    ∧ (∀ x, field p 1 3 = 0 → u8 p 0 ∈ chainSources → u8 p 0 ≤ 0x2F → s.input? (u8 p 0) = some x → s.inputMode (u8 p 0) ≠ 0 →
        s.calibrating = false → s.busyWith [0x3104] = false → x.shuntOpen = false →
        s.Begins (.aiCalibrate r p) r 0x3103 p [.fio] fun n u => u.fio = { s.fio with
          inputs := s.fio.inputs.map fun y => if y.source = u8 p 0 then
            { y with cal := some { handle := n, start := none, phase := 0, held := y.code } } else y })
    ∧ (u8 p 0 ≤ 2 → field p 1 3 = 0 → s.calibrating = false → (s.host.handles.filter fun h => h.outstanding && decide (h.opcode = 0x3104)).length ≤ 1 →
        s.Begins (.calibrateAll r p) r 0x3104 p [] fun _ u => u.fio = s.fio)
    ∧ (∀ b, u8 p 0 = b → 1 ≤ b → b ≤ 6 → field p 1 3 = 0 → (s.bus b).rate.isDetecting = false → u8 (s.busEntry b) 2 ≠ 0 →
        s.busFlag b 1 = true → s.Begins (.busRateDetect r p) r 0x4001 p [.buses] fun n u =>
          u.buses = { s.buses with can := setAt s.buses.can (b - 1) fun k =>
            { k with rate := .detecting 0 0 s.now, detectHandle := some n } })
    ∧ (s.safety.restart = none → s.Begins (.safetyRestart r p) r 0x5002 p [.safety] fun n u =>
        let seq := (s.safety.gatewaySeq + 1) % 65536
        let m := gatewayMessage 2 0 seq
        u.safety = { s.safety with
          gatewaySeq := seq
          x.inbox := s.safety.x.inbox ++ [m]
          y.inbox := s.safety.y.inbox ++ [m]
          restart := some n })
    ∧ (p.length = 20 → u8 p 0 ≤ 3 → u8 p 1 ≤ 1 → u16 p 2 = 0 → s.recorder.exports.length < 2 →
        s.Begins (.recExport r p) r 0x6001 p [.recorder, .eaves, .toRecorder] fun n u =>
          (u8 p 0 ≤ 2 → u.recorder = { s.recorder with
              exports := s.recorder.exports ++ [(n, u8 p 0, s.exportRange (u8 p 0) (field p 4 8) (field p 12 8), 0)] })
            ∧ u.recorder.exports.length = s.recorder.exports.length + 1
            ∧ ∃ b ∈ u.host.bulks, b.handle = n ∧ b.toHost = true ∧ b.base = 0)
    ∧ (∀ d, u8 p 0 = d → d ≤ 1 → field p 1 3 = 0 → s.recorder.returning = none → (s.recorder.dev d).st = .retired →
        s.Begins (.nandReturn r p) r 0x6005 p [.recorder] fun n u =>
          u.recorder.returning = some (n, d) ∧ (u.recorder.dev d).st = .returning ∧ (u.recorder.dev d).events = []
            ∧ u.recorder.dev (1 - d) = s.recorder.dev (1 - d))
    ∧ (s.ridge.health = .hold → s.ridge.healthReset = none →
        s.Begins (.healthReset r p) r 0x7001 p [.ridge, .frame] fun n u =>
          u.ridge = { s.ridge with healthReset := some n, healthResetKat := false })
    ∧ (∀ l, laneOf? (field p 0 1) = some l → field p 1 3 = 0 → s.rejoinRefusal l = stOk →
        s.Begins (.laneRejoin r p) r 0x7003 p [.ridge, .toRecorder] fun n u =>
          (∃ j, u.ridge.rejoin = some j ∧ j.lane = l ∧ j.step = 1 ∧ j.handle = some n ∧ j.startedAt = s.now)
            ∧ s.Tells u 0x7007 [l.code, 1, 0])
    ∧ (s.ridge.fullTest = none → s.Begins (.fullTest r p) r 0x7004 p [.ridge] fun n u => u.ridge = { s.ridge with fullTest := some n })
    ∧ (s.memory.march = none → s.Accepts (.memoryMarch r p) r 0xA001 p [.memory, .recorder, .counters, .toRecorder] fun n u =>
        u.memory = { s.memory with march := some n }
          ∧ (u.recorder.openOf 0).records = [] ∧ (u.recorder.openOf 1).records = [])
    ∧ (s.security.debugStep = 0 → u32 p 0 = s.rst.options.serial % 4294967296 →
        s.Accepts (.debugOpen r p) r 0xA101 p [.security, .recorder, .counters, .toRecorder, .toHost] fun n u =>
          u.security = { s.security with debugStep := 1, debugAt := now, debugHandle := some n })
    ∧ (s.mode = .maintenance → s.security.fieldRandom = true → s.security.reprovision = none →
        s.Accepts (.reprovision r p) r 0xA103 p [.security] fun n u => u.security = { s.security with reprovision := some n })
    ∧ (let names := (List.range 64).filter fun e => bit (field p 0 8) e
       let shadows := names.filterMap s.core.shadow?
       let b := s.config.active
       let bank := shadows.foldl (fun (b : Bank) x =>
         b.setEntry 0x10 0x03 x.entry (x.adopted ((b.entry? 0x10 0x03 x.entry).getD []))) b
       let g : Staged :=
         { baseGen := b.generation, newGen := if b.generation + 1 = 0 then 1 else b.generation + 1, session := r.session,
           user := s.userOf r, lastActivity := s.now, params := [], pieces := [] }
       let s1 : State := { s with config.staged := some g, config.stagedBank := bank }
       names ≠ [] → s.paramN 0x10060001 ≠ 0 → s.config.commit = none → s.config.staged = none →
         shadows.length = names.length → s1.commitRefusal g.newGen = stOk →
         s.Begins (.refineAdopt r p) r 0x1004 p [.config] fun n u =>
           u.config.staged = some g ∧ u.config.stagedBank = bank ∧ u.config.active = b
             ∧ ∃ c, u.config.commit = some c ∧ c.handle = n ∧ c.expect = 0 ∧ c.swapSet = false ∧ c.swapped = false)
    ∧ (s.gnss.rfTest.isSome = true → ∀ n, s.Decides (r.command 0x1102 n p []) stBusy [] false [.eaves] fun u =>
        u.gnss = s.gnss ∧ ∀ h ∈ u.host.handles, h.number ≠ n)
    ∧ (s.ridge.fullTest.isSome = true → ∀ n, s.Decides (r.command 0x7004 n p []) stBusy [] false [.eaves] fun u =>
        u.ridge = s.ridge ∧ ∀ h ∈ u.host.handles, h.number ≠ n)
    ∧ (s.memory.march.isSome = true → s.admits r 0xA001 p = true →
        s.Completes (.memoryMarch r p) requestFields fun u => s.Answered u r 0xA001 0 stBusy [] false)

/-- Sessions open by proof and close; one at most holds control; events are subscribed and acknowledged; users are set (14_host_interface.md, 18_memory_security.md, R567, R568, R569, R572, R576, R590, R592, R694, R695). -/
def Obligations.SessionsOpenCloseAndHoldControl : Prop :=
  ∀ (r : Req) (s : State), s.hostUp = true → r.prp = none → s.eaves.link0.up = true →
    let s' := s.tick r.t
    let now := max s.now r.t
    let n := freeSession s.host.sessions 8 s.host.nextSession
    let last (u : State) (code status : Nat) (payload : List Byte) : Prop :=
      u.host.replies.getLast? = some (r.reply code 0 status payload)
    (∀ user auth nonce, r.session = 0 ∨ s.admits r 0x8001 (le 1 user ++ le 1 auth ++ nonce) = true →
      (s'.openStatus r.transport user auth nonce = stOk →
        s.Completes (.sessionOpen r user auth nonce) [.now, .time, .freeCtr, .host] fun u =>
          (∃ x, u.host.sessions.getLast? = some x ∧ u.host.sessions.length = s.host.sessions.length + 1 ∧ x.number = n
              ∧ x.isOpen = false ∧ x.user = user ∧ x.authority = auth ∧ x.transport = r.transport ∧ x.addr = r.addr ∧ x.clientNonce = nonce
              ∧ x.serverNonce = be 16 (Config.random s.freeCtr).toNat ∧ x.startedAt = now)
            ∧ last u 0x8001 stOk (le 2 n ++ be 16 (Config.random s.freeCtr).toNat) ∧ u.freeCtr = s.freeCtr + 1)
      ∧ (s'.openStatus r.transport user auth nonce ≠ stOk →
        s.Completes (.sessionOpen r user auth nonce) [.now, .time, .host] fun u =>
          u.host.sessions.map (·.number) = s.host.sessions.map (·.number)
            ∧ last u 0x8001 (s'.openStatus r.transport user auth nonce) []))
    ∧ (∀ x proof, s'.pendingSession? r.transport r.session = some x → proof.length = 32 →
      (proof = s.proof x labelOpen → s.userKnown x.user = true →
        s.Completes (.sessionProve r proof) [.now, .time, .host, .toRecorder] fun u =>
          u.host.sessions = (s.host.sessions.map fun y =>
              if y.number = r.session then { y with isOpen := true, lastPacket := now } else y)
            ∧ last u 0x8002 stOk (s.proof x labelAccept) ∧ s.Tells u 0x8003 [x.user, x.authority, 1])
      ∧ (proof ≠ s.proof x labelOpen →
        let recent := (s.host.failures.filter fun f => now < f.2 + 60000000000) ++ [(x.user, now)]
        let full : Prop := 5 ≤ (recent.filter fun f => f.1 = x.user).length
        s.Completes (.sessionProve r proof) [.now, .time, .host, .toRecorder] fun u =>
          u.host.sessions = (s.host.sessions.filter fun y => y.number ≠ r.session)
            ∧ (full → u.host.lockouts = s.host.lockouts ++ [(x.user, now + 60000000000)]
                ∧ u.host.failures = recent.filter fun f => f.1 ≠ x.user)
            ∧ (¬full → u.host.lockouts = s.host.lockouts ∧ u.host.failures = recent)
            ∧ u.host.replies.getLast? = some { r.reply 0x8002 0 stAuthFailed [] with session := 0, flags := 1 }
            ∧ s.Tells u 0x8004 [x.user, 0]))
    ∧ (s.admits r 0x8003 [] = true → (∀ y ∈ s.host.sessions, y.number = r.session → y.isOpen = true) →
      s.Completes (.sessionClose r []) [.now, .time, .host, .toRecorder] fun u =>
        u.host.sessions = (s.host.sessions.filter fun y => y.number ≠ r.session) ∧ u.host.handles = s.host.handles
          ∧ u.host.holder = (if s.host.holder = r.session then 0 else s.host.holder) ∧ last u 0x8003 stOk []
          ∧ ∃ e user auth, u.toRecorder.getLast? = some e ∧ e.Says 0x8003 [user, auth, 0])
    ∧ s.Serves (.keepalive r []) r 0x8004 [] stOk [] false [] (fun u =>
        ∀ y ∈ u.host.sessions, y.number = r.session → y.lastPacket = now)
    ∧ (∀ mask least, least ≤ 4 → s.Serves (.eventSubscribe r mask least) r 0x8005 (le 32 mask.toNat ++ le 1 least) stOk [] false [] fun u =>
        ∀ y ∈ u.host.sessions, y.number = r.session → y.mask = mask ∧ y.minSeverity = least)
    ∧ (∀ seq, (∀ x ∈ s.host.sessions, x.queue = []) → s.Serves (.eventAck r seq) r 0x8006 (le 2 seq) stOk [] false [] fun u =>
        u.host.sessions.map (·.window) = s.host.sessions.map fun x =>
          if x.number = r.session then x.window.filter fun v => !(decide (v.seq = seq) || seqLater 16 seq v.seq) else x.window)
    ∧ (∀ force : Bool, let p : List Byte := [if force then 1 else 0, 0, 0, 0]
      s.admits r 0x0200 p = true →
        (s.host.holder = 0 → r.session ≠ 0 → s.Completes (.controlTake r p) [.now, .time, .host, .toRecorder] fun u =>
          u.host.holder = r.session ∧ last u 0x0200 stOk [0, 0, 0, 0] ∧ s.Tells u 0x8007 [r.session, 1])
        ∧ (s.host.holder = r.session → s.Completes (.controlTake r p) [.now, .time, .host] fun u =>
          u.host.holder = r.session ∧ last u 0x0200 stOk [0, 0, 0, 0])
        ∧ (s.host.holder ≠ 0 → s.host.holder ≠ r.session → force = true →
          s.Completes (.controlTake r p) [.now, .time, .host, .toRecorder] fun u =>
            u.host.holder = r.session ∧ last u 0x0200 stOk [0, 0, 0, 0]
              ∧ ∃ a b, u.toRecorder = s.toRecorder ++ [a, b] ∧ a.Says 0x8007 [s.host.holder, 0] ∧ b.Says 0x8007 [r.session, 1])
        ∧ (s.host.holder ≠ 0 → s.host.holder ≠ r.session → force = false →
          s.Completes (.controlTake r p) [.now, .time, .host] fun u =>
            u.host.holder = s.host.holder ∧ last u 0x0200 stConditions []))
    ∧ (s.admits r 0x0204 [] = true →
        (s.host.holder = r.session → r.session ≠ 0 → s.Completes (.controlRelease r []) [.now, .time, .host, .toRecorder] fun u =>
          u.host.holder = 0 ∧ last u 0x0204 stOk [0, 0, 0, 0] ∧ s.Tells u 0x8007 [r.session, 0])
        ∧ (s.host.holder ≠ r.session → s.Completes (.controlRelease r []) [.now, .time, .host] fun u =>
          u.host.holder = s.host.holder ∧ last u 0x0204 stNotInControl []))
    ∧ (∀ p, p.length = 36 → field p 0 1 ≤ 15 → field p 2 1 ≤ 7 → field p 3 1 = 0 → s.admits r 0xA102 p = true →
        let others := s.host.users.filter fun u => u.number ≠ field p 0 1
        (field p 1 1 ≤ 3 → s.Completes (.userSet r p) [.now, .time, .host, .toRecorder] fun u =>
          u.host.users = others ++ [{ number := field p 0 1, key := s.userSetKey r p, authority := field p 1 1,
                                      transports := field p 2 1 }]
            ∧ last u 0xA102 stOk [0, 0, 0, 0] ∧ s.Tells u 0xA105 [field p 0 1])
        ∧ (field p 1 1 = 0xFF → s.Completes (.userSet r p) [.now, .time, .host, .toRecorder] fun u =>
          u.host.users = others ∧ (∀ x ∈ u.host.sessions, x.user ≠ field p 0 1)
            ∧ ∃ e ∈ u.toRecorder, e.Says 0xA105 [field p 0 1]))

/-- Session timers, event resends, the HSER gap, PRP supervision and the checks of every packet received (14_host_interface.md, R562, R563, R567, R569, R571, R572, R588, R592). -/
def Obligations.SessionsTimersAndReceivers : Prop :=
  ∀ (t : Nat) (s : State), s.hostUp = true → s.eaves.link0.up = true →
    let now := max s.now t
    (∀ n, s.Completes (.pendingSessionLapse t n) [.now, .time, .host] fun u => u.host = { s.host with
        sessions := s.host.sessions.filter fun x => x.isOpen || !decide (x.number = n) || decide (now < x.startedAt + 5000000000) })
    ∧ (∀ user, s.Completes (.lockoutExpiry t user) [.now, .time, .host] fun u => u.host = { s.host with
        lockouts := s.host.lockouts.filter fun l => !decide (l.1 = user) || decide (now < l.2) })
    ∧ (∀ n tag, s.Completes (.storedReplyExpiry t n tag) [.now, .time, .host] fun u => u.host = { s.host with
        sessions := s.host.sessions.map fun x => if x.number = n then
          { x with stored := x.stored.filter fun k => !decide (k.tag = tag) || decide (now < k.at_ + 10000000000) } else x })
    ∧ (∀ n x, s.sessionOf n = some x → s.host.sessions.find? (fun y => y.number = n) = some x →
      (x.lastPacket + s.paramN 0x80010007 * 1000000000 ≤ now →
        s.Completes (.sessionTimeout t n) [.now, .time, .host, .toRecorder] fun u =>
          u.host.sessions = (s.host.sessions.filter fun y => y.number ≠ n) ∧ u.host.handles = s.host.handles
            ∧ ∃ e, u.toRecorder.getLast? = some e ∧ e.Says 0x8003 [x.user, x.authority, 0])
      ∧ (now < x.lastPacket + s.paramN 0x80010007 * 1000000000 →
        s.Completes (.sessionTimeout t n) [.now, .time] fun u => u.host = s.host)
      ∧ (∀ seq v, x.window.find? (fun v => v.seq = seq) = some v → v.sentAt + 1000000000 ≤ now →
        (v.sends < 4 → s.Completes (.eventRetransmit t n seq) [.now, .time, .host] fun u =>
          u.host.eventsSent = s.host.eventsSent ++ [(n, { v with sends := v.sends + 1, sentAt := now })])
        ∧ (4 ≤ v.sends → (∀ y ∈ s.host.sessions, y.queue = []) →
          s.Completes (.eventRetransmit t n seq) [.now, .time, .host, .counters, .toRecorder] fun u =>
            (∀ y ∈ u.host.sessions, y.number = n → y.gapNext = true ∧ ∀ w ∈ y.window, w.seq ≠ seq)
              ∧ s.Counts u ctrSessionDrops
              ∧ (x.lastDropEvent = none → ∃ e, u.toRecorder.getLast? = some e ∧ e.Says 0x8006 [n]))))
    ∧ (∀ at_ rx, s.host.hserRx ++ rx ≠ [] →
      (at_ + 100000000 < now → s.Completes (.hserGapTimeout t at_ rx) [.now, .time, .host, .counters, .toRecorder] fun u =>
        u.host = { s.host with hserRx := [] } ∧ s.Counts u (ctrPacket 2 3))
      ∧ (now ≤ at_ + 100000000 → s.Completes (.hserGapTimeout t at_ rx) [.now, .time, .host] fun u =>
        u.host = { s.host with hserRx := huntSync (s.host.hserRx ++ rx).length (s.host.hserRx ++ rx) }))
    ∧ (s.host.lastSupervision + 2000000000 ≤ now → s.Completes (.prpSupervision t) [.now, .time, .host] fun u =>
        u.host = { s.host with lastSupervision := now })
    ∧ (∀ tr addr prp bs,
      let s' := s.tick t
      let code := field bs 4 2
      let len := field bs 6 2
      let r : Req := { t := t, transport := tr, session := field bs 14 2, tag := BitVec.ofNat 16 (field bs 8 2),
                       mac := if bit (field bs 3 1) 3 && decide (16 ≤ len) then some (slice bs len 16) else none,
                       addr := addr, prp := prp }
      let i : Instr := .packetCheckFailure t tr addr prp bs
      let unknown : Reply := { r.reply code 0 stSessionUnknown [] with session := 0, flags := 1 }
      let same : Prop := s.Completes i [.now, .time] fun u => u.host = s.host
      let answers (v : Reply) : Prop :=
        s.Completes i [.now, .time, .host] fun u => u.host = { s.host with replies := s.host.replies ++ [v] }
      s'.secondCopy r = false →
      (packetWhole bs = false →
        s.Completes i [.now, .time, .host, .counters, .toRecorder] fun u => s.Counts u (ctrPacket tr 1)
          ∧ u.host = { s.host with hserRx := if tr = 2 then huntSync bs.length (bs.drop 1) else s.host.hserRx })
      ∧ (packetWhole bs = true →
        (field bs 2 1 ≠ 1 → answers { r.reply code 0 stBadVersion [] with session := 0, flags := 1 })
        ∧ (field bs 2 1 = 1 → field bs 3 1 &&& 0xC7 ≠ 0 →
          s.Completes i [.now, .time, .counters, .toRecorder, .host] fun u => s.Counts u (ctrPacket tr 2) ∧ u.host = s.host)
        ∧ (field bs 2 1 = 1 → field bs 3 1 &&& 0xC7 = 0 →
          (r.session = 0 → (code = 0x0100 ∨ code = 0x8001 → same) ∧ (¬(code = 0x0100 ∨ code = 0x8001) → answers unknown))
          ∧ (r.session ≠ 0 → code = 0x8002 →
            ((s'.pendingSession? tr r.session).isSome = true → same)
              ∧ (s'.pendingSession? tr r.session = none → answers unknown))
          ∧ (r.session ≠ 0 → code ≠ 0x8002 →
            (s'.session? tr r.session = none → answers unknown)
            ∧ (∀ x, s'.session? tr r.session = some x →
              let good : Prop := r.mac = some (authTag (s'.sessionKey x) (bs.take (len - 1)))
              let known := x.stored.find? fun k => decide (k.tag = r.tag) && decide (now < k.at_ + 10000000000)
              let new : Prop := ∀ n, x.newestTag = some n → seqLater 16 r.tag.toNat n.toNat = true
              (¬good →
                s.Completes i [.now, .time, .counters, .toRecorder, .host] fun u =>
                  s.Counts u (ctrBadTag r.session) ∧ u.host.replies = s.host.replies
                    ∧ (x.lastBadTag = none → ∃ e, u.toRecorder.getLast? = some e ∧ e.Says 0x8004 [x.user, r.session]))
              ∧ (∀ k, good → known = some k →
                s.Completes i [.now, .time, .host] fun u =>
                  u.host.replies = s.host.replies ++ [{ k.reply with addr := addr, flags := k.reply.flags ||| 4 }])
              ∧ (good → known = none → ¬new →
                s.Completes i [.now, .time, .host] fun u =>
                  u.host.replies = s.host.replies ++ [r.reply code 0 stStaleTag []])
              ∧ (good → known = none → new →
                (opInfo? code = none → s.Completes i [.now, .time, .host] fun u =>
                    u.host.replies = s.host.replies ++ [r.reply code 0 stBadOpcode []])
                ∧ ((opInfo? code).isSome = true → same)))))))

/-- Handles are queried, acknowledged, cancelled and completed; transfers are read, written and abandoned; commands cross or time out (14_host_interface.md, R68, R157, R584, R585, R586, R588, R594, R595, R599, R694, R701). -/
def Obligations.HandlesAndTransfersEnd : Prop :=
  ∀ (r : Req) (t : Nat) (s : State), s.eaves.link0.up = true → s.host.fieldUnreachable = false → (s.host.handles.filter fun h => !h.outstanding).length < 256 →
    let now := max s.now t
    let ended (u : State) (n final : Nat) (result : List Byte) : Prop :=
      ∃ h, u.handle? n = some h ∧ h.stage = .complete ∧ h.final = final ∧ h.result = result
    (∀ n h, n < 65536 → s.handle? n = some h → h.user = s.userOf r →
      let p := le 2 n ++ [0, 0]
      let bytes := le 1 h.stage.code ++ le 1 h.progress ++ le 2 h.opcode ++ le 2 h.final ++ le 2 h.result.length ++ h.result
      (h.stage ≠ .complete → s.Reads (.handleQuery r p) r 0x0120 p bytes
        ∧ s.Serves (.handleAck r p) r 0x0121 p stConditions [] false [] fun u => u.host.handles = s.host.handles)
      ∧ (h.stage = .complete →
        (s.admits r 0x0120 p = true → s.Completes (.handleQuery r p) requestFields fun u =>
          s.Answered u r 0x0120 0 stOk bytes false ∧ u.host.handles = s.host.handles.filter fun k => k.number ≠ n)
        ∧ (s.admits r 0x0121 p = true → s.Completes (.handleAck r p) requestFields fun u =>
          s.Answered u r 0x0121 0 stOk [0, 0, 0, 0] false ∧ u.host.handles = s.host.handles.filter fun k => k.number ≠ n)
        ∧ s.Commands (.handleCancel r p) r 0x0122 p stOk [] true [] fun u => u.handle? n = some h)
      ∧ (h.outstanding = true →
        let cancels (fields : List StateField) (P : State → Prop) : Prop :=
          (s.admits r 0x0122 p = true → s.Completes (.handleCancel r p) (requestFields ++ [.frame]) fun u =>
            s.Forwards u r 0x0122 0 p [] ∧ s.HostKeeps u)
          ∧ (s.rst.unitsDown.contains 0 = false → let u := s.decideCommand (r.command 0x0122 0 p [])
            ended u n stCancelled [] ∧ P u ∧ s.ChangesOnly ([.host, .eaves, .laneA, .laneB] ++ fields) u)
        (h.opcode = 0x7004 → cancels [.ridge] fun u => u.ridge = { s.ridge with fullTest := none })
        ∧ (h.opcode = 0xA001 → cancels [.memory] fun u => u.memory = { s.memory with march := none })
        ∧ (h.opcode = 0x0134 → cancels [] fun u => u.bulk? n = none)
        ∧ (h.opcode = 0x6001 → cancels [.recorder] fun u => u.bulk? n = none
            ∧ u.recorder = { s.recorder with exports := s.recorder.exports.filter fun x => x.1 ≠ n })
        ∧ (h.opcode = 0x4001 → cancels [.buses] fun u => ∀ i, i < 6 → (s.bus (i + 1)).detectHandle = some n →
            (u.bus (i + 1)).rate = .programmed ∧ (u.bus (i + 1)).detectHandle = none)
        ∧ (h.opcode ∉ [0x0134, 0x6001, 0xA001, 0x7004, 0x4001] →
          s.Commands (.handleCancel r p) r 0x0122 p stNotCancellable [] false [] fun u => u.host.handles = s.host.handles)))
    ∧ (∀ n, n < 65536 → s.handle? n = none →
      s.Serves (.handleQuery r (le 2 n ++ [0, 0])) r 0x0120 (le 2 n ++ [0, 0]) stResultExpired [] false [] fun u =>
        u.host.handles = s.host.handles)
    ∧ (∀ n h, n < 65536 → s.handle? n = some h → h.user ≠ s.userOf r →
      s.Serves (.handleQuery r (le 2 n ++ [0, 0])) r 0x0120 (le 2 n ++ [0, 0]) stBadHandle [] false [] fun u =>
        u.host.handles = s.host.handles)
    ∧ (∀ n h b, s.handle? n = some h → h.user = s.userOf r → s.bulk? n = some b → b.running = true → b.finished = false →
      (∀ offset len, b.toHost = true → b.base ≤ offset → offset ≤ b.end_ → offset < 2 ^ 64 → len < 65536 →
        let k := min (min len 8164) (b.sent - offset)
        let last : Bool := offset + k = b.end_
        s.admitsOn r 0x0150 n (le 8 offset ++ le 2 len) = true →
        s.Completes (.bulkRead r n (le 8 offset ++ le 2 len)) requestFields fun u =>
          s.Answered u r 0x0150 0 stOk (le 8 offset ++ le 2 k ++ [if last then 1 else 0, 0] ++ (b.data.drop (offset - b.base)).take k)
              false
            ∧ (u.bulk? n).map (fun x => (x.base, x.data, x.running, x.finished))
                = some (offset, b.data.drop (offset - b.base), !last, last))
      ∧ (∀ bs : List Byte, b.toHost = false → bs.length ≤ 8164 → b.end_ < 2 ^ 64 →
        let p := le 8 b.end_ ++ le 2 bs.length ++ [0, 0] ++ bs
        s.admitsOn r 0x0151 n p = true →
          (b.buffered + bs.length ≤ 4194304 → s.Completes (.bulkWrite r n p) requestFields fun u =>
            s.Answered u r 0x0151 0 stOk [] false ∧ (u.bulk? n).map (·.data) = some (b.data ++ bs))
          ∧ (4194304 < b.buffered + bs.length → s.Completes (.bulkWrite r n p) requestFields fun u =>
            s.Answered u r 0x0151 0 stBusy [] false ∧ u.host.bulks = s.host.bulks)))
    ∧ (∀ n h b, s.handle? n = some h → s.bulk? n = some b → b.running = true → b.finished = false →
      (b.lastAccess + s.paramN 0x80010008 * 1000000000 ≤ now → (b.toHost = true → b.data ≠ []) → h.outstanding = true →
        s.Completes (.bulkWindowExpiry t n) [.now, .time, .host, .eaves, .recorder, .config, .counters, .toRecorder] fun u =>
          ended u n stBulkAbandoned [] ∧ u.bulk? n = none ∧ s.Counts u ctrBulkAbandoned
            ∧ ∃ e, u.toRecorder.getLast? = some e ∧ e.Says 0x8009 [n])
      ∧ (now < b.lastAccess + s.paramN 0x80010008 * 1000000000 →
        s.Completes (.bulkWindowExpiry t n) [.now, .time] fun u => u.host = s.host))
    ∧ (∀ n h, s.handle? n = some h → h.stage = .complete → h.completedAt + 600000000000 ≤ now →
      s.Completes (.resultExpiry t n) [.now, .time, .host, .toRecorder] fun u =>
        u.host.handles = (s.host.handles.filter fun k => k.number ≠ n) ∧ s.Tells u 0x8008 [n])
    ∧ (∀ n h ok stored report, s.handle? n = some h → h.outstanding = true →
      let status := if ok then stOk else stTestFailed
      (h.opcode = 0x0134 → s.bulk? n = none → s.Completes (.operationCompletion t n ok stored report) [.now, .time, .host, .eaves] fun u =>
        ended u n stOk [])
      ∧ (h.opcode = 0x3003 → s.Completes (.operationCompletion t n ok stored report) [.now, .time, .host, .eaves] fun u =>
        ended u n status (report.take 48))
      ∧ (h.opcode = 0x3104 → s.Completes (.operationCompletion t n ok stored report) [.now, .time, .host, .eaves] fun u =>
        ended u n status (report.take 240))
      ∧ (h.opcode = 0x7004 → s.Completes (.operationCompletion t n ok stored report) [.now, .time, .host, .eaves, .ridge] fun u =>
        ended u n status (report.take 496) ∧ u.ridge.fullTest = none)
      ∧ (h.opcode = 0xA103 →
        s.Completes (.operationCompletion t n ok stored report)
          [.now, .time, .host, .eaves, .security, .recorder, .counters, .toRecorder] fun u =>
            ended u n stOk (le 4 (s.security.keyId + 1) ++ le 4 (b2n s.security.unprovisioned))
              ∧ u.security.keyId = s.security.keyId + 1 ∧ u.security.keyHeld = true ∧ u.security.deviceKey = true
              ∧ u.security.unprovisioned = false ∧ u.security.tamper = false)
      ∧ (∀ passed, s.gnss.rfTest = some n →
        s.Completes (.gnssRfTestComplete t passed report) [.now, .time, .host, .eaves, .gnss] fun u =>
          u.gnss = { s.gnss with
            rfTest := none
            channels := s.gnss.channels.map fun c => if c.locked then { c with slip := true, lockStart := now, cycles := none } else c }
            ∧ ended u n (if passed then stOk else stTestFailed) (report.take 240)))
    ∧ (∀ present c rest o, s.eaves.waitingCommands = c :: rest → opInfo? c.opcode = some o →
      (s.canCross o c.payload = true →
        exec (.eavesCommandForward t present) s = .next
          (({ s.tick t with eaves.waitingCommands := rest } : State).runRequest
            { t := t, transport := c.transport, session := c.session, tag := c.tag, addr := c.addr } o c.payload
            present (fieldEffect present c.opcode)))
      ∧ (s.canCross o c.payload = false →
        s.Completes (.eavesCommandForward t present) [.now, .time] fun u => u.eaves = s.eaves))
    ∧ (∀ c pre post, s.eaves.inField = pre ++ c :: post → (∀ d ∈ pre ++ post, ¬ (d.session = c.session ∧ d.tag = c.tag)) →
      (c.at_ + 2 * s.frame.period * 1000000 + 100000000 ≤ now →
        s.Completes (.fieldTimeout t c.session c.tag) [.now, .time, .host, .eaves] fun u =>
          u.eaves.inField = pre ++ post ∧ u.eaves.reply.credits = s.eaves.reply.credits + c.replyCredits
            ∧ u.eaves.granted = s.eaves.granted - c.replyCredits
            ∧ ∃ v, u.host.replies = s.host.replies ++ [v] ∧ v.session = c.session ∧ v.tag = c.tag
                ∧ v.status = BitVec.ofNat 16 stTimeout ∧ v.opcode = BitVec.ofNat 16 c.opcode)
      ∧ (now < c.at_ + 2 * s.frame.period * 1000000 + 100000000 →
        s.Completes (.fieldTimeout t c.session c.tag) [.now, .time] fun u => u.eaves = s.eaves ∧ u.host = s.host))

/-- A staged set is opened, filled, verified, persisted or discarded as a whole; firmware is staged, activated and tried (15_configuration.md, R594, R612, R614, R615, R616, R617, R618, R619, R621, R626, R627). -/
def Obligations.StagedSetsAreCommittedOrDiscarded : Prop :=
  ∀ (r : Req) (p : List Byte) (t : Nat) (s : State), s.host.fieldUnreachable = false → s.eaves.link0.up = true →
    (s.host.handles.filter fun h => !h.outstanding).length < 256 →
    let now := max s.now t
    let act (u : State) : Prop := u.config.active = s.config.active
    let ended (u : State) (n final : Nat) (result : List Byte) : Prop :=
      ∃ h, u.handle? n = some h ∧ h.stage = .complete ∧ h.final = final ∧ h.result = result
    (∀ base new : Word, s.config.commit = none → s.config.staged = none → base = s.config.active.generation → new ≠ 0 →
      1 ≤ (new - base).toNat → (new - base).toNat < 2147483648 →
      let q := le 4 base.toNat ++ le 4 new.toNat
      s.Commands (.stageOpen r q) r 0x0130 q stOk (q ++ le 4 s.config.active.free) false [.config] fun u => act u
        ∧ u.config.stagedBank = s.config.active ∧ (∀ l ∈ s.holders, (u.config.store l).staged = s.config.active) ∧ ∃ g, u.config.staged = some g ∧ g.baseGen = base ∧ g.newGen = new
            ∧ g.session = r.session ∧ g.params = [] ∧ g.pieces = [])
    ∧ (∀ g i, s.config.commit = none → s.config.staged = some g → p.length = 16 → u8 p 2 = 0 → u8 p 3 = 0 →
      tableInfo? (u8 p 0) (u8 p 1) = some i → i.size ≠ 0 → u16 p 4 + u16 p 6 ≤ i.entries →
      let piece (n : Nat) : Piece :=
        { handle := n, unit := u8 p 0, table := u8 p 1, kind := 0, first := u16 p 4, count := u16 p 6, length := u32 p 8,
          crc := BitVec.ofNat 32 (u32 p 12), data := [] }
      s.Begins (.stagePiece r p) r 0x0131 p [.config, .eaves] fun n u => act u ∧ u.config.stagedBank = s.config.stagedBank
        ∧ (∃ g', u.config.staged = some g' ∧ g'.pieces = g.pieces ++ [piece n])
        ∧ ∃ b ∈ u.host.bulks, b.handle = n ∧ b.toHost = false ∧ b.data = [])
    ∧ (s.config.staged.isSome = true → s.config.commit = none →
      (s.admits r 0x0132 p = true → s.Completes (.stageDiscard r p) (requestFields ++ [.frame]) fun u =>
        s.Forwards u r 0x0132 0 p [] ∧ s.HostKeeps u)
      ∧ (s.rst.unitsDown.contains 0 = false → let u := s.decideCommand (r.command 0x0132 0 p [])
        act u ∧ u.config.staged = none ∧ (∃ e, u.toRecorder.getLast? = some e ∧ e.Says 0x0102 [2])
          ∧ s.ChangesOnly [.host, .laneA, .laneB, .config, .frame, .safety, .counters, .toRecorder, .eaves] u))
    ∧ (s.config.staged = none → s.config.commit = none →
      s.Commands (.stageDiscard r p) r 0x0132 p stConditions [] false [] fun u => u.config = s.config)
    ∧ (p.length = 8 → s.commitRefusal (BitVec.ofNat 32 (field p 0 4)) = stOk →
      s.Begins (.commit r p) r 0x0133 p [.config] fun n u => act u ∧ u.config.stagedBank = s.config.stagedBank
        ∧ u.config.commit = some { handle := n, expect := BitVec.ofNat 32 (field p 4 4), verA := .running, verB := .running,
                                   swapSet := false, swapped := false, swapFrame := 0 })
    ∧ (∀ i, u8 p 2 ≤ 1 → u8 p 3 = 0 → tableInfo? (u8 p 0) (u8 p 1) = some i →
      s.Begins (.tableRead r p) r 0x0134 p [.eaves] fun n u => u.config = s.config ∧ ∃ b ∈ u.host.bulks, b.handle = n
        ∧ b.toHost = true ∧ b.base = 0
        ∧ b.data = (if u8 p 2 = 0 then s.config.active else s.config.stagedBank).image i)
    ∧ (s.BeginsWhere (.firmwareStage r p) r 0x0140 p
        (fun n => ∀ h ∈ s.host.handles, h.opcode = 0x0140 → h.outstanding = true → h.number = n) [.eaves]
        fun n u => u.config = s.config ∧ ∃ b ∈ u.host.bulks, b.handle = n ∧ b.toHost = false ∧ b.data = [])
    ∧ (let f := s.config.firmware
       s.quiet = true → s.config.commit = none → f.staged ≠ [] → (∀ x ∈ f.stagedFormats, x.2 ≤ 1) →
       (f.safetyPart = true → s.safety.anyPermitOn = false) →
       s.Begins (.firmwareActivate r p) r 0x0141 p [.config, .rst] fun _ u => act u
        ∧ u.rst = { s.rst with swr := some (if f.safetyPart then 0 else 1, 0), swrAt := s.now }
        ∧ u.config.firmware.running = (f.running.zipIdx.map fun x => (assoc f.staged x.2).getD x.1)
        ∧ u.config.firmware.previous = f.running ∧ u.config.firmware.previousSlot = f.slot ∧ u.config.firmware.trial = true)
    ∧ (∀ part, s.config.firmware.trial = true → 0 < s.config.firmware.trialDue → s.config.firmware.trialDue ≤ now →
      s.Completes (.firmwareTrialExpiry t part) [.now, .time, .config, .toRecorder] fun u => act u
        ∧ u.config.firmware.running = s.config.firmware.previous ∧ u.config.firmware.trial = false ∧ s.Tells u 0x0106 [part])
    ∧ (∀ g, s.config.staged = some g → s.config.commit = none →
      (g.lastActivity + 600000000000 ≤ now →
        s.Completes (.stagedSetExpiry t) [.now, .time, .config, .frame, .safety, .counters, .toRecorder, .host, .eaves] fun u => act u
          ∧ u.config.staged = none ∧ ∃ e, u.toRecorder.getLast? = some e ∧ e.Says 0x0102 [3])
      ∧ (now < g.lastActivity + 600000000000 →
        s.Completes (.stagedSetExpiry t) [.now, .time] fun u => u.config = s.config))
    ∧ (∀ g x i es h, s.config.staged = some g → g.pieces = [x] → s.handle? x.handle = some h → h.outstanding = true →
      (s.bulkData x.handle).length = x.length → x.kind = 0 → tableInfo? x.unit x.table = some i →
      x.entries i (s.bulkData x.handle) = some es →
      (crc32c (s.bulkData x.handle) = x.crc → entriesFault (s.tick t) i x.first es = none →
        let bank := s.config.stagedBank.setTable x.unit x.table
          (es.zipIdx.foldl (fun t e => assocSet t (x.first + e.2) e.1) (s.config.stagedBank.table x.unit x.table))
        s.Completes (.stagePieceComplete t x.handle) [.now, .time, .config, .host, .eaves] fun u => act u
          ∧ u.config.stagedBank = bank ∧ u.config.staged = some { g with pieces := [] }
          ∧ ended u x.handle stOk (le 4 bank.digest.toNat))
      ∧ (crc32c (s.bulkData x.handle) ≠ x.crc → s.config.commit = none →
        s.Completes (.stagePieceComplete t x.handle)
          [.now, .time, .config, .frame, .safety, .counters, .toRecorder, .host, .eaves] fun u => act u
          ∧ u.config.staged = none ∧ u.config.stagedBank = s.config.stagedBank
          ∧ ended u x.handle stStagingRefused (le 1 x.unit ++ le 1 x.table ++ le 2 x.first ++ le 4 2)
          ∧ ∃ e, u.toRecorder.getLast? = some e ∧ e.Says 0x0102 [1]))
    ∧ (∀ g c, s.config.commit = some c → s.config.staged = some g → c.swapped = false → s.holders = [.a, .b] →
      c.verA = .running → c.verB = .running →
      let b := s.config.storeA.staged
      (s.Completes (.verificationComplete t .a true) [.now, .time, .config] fun u => act u
        ∧ u.config.commit = some { c with verA := .failed } ∧ u.config.staged = some g)
      ∧ (b.length ≤ 67108864 → b.verified ((s.tick t).withParams g.params) = true →
        (∀ x ∈ ((s.tick t).withParams g.params).crossChecks b, x.ok = true) →
        s.Completes (.verificationComplete t .a false) [.now, .time, .config, .laneA, .safety] fun u => act u
          ∧ u.config.commit = some { c with verA := .verified b.digest } ∧ u.config.staged = some g
          ∧ u.laneA.core.engine.stagedPrograms = b.programs
          ∧ u.laneA.core.engine.programs = s.laneA.core.engine.programs))
    ∧ (∀ g c h, s.config.commit = some c → s.config.staged = some g → c.swapped = false → s.holders = [.a] → c.verA = .running →
      g.pieces = [] → s.handle? c.handle = some h → h.outstanding = true →
      s.Completes (.verificationComplete t .a true)
        [.now, .time, .config, .frame, .safety, .counters, .toRecorder, .host, .eaves] fun u => act u
        ∧ u.config.staged = none ∧ u.config.commit = none ∧ ended u c.handle stStagingRefused []
        ∧ ∃ e, u.toRecorder.getLast? = some e ∧ e.Says 0x0102 [4])
    ∧ (∀ c h, s.config.commit = some c → c.swapped = true → s.handle? c.handle = some h → h.outstanding = true → h.opcode = 0x0133 →
      (s.Completes (.commitPersisted t true) [.now, .time, .config, .host, .eaves, .toRecorder] fun u => act u
        ∧ u.config.commit = none ∧ s.Tells u 0x0103 []
        ∧ ended u c.handle stOk (le 4 c.swapFrame.toNat ++ le 4 s.config.active.generation.toNat ++ le 4 s.config.active.digest.toNat)
        ∧ ∀ l ∈ s.holders, u.config.store l = (s.config.store l).persist s.config.active)
      ∧ s.Completes (.commitPersisted t false) [.now, .time, .config, .host, .eaves, .counters, .toRecorder] fun u => act u
        ∧ u.config.commit = none ∧ ended u c.handle stStorageFailed [] ∧ s.Counts u (ctrConfig 3))

/-- Events and trends become records in order, repeats count, yealms close, reach both devices, are frozen and exported (16_recorder.md, R25, R630, R631, R636, R637, R640, R642, R643, R644, R645, R649). -/
def Obligations.RecorderKeepsRecordsAndYealms : Prop :=
  ∀ (t : Nat) (s : State), s.unitHeld 0x40 = false →
    let k := s.recorder
    let now := max s.now t
    let ended (u : State) (n final : Nat) (result : List Byte) : Prop :=
      ∃ h, u.handle? n = some h ∧ h.stage = .complete ∧ h.final = final ∧ h.result = result
    let closed (u : State) (region cause : Nat) (rs : List Record) : Prop :=
      ∃ y, u.recorder.ram = k.ram ++ [y] ∧ y.region = region ∧ y.cause = cause ∧ y.records = rs ∧ y.yseq = k.nextYseq
        ∧ u.recorder.nextYseq = k.nextYseq + 1 ∧ (u.recorder.openOf region).records = []
        ∧ y.digest = sha256 y.signed ∧ y.prevDigest = k.newestDigest region
    (∀ e rest, s.toRecorder = e :: rest → e.kind = 0 → s.isIncident e.code.toNat = false →
      let x : Record :=
        { seq := k.nextSeq, code := e.code.toNat, opSeconds := k.opSeconds, powerCycles := k.powerCycles, taiS := e.taiS,
          taiNs := e.taiNs, tstatus := e.tstatus, repeats := 0, kind := 0, payload := e.payload, mono := e.mono }
      ((∀ r ∈ k.openEvents.records, sameEvent r e = false) → bodyLength k.openEvents.records + x.bytes.length ≤ bodyMax →
        (x.severity < 3 →
          s.Completes (.eventRecord t) [.now, .time, .toRecorder, .toHost, .recorder] fun u =>
            u.toRecorder = rest ∧ u.toHost = s.toHost ++ [e.forHost k.opSeconds k.nextSeq]
              ∧ u.recorder =
                ({ k with openEvents := { records := k.openEvents.records ++ [x] }, nextSeq := k.nextSeq + 1 } : Recorder).stamp)
        ∧ (3 ≤ x.severity → k.lost = false → k.lastGasp.length < 256 →
          s.Completes (.eventRecord t) [.now, .time, .toRecorder, .toHost, .recorder] fun u =>
            u.toRecorder = rest ∧ u.toHost = s.toHost ++ [e.forHost k.opSeconds k.nextSeq] ∧ u.recorder.nextSeq = k.nextSeq + 1
              ∧ closed u 0 2 (k.openEvents.records ++ [x]) ∧ u.recorder.lastGasp = k.lastGasp ++ [x]))
      ∧ ((∀ r ∈ k.openEvents.records, isRepeat r e = false) → (∃ r ∈ k.openEvents.records, sameEvent r e = true) →
        bodyLength k.openEvents.records + x.bytes.length ≤ bodyMax → x.severity < 3 →
        s.Completes (.eventRecord t) [.now, .time, .counters, .toRecorder, .toHost, .recorder] fun u =>
          s.Counts u (ctrRecorder 1)
            ∧ u.recorder =
                ({ k with openEvents := { records := k.openEvents.records ++ [x] }, nextSeq := k.nextSeq + 1 } : Recorder).stamp)
      ∧ (∀ pre r post, k.openEvents.records = pre ++ r :: post → isRepeat r e = true → (∀ q ∈ pre ++ post, isRepeat q e = false) →
        s.Completes (.eventRecord t) [.now, .time, .toRecorder, .recorder] fun u => u.toRecorder = rest
          ∧ r.repeats < 65535 ∧ u.recorder = { k with openEvents := { records := pre ++ { r with repeats := r.repeats + 1 } :: post } }))
    ∧ (∀ region r rs, region ≤ 1 → (k.openOf region).records = r :: rs →
      (r.mono + s.paramN 0x60010001 * 1000000 ≤ now → k.lost = false →
        s.Completes (.yealmAgeExpiry t region) [.now, .time, .recorder] fun u => closed u region 1 (r :: rs)
          ∧ u.recorder.openOf (1 - region) = k.openOf (1 - region) ∧ u.recorder.nextSeq = k.nextSeq)
      ∧ (now < r.mono + s.paramN 0x60010001 * 1000000 →
        s.Completes (.yealmAgeExpiry t region) [.now, .time] fun u => u.recorder = k))
    ∧ (∀ p, k.powerFail = false → k.trendSample = some p → p.length ≤ 248 → s.trendIndex ≠ k.trendAt →
      bodyLength k.openTrends.records + 300 ≤ bodyMax →
      s.Completes (.trendRecord t) [.now, .time, .recorder] fun u => u.recorder.trendAt = s.trendIndex
        ∧ u.recorder.trendSample = none ∧ u.recorder.nextSeq = k.nextSeq + 1
        ∧ u.recorder.openEvents = k.openEvents ∧ ∃ y, u.recorder.openTrends = { records := k.openTrends.records ++ [y] }
            ∧ y.seq = k.nextSeq ∧ y.kind = 1 ∧ y.payload = p)
    ∧ (∀ y rest, k.ram = y :: rest → k.devA.st = .inService → k.devB.st = .inService →
      (s.Completes (.yealmWriteComplete t none none) [.now, .time, .recorder, .host, .eaves] fun u =>
        u.recorder.ram = rest ∧ u.recorder.devA = k.devA.put k.copying y ∧ u.recorder.devB = k.devB.put k.copying y
          ∧ (y.region = 0 → u.recorder.digestE = y.digest) ∧ (y.region = 1 → u.recorder.digestT = y.digest))
      ∧ ∀ c, s.Completes (.yealmWriteComplete t (some c) none) [.now, .time, .recorder, .host, .eaves, .counters, .toRecorder] fun u =>
        u.recorder.ram = rest ∧ u.recorder.devA = { k.devA with st := .retired, cause := c } ∧ u.recorder.devB = k.devB.put k.copying y
          ∧ (c = 3 → s.Counts u (ctrRecorder 3)) ∧ (c ≠ 3 → u.counters = s.counters) ∧ ∃ e ∈ u.toRecorder, e.Says 0x6002 [0, c])
    ∧ (∀ d asked, d ≤ 1 → asked + 100000000 ≤ now → (k.dev d).st = .inService → (k.dev (1 - d)).st = .inService →
      s.Completes (.nandTimeout t d asked) [.now, .time, .recorder, .toRecorder] fun u =>
        u.recorder.dev d = { k.dev d with st := .retired, cause := 4 } ∧ u.recorder.dev (1 - d) = k.dev (1 - d)
          ∧ ∃ e ∈ u.toRecorder, e.Says 0x6002 [d, 4])
    ∧ (∀ d asked, d ≤ 1 → asked + 100000000 ≤ now → (k.dev d).st = .inService → (k.dev (1 - d)).st = .retired →
      s.Completes (.nandTimeout t d asked) [.now, .time, .recorder, .toRecorder] fun u =>
        u.recorder.lost = true ∧ ∃ e, u.toRecorder.getLast? = some e
          ∧ e.Says 0x6001 [u.recorder.devA.cause, u.recorder.devB.cause])
    ∧ (∀ ops seq, k.copying = some (ops, seq) → s.Completes (.freezeCopyComplete t) [.now, .time, .recorder] fun u =>
        u.recorder.copying = none ∧ u.recorder.freezeLocked = true
          ∧ u.recorder.devA.events = k.devA.events ∧ u.recorder.devB.events = k.devB.events
          ∧ (k.devA.st = .inService → ∀ y ∈ u.recorder.devA.freeze, (y ∈ k.stored ∨ y ∈ k.ram) ∧ ops ≤ y.opsLast + 600 ∧ y.seqs.1 ≤ seq))
    ∧ (∀ temp,
      (k.opAt + 1000000000 ≤ now → s.Completes (.operatingSecond t temp) [.now, .time, .recorder, .baseTemp] fun u =>
        u.baseTemp = temp ∧ u.recorder = ({ k with
          opSeconds := if k.opSeconds = 0xFFFFFFFF#32 then 0xFFFFFFFF#32 else k.opSeconds + 1
          opAt := k.opAt + 1000000000 } : Recorder).stamp)
      ∧ (now < k.opAt + 1000000000 → s.Completes (.operatingSecond t temp) [.now, .time, .baseTemp] fun u =>
        u.baseTemp = temp ∧ u.recorder = k))
    ∧ ((k.framNext = 0 → k.stamp = { k with fram0 := k.block, framNext := 1 })
        ∧ (k.framNext ≠ 0 → k.stamp = { k with fram1 := k.block, framNext := 0 })
        ∧ k.block = { opSeconds := k.opSeconds, powerCycles := k.powerCycles, nextSeq := k.nextSeq, nextYseq := k.nextYseq,
                      stA := k.devA.st, stB := k.devB.st })
    ∧ (∀ h d r, k.returning = some (h, d) → d ≤ 1 → (k.dev d).st = .returning → s.handle? h = some r → r.outstanding = true →
      s.eaves.link0.up = true → (s.host.handles.filter fun h => !h.outstanding).length < 256 →
      ((k.dev (1 - d)).st = .inService →
        s.Completes (.nandReturnComplete t true) [.now, .time, .recorder, .host, .eaves, .toRecorder] fun u =>
          (u.recorder.dev d).st = .inService ∧ (u.recorder.dev d).events = (k.dev (1 - d)).events
            ∧ (u.recorder.dev d).trends = (k.dev (1 - d)).trends ∧ (u.recorder.dev d).freeze = (k.dev (1 - d)).freeze
            ∧ u.recorder.returning = none
            ∧ ended u h stOk [] ∧ s.Tells u 0x6003 [d])
      ∧ s.Completes (.nandReturnComplete t false) [.now, .time, .recorder, .host, .eaves] fun u =>
          (u.recorder.dev d).st = .retired ∧ u.recorder.returning = none ∧ ended u h stTestFailed [])
    ∧ (∀ h region ys n skipped r b, k.exports = [(h, region, ys, n)] → s.handle? h = some r → r.outstanding = true →
      s.eaves.link0.up = true → (s.host.handles.filter fun h => !h.outstanding).length < 256 →
      s.bulk? h = some b → b.running = true →
      s.Completes (.recExportComplete t h skipped) [.now, .time, .recorder, .host, .eaves, .counters, .toRecorder] fun u =>
        u.recorder = { k with exports := [] } ∧ (∃ e, u.toRecorder.getLast? = some e ∧ e.Says 0x6008 [])
          ∧ ended u h stOk (le 4 (ys.length - skipped) ++ le 4 skipped ++ le 8 ((ys.head?.map (·.yseq)).getD 0)
              ++ le 8 ((ys.getLast?.map (·.yseq)).getD 0) ++ le 4 (chainBreaks ys)))

/-- A reset source holds what its level reaches; released, the bring-up follows; option load and bring-up end as the rules say (17_reset_startup_power.md, R61, R62, R653, R654, R655, R656, R660, R661, R662, R664, R666). -/
def Obligations.ResetsHoldAndRelease : Prop :=
  ∀ (c : ResetCause) (i : Instr) (t : Nat) (s : State),
    let now := max s.now t
    (∀ ns, c = .pin ns → s.rst.pinStuck = false ∧ 12000 ≤ ns) → (∀ k, c = .clock k → k ≤ 17) →
    (c = .software → s.rst.swr.isSome = true ∧ s.rst.swrAt + 20000000 ≤ now) →
    (∀ l, c = .laneWatchdog l → (s.lane l).inReset = false) → s.rst.badWindows.length = 19 →
    i = .resetSourceAssert t c ∨ (∃ a, c = .hostWatchdog ∧ i = .hostWatchdogExpiry t a ∧ a + 2000000000 ≤ now)
      ∨ (∃ l a, c = .laneWatchdog l ∧ i = .laneWatchdogExpiry t l a ∧ a + 3 * s.frame.period * 1000000 ≤ now)
      ∨ (∃ p a, c = .lockup p ∧ i = .lockupDetect t p a ∧ a + 10000000 ≤ now)
      ∨ (c = .software ∧ i = .softwareResetAssert t) →
    let x := s.sourceOf c
    let alone : Bool := c.hostSide && s.bothLinksDown
    let warmFields : List StateField :=
      [.now, .counters, .toRecorder, .toHost, .frame, .purlin, .gnss, .time, .host, .eaves, .config, .laneA, .laneB, .ridge, .out,
       .peer, .fio, .buses, .recorder, .rst, .memory, .security]
    let held (u : State) (reach : Nat) : Prop :=
      u.rst.asserted = s.rst.asserted ++ [x] ∧ u.rst.up = .held reach
        ∧ u.laneA = { Lane.reset with inReset := true } ∧ u.laneB = { Lane.reset with inReset := true }
        ∧ u.host = s.host.restarted ∧ u.frame = .reset ∧ u.ridge = .reset ∧ u.fio.inReset = true ∧ u.toHost = []
        ∧ u.config.active = s.config.active ∧ u.config.staged = none
        ∧ ∃ e, u.rst.episode = some e ∧ e.sources = 2 ^ c.bit ∧ e.level = x.level ∧ (e.storm = true ↔ 8 ≤ s.recentStarts.length)
            ∧ u.rst.starts = s.recorder.opSeconds.toNat :: s.recentStarts
    (s.rst.up = .up → s.power.pfSince = none → alone = false → s.rst.episode = none → s.rst.unitEpisodes = [] →
      (x.level = 1 → (∀ b, c ≠ .bor b) → c ≠ .por →
        s.Completes i warmFields fun u => held u 1 ∧ (∀ n, 1 ≤ n → n ≤ 3 → u.time.src n = .reset) ∧ u.recorder.ram = s.recorder.ram ∧ u.rst.options = s.rst.options)
      ∧ (x.level = 0 → c ≠ .bor true → c ≠ .por →
        s.Completes i (.safety :: warmFields) fun u => held u 0 ∧ u.recorder.ram = [] ∧ u.safety.su ≠ .run
          ∧ (∀ k : Chan, ∀ p ∈ (u.safety.chan k).permits, p.on = false) ∧ u.now = now)
      ∧ (c = .por ∨ c = .bor true →
        s.Completes i (.safety :: .power :: warmFields) fun u => held u 0 ∧ u.recorder.ram = [] ∧ u.now = 0 ∧ u.time = TimeUnit.reset)
      ∧ (∀ l : LaneId, x.level = 2 → x.target = l.code → (s.lane l).excluded = false → s.namesOther l = false →
        s.Completes i [.now, .time, .rst, .laneA, .laneB, .ridge, .eaves] fun u => u.rst.asserted = s.rst.asserted ++ [x]
          ∧ u.lane l = (s.lane l).held_ ∧ u.lane l.other = s.lane l.other ∧ bit u.ridge.decision l.code = true
          ∧ (if l = .a then u.ridge.causeA else u.ridge.causeB) = 4
          ∧ ∃ e, u.rst.unitEpisodes = [e] ∧ e.sources = 2 ^ c.bit ∧ e.level = 2 ∧ e.target = l.code)
      ∧ (x.level = 3 → (∀ h ∈ s.host.handles, h.outstanding = false) →
        let unit (u : State) : Prop := u.rst.asserted = s.rst.asserted ++ [x] ∧ x.target ∈ u.rst.unitsDown
        (x.target = 0x21 → s.Completes i [.now, .time, .rst, .fio, .eaves] fun u => unit u ∧ u.fio = s.fio.held)
        ∧ (x.target = 0x40 → s.Completes i [.now, .time, .rst, .recorder, .eaves] fun u => unit u ∧ u.recorder = s.recorder.held)
        ∧ (x.target = 0x80 → s.Completes i [.now, .time, .rst, .host, .eaves, .toHost] fun u => unit u
            ∧ u.host.sessions = [] ∧ u.host.handles = [] ∧ u.host.users = s.host.users ∧ u.toHost = [])))
    ∧ (s.rst.up = .up → s.power.pfSince.isSome = true → 1 ≤ x.level →
      s.Completes i [.now, .time, .rst, .toRecorder] fun u =>
        u.rst = { s.rst with held := s.rst.held ++ [(x, false)], pinAt := u.rst.pinAt }
        ∧ s.Tells u 0x900C [x.bit, x.level])
    ∧ (s.rst.up = .off → s.Completes i [.now, .time, .rst] fun u =>
        u.rst = { s.rst with
          episode := s.rst.episode.map fun e => { e with sources := e.sources ||| 2 ^ x.bit }
          pinAt := u.rst.pinAt })
    ∧ (s.rst.up = .up → s.power.pfSince = none → alone = true →
      s.Completes i [.now, .time, .rst, .host, .eaves, .toHost] fun u => u.rst.lateHost = s.rst.lateHost ++ [x.bit]
        ∧ u.rst.asserted = s.rst.asserted ∧ 0x80 ∈ u.rst.unitsDown ∧ u.host.sessions = [])
    ∧ (∀ ns, s.rst.pinStuck = false → ns < 12000 →
      (ns < 10000 → s.Completes (.resetSourceAssert t (.pin ns)) [.now, .time, .counters, .toRecorder] fun u => s.Counts u (ctrReset 17))
      ∧ (10000 ≤ ns → s.rst.up = .off → s.Completes (.resetSourceAssert t (.pin ns)) [.now, .time, .freeCtr, .counters, .toRecorder, .rst]
          fun u => s.Counts u (ctrReset 17) ∨ (u.counters = s.counters
            ∧ u.rst = { s.rst with
              episode := s.rst.episode.map fun e => { e with sources := e.sources ||| 4 }
              pinAt := now })))
    ∧ (∀ k n, k ≤ 18 → k ≠ 15 → k ≠ 16 →
      (badWindow k n = true → s.rst.badWindows.getD k 0 = 0 →
        s.Completes (.clockMonitorWindow t k n) [.now, .time, .rst] fun u =>
          u.rst = { s.rst with badWindows := setAt s.rst.badWindows k fun _ => 1 } ∧ u.rst.badWindows.getD k 0 = 1)
      ∧ (badWindow k n = true → s.rst.badWindows.getD k 0 = 1 → s.rst.up = .off →
        s.Completes (.clockMonitorWindow t k n) [.now, .time, .rst] fun u => u.rst.badWindows.getD k 0 = 2
          ∧ u.rst.episode = s.rst.episode.map fun e => { e with sources := e.sources ||| 256 })
      ∧ (badWindow k n = false → s.rst.up = .up → s.rst.unitEpisodes = [] → (∀ y ∈ s.rst.asserted, y.bit ≠ 8) →
        s.Completes (.clockMonitorWindow t k n) [.now, .time, .rst] fun u => u.rst.badWindows.getD k 0 = 0
          ∧ u.rst.asserted = s.rst.asserted ∧ u.rst.up = .up))
    ∧ (∀ k e, s.rst.up = .held k → s.rst.asserted = [x] → s.rst.episode = some e → s.rst.unitEpisodes = [] → s.rst.bringup ≠ 1 →
      c ≠ .por → c ≠ .bor true →
      let ends (j : Instr) (h : ResetEpisode) (code : Option Nat) : Prop :=
        s.Completes j [.now, .time, .rst, .config, .counters, .toRecorder] fun u => u.rst.asserted = [] ∧ u.rst.episode = none
          ∧ u.rst.up = .bringup k (k = 0) ∧ u.rst.bringup = (if e.storm then 2 else 0)
          ∧ u.rst.history.head? = some { h with phase := k, copyUsed := s.rst.options.copyUsed, failedReads := 0 }
          ∧ u.config = { s.config with firmware.trialDue := now + 10000000000 }
          ∧ ∀ w, code = some w → ∃ v, u.toRecorder.getLast? = some v ∧ v.Says w []
      ends (.resetSourceRelease t c none []) e (if e.storm then some 0x9005 else none)
      ∧ (x.bit = 2 → s.rst.pinAt + 30000000000 ≤ now → ends (.pinStuck t) (if bit e.sources 2 then { e with pinStuck := true } else e) (some 0x900B)))
    ∧ (∀ image, s.rst.up = .bringup 0 true →
      let fails := s.rst.options.failedReads
      let good : Prop := image.length = 4096 ∧ u16 image 0 = 0x0F7A ∧ u32 image 4 = 4096 ∧ crcOk image 4092 = true
      let copy := if fails < 3 then 0 else 1
      (good → s.Completes (.optionLoadComplete t image) [.now, .time, .rst, .safety, .toRecorder] fun u => u.rst.up = .bringup 0 false
        ∧ u.rst.options = Options.of image copy fails ∧ u.rst.bringup = s.rst.bringup ∧ u.time.warming = true
        ∧ u.safety.serialX = decide (field image 8 8 = s.safety.storedX) ∧ u.safety.serialY = decide (field image 8 8 = s.safety.storedY)
        ∧ (copy = 1 → s.Tells u 0x9003 []) ∧ (copy = 0 → u.toRecorder = s.toRecorder))
      ∧ (¬ good → fails < 5 → s.Completes (.optionLoadComplete t image) [.now, .time, .rst, .counters, .toRecorder] fun u =>
          u.rst = { s.rst with options.failedReads := fails + 1 } ∧ s.Counts u (ctrReset 16))
      ∧ (¬ good → fails = 5 → s.Completes (.optionLoadComplete t image) [.now, .time, .rst, .safety, .counters, .toRecorder] fun u =>
          u.rst.up = .bringup 0 false ∧ u.rst.bringup = 1 ∧ u.rst.options = { Options.reset with copyUsed := 2, failedReads := 6 }
          ∧ u.safety.serialX = false ∧ u.safety.serialY = false ∧ s.Counts u (ctrReset 16)
          ∧ ∃ v, u.toRecorder.getLast? = some v ∧ v.Says 0x9004 []))
    ∧ (∀ k km bad fram wrong, s.rst.up = .bringup k false → (∀ y ∈ s.rst.asserted, 2 ≤ y.level) →
      let maintenance : Prop :=
        s.rst.bringup ≠ 0 ∨ 1 ∈ s.rst.bootFailed ∨ s.security.unprovisioned = true ∨ s.security.debugStep = 3
      s.Completes (.bringupComplete t 0 km bad fram wrong)
        [.now, .freeCtr, .counters, .params, .toRecorder, .frame, .gnss, .time, .host, .config, .laneA, .laneB, .peer, .fio, .buses, .recorder,
         .rst, .memory, .security] fun u => u.rst.up = .up ∧ u.frame.number = 0
          ∧ ((∀ y ∈ s.rst.asserted, y.target ≠ 0x21) → u.fio.inReset = false)
          ∧ (maintenance → u.laneA.core.ctl.mode = .maintenance ∧ u.laneB.core.ctl.mode = .maintenance)
          ∧ (¬ maintenance → u.laneA.core.ctl.mode = .standby ∧ u.laneB.core.ctl.mode = .standby)
          ∧ ∃ v ∈ u.toRecorder, (v.code = (if (s.lastEpisode k 0).sources &&& 0x33A = 0 then 0x9001#16 else 0x9002#16)))
    ∧ (∀ km bad fram wrong t0, s.rst.up = .up → 0x21 ∈ s.rst.unitsDown →
      assoc s.rst.released 0x21 = some t0 → t0 + 20000000 ≤ now → (∀ y ∈ s.rst.asserted, y.target ≠ 0x21) →
      s.Completes (.bringupComplete t 0x21 km bad fram wrong) [.now, .time, .rst, .fio, .toRecorder] fun u =>
        u.rst.unitsDown = (s.rst.unitsDown.filter fun y => y ≠ 0x21) ∧ u.fio.inReset = false)

/-- Power inputs, the bank, the power-fail sequence, memory errors, the march, debug erasure, tampering and random sources act (17_reset_startup_power.md, 18_memory_security.md, 16_recorder.md, R647, R671, R675, R676, R678, R684, R689, R694, R696). -/
def Obligations.PowerMemoryAndSecurityEventsAct : Prop :=
  ∀ (t : Nat) (s : State),
    let now := max s.now t
    let q := s.power
    let wait (i : Instr) : Prop := s.Completes i [.now, .time] fun _ => True
    (∀ x : InputState, ∀ v d, (3400 < v → 1000000 ≤ d → x.at v d = .overvoltage)
      ∧ (v < 1600 → x ≠ .overvoltage → 5000000 ≤ d → x.at v d = .failed)
      ∧ (1600 ≤ v → v < 1800 → x = .ok → 10000000 ≤ d → x.at v d = .low)
      ∧ (1850 ≤ v → v ≤ 3400 → x = .low → 100000000 ≤ d → x.at v d = .ok)
      ∧ (1600 ≤ v → v < 1850 → x = .low → x.at v d = .low) ∧ (1800 ≤ v → v ≤ 3400 → x = .ok → x.at v d = .ok)
      ∧ (1800 ≤ v → v ≤ 3400 → x = .failed → 20000000 ≤ d → x.at v d = .ok)
      ∧ (v < 3300 → x = .overvoltage → 100000000 ≤ d → x.at v d = .ok) ∧ (d < 1000000 → x.at v d = x))
    ∧ (∀ k v d, k ≤ 1 →
      let old := if k = 0 then q.inA else q.inB
      let new := old.at v d
      let since (was : Option Nat) : Option Nat :=
        if new = .overvoltage ∨ v < 1600 then some (min (was.getD now) (now - d)) else none
      let q1 := if k = 0 then { q with inA := new, voltsA := v, downA := since q.downA }
        else { q with inB := new, voltsB := v, downB := since q.downB }
      (new = old → s.Completes (.powerInputState t k v d) [.now, .time, .power] fun u => u.power = q1)
      ∧ (new ≠ old → (q.pfSince = none ∨ new ≠ .ok ∨ ∃ t0, q.pfSince = some t0 ∧ t0 + 200000000 ≤ now) →
        s.Completes (.powerInputState t k v d) [.now, .time, .power, .toRecorder] fun u => u.power = q1 ∧ s.Tells u 0x9006 [k, new.code])
      ∧ (∀ t0, new ≠ old → new = .ok → q.pfSince = some t0 → now < t0 + 200000000 → s.rst.held = [] →
        s.Completes (.powerInputState t k v d) [.now, .time, .power, .toRecorder, .recorder, .rst] fun u => u.power.pfSince = none
          ∧ u.power.charger = true ∧ u.recorder = { s.recorder with powerFail := false } ∧ u.rst = s.rst
          ∧ ∃ e, u.toRecorder.getLast? = some e ∧ e.Says 0x9008 []))
    ∧ (∀ a b, q.pfSince = none → s.rst.up ≠ .off → q.downA = some a → q.downB = some b → a + 5000000 ≤ now → b + 5000000 ≤ now →
      let pf (u : State) : Prop :=
        u.power = { q with pfSince := some now, charger := false, bank := .discharging } ∧ u.recorder.powerFail = true
          ∧ u.recorder.openEvents.records = [] ∧ u.recorder.openTrends.records = []
          ∧ ∃ e, u.toRecorder.getLast? = some e ∧ e.Says 0x9007 []
      (s.security.debugStep ≠ 1 → s.Completes (.powerFailDeclared t)
        [.now, .time, .power, .toRecorder, .recorder, .rst, .counters, .fio] pf)
      ∧ (s.security.debugStep = 1 → s.security.debugHandle = none → now < s.security.debugAt + 150000000 →
        s.Completes (.powerFailDeclared t) [.now, .time, .power, .toRecorder, .recorder, .rst, .counters, .security, .fio] fun u =>
          pf u ∧ u.security = { s.security with debugStep := 0 }))
    ∧ (∀ t0, q.pfSince = some t0 →
      (t0 + 200000000 ≤ now → q.pfStopped = false →
        s.Completes (.powerFailOutputStop t) [.now, .time, .power, .toRecorder, .out, .peer, .fio] fun u =>
          u.power = { q with pfStopped := true } ∧ u.fio.inhibit = true
            ∧ (∀ c, 1 ≤ c → c ≤ 32 → s.dioDir c = 2 → (u.dio c).cmd = false)
            ∧ (s.peerEnabled = true → s.peer.duty = .duty → u.peer.duty = .release ∧ s.Tells u 0x7101 [2]))
      ∧ (now < t0 + 200000000 → wait (.powerFailOutputStop t))
      ∧ (t0 + 230000000 ≤ now → s.Completes (.powerFailFinalYealm t) [.now, .time, .toRecorder, .recorder, .counters] fun u =>
          u.recorder.openEvents.records = [] ∧ u.recorder.openTrends = s.recorder.openTrends)
      ∧ (now < t0 + 230000000 → wait (.powerFailFinalYealm t)) ∧ (now < t0 + 250000000 → wait (.orderlyShutdown t))
      ∧ ∀ i, (i = .orderlyShutdown t ∧ t0 + 250000000 ≤ now) ∨ i = .bankReachesVbm t →
        s.Completes i
          [.now, .counters, .toRecorder, .toHost, .frame, .purlin, .gnss, .time, .host, .eaves, .config, .laneA, .laneB, .ridge,
           .out, .peer, .safety, .fio, .buses, .recorder, .rst, .power, .memory, .security] fun u =>
          u.rst.up = .off ∧ u.rst.asserted.map (·.bit) = [0] ∧ u.power.pfSince = none ∧ u.power.charger = false ∧ u.safety.su ≠ .run
            ∧ (∀ k : Chan, ∀ p ∈ (u.safety.chan k).permits, p.on = false) ∧ u.recorder.ram = [] ∧ u.host.sessions = []
            ∧ u.laneA.inReset = true ∧ u.laneB.inReset = true
            ∧ (s.security.debugStep = 1 → u.security.unprovisioned = true ∧ u.security.keyHeld = false ∧ u.security.deviceKey = false))
    ∧ (q.pfSince = none → s.Completes (.bankReachesVbm t) [.now, .time, .power] fun u => u.power = { q with bankVolts := 900 })
    ∧ (∀ v, s.Completes (.bankReady t v) [.now, .time, .power] fun u =>
        u.power = { q with bankVolts := v, bank := if 2600 ≤ v ∧ q.charger = true ∧ q.bank = .charging then .ready else q.bank })
    ∧ (∀ uc, (q.pfSince.isSome = true → wait (.bankCapacityTest t uc true))
      ∧ (q.pfSince = none → q.bank = .ready → q.capFault = false → q.chargerFault = false →
        q.testAt + s.paramN 0x90010004 * 3600 ≤ s.recorder.opSeconds.toNat →
        let low : Bool := decide (uc * 324 < 24000000)
        let bad : Bool := decide (uc * 324 < 15500000)
        s.Completes (.bankCapacityTest t uc true) [.now, .time, .power, .toRecorder] fun u =>
          u.power = { q with testAt := s.recorder.opSeconds.toNat, bankUf := uc, bankCap := min 255 (uc * 324 / 1000000), holdupLow := low,
                             capFault := bad, chargerFault := false, bank := if bad then .fault else .ready }
            ∧ (bad = true → ∃ e, u.toRecorder.getLast? = some e ∧ e.Says 0x900A [1])
            ∧ (bad = false → low ≠ q.holdupLow → s.Tells u 0x9009 [if low then 1 else 0])))
    ∧ (s.Completes (.chargerFault t) [.now, .time, .power, .toRecorder] fun u =>
        u.power = { q with chargerFault := true, bank := .fault } ∧ (q.capFault = false → q.chargerFault = false → s.Tells u 0x900A [1]))
    ∧ (∀ m a, 2 ≤ m → m ≤ 0x11 → m ≠ 0x0F → s.rst.up = .up → s.rst.unitsDown = [] → s.memory.mems.length = 18 →
      let sec := s.recorder.opSeconds.toNat
      let recent := (sec :: (s.mem m).recent).filter fun x => sec < x + 86400
      let spoils (j : Nat) (v : MemVictim) (fields : List StateField) (P : State → Prop) : Prop :=
        m = j → s.Completes (.memoryPatrol t m (.uncorrectable a) v false) ([.now, .time, .counters, .memory, .toRecorder] ++ fields)
          fun u => P u ∧ (u.mem m).uncorrectable = true ∧ (u.mem m).lastAddr = a ∧ s.Counts u (ctrMemory 1 m)
            ∧ ∃ e, u.toRecorder.getLast? = some e ∧ e.Says 0xA002 [m, a % 4294967296, a / 4294967296]
      (∀ v done, s.Completes (.memoryPatrol t m .clean v done) [.now, .time, .counters, .toRecorder] fun u =>
        u.counters = (if done then (s.count (ctrMemory 2 m)).counters else s.counters))
      ∧ (∀ v, s.Completes (.memoryPatrol t m (.corrected a) v false) [.now, .time, .counters, .memory, .toRecorder] fun u =>
          (u.mem m).corrected = true ∧ (u.mem m).lastAddr = a ∧ s.Counts u (ctrMemory 0 m)
            ∧ (16 < recent.length → (∀ x, (s.mem m).toldAt = some x → x + 86400 ≤ sec) → (u.mem m).toldAt = some sec
                ∧ ∃ e, u.toRecorder.getLast? = some e ∧ e.Says 0xA003 [m])
            ∧ (recent.length ≤ 16 → (u.mem m).toldAt = (s.mem m).toldAt))
      ∧ (∀ k, spoils 0x0D (.yealm k) [.recorder] fun u => u.recorder = { s.recorder with ram := s.recorder.ram.eraseIdx k })
      ∧ (∀ v, spoils 0x02 v [.rst] fun u => u.rst = { s.rst with unitsDown := [0x80] })
      ∧ (∀ v, s.laneA.excluded = false → s.ridge.health ≠ .degraded → spoils 0x03 v [.laneA, .ridge] fun u =>
          bit u.ridge.decision 0 = true ∧ u.ridge.causeA = 5)
      ∧ spoils 0x09 .none [.frame] (fun u => u.frame = { s.frame with corrupt := true }))
    ∧ (∀ f : Option (Nat × Nat), s.memory.march.isSome = true → s.rst.up = .up → q.pfSince = none →
      s.Completes (.memoryMarchComplete t f)
        [.now, .counters, .toRecorder, .toHost, .frame, .purlin, .gnss, .time, .host, .eaves, .config, .laneA, .laneB, .ridge, .out,
         .peer, .fio, .buses, .recorder, .rst, .memory, .security] fun u => u.memory.march = none
          ∧ u.memory.marchResult = (if f = none then 1 else 2) ∧ (u.memory.marchMem, u.memory.marchAddr) = f.getD (0xFF, 0)
          ∧ u.memory.marchTold = false ∧ u.rst.up = .held 1)
    ∧ (s.security.debugStep = 1 → s.security.debugAt + 150000000 ≤ now →
      let erased : SecurityUnit := { s.security with keyHeld := false, deviceKey := false, unprovisioned := true }
      (s.Completes (.debugEraseComplete t true) [.now, .time, .host, .security] fun u =>
        u.security = { erased with debugStep := 2 } ∧ u.host = { s.host with users := [] })
      ∧ (s.security.debugHandle = none →
        s.Completes (.debugEraseComplete t false) [.now, .time, .freeCtr, .host, .security] fun u =>
          u.security.unprovisioned = true ∧ u.security.debugStep = 0))
    ∧ (s.security.debugStep = 2 → s.rst.up = .up → q.pfSince = none → s.bothLinksDown = false → bits s.rst.fuses 11 10 = 0 →
      (now < s.security.debugAt + 420000000 → wait (.debugResetAssert t))
      ∧ (s.security.debugAt + 420000000 ≤ now → s.Completes (.debugResetAssert t)
        [.now, .counters, .toRecorder, .toHost, .frame, .purlin, .gnss, .time, .host, .eaves, .config, .laneA, .laneB, .ridge, .out,
         .peer, .fio, .buses, .recorder, .rst, .memory, .security] fun u =>
          u.rst.up = .held 1 ∧ u.security.debugStep = 3 ∧ (u.rst.asserted.getLast?.map (·.bit)) = some 7))
    ∧ (wait (.tamperOpen t false))
    ∧ (s.Completes (.tamperOpen t true) [.now, .time, .host, .security] fun u => u.security.keyHeld = false ∧ u.security.deviceKey = false
        ∧ u.security.tamper = true ∧ (s.rst.up ≠ .off → u.host = { s.host with users := [] })
        ∧ (s.rst.up = .off → u.security.hostErase = true ∧ u.host = s.host))
    ∧ ∀ k, k ≤ 1 → s.Completes (.randomSourceFailure t k) [.now, .time, .security, .toRecorder] fun u =>
        (if k = 0 then u.security.fieldRandom else u.security.hostRandom) = false ∧ s.Tells u 0xA106 [k]

/-- Every step keeps the permits of both safety channels off while the safety unit is not in RUN (10_safety_functions.md, R414, R415, R416, R430, R432, R438). -/
def Obligations.PermitsStayOffOutsideRun : Prop :=
  State.reset.PermitsSafe ∧ ∀ s u : State, s.PermitsSafe → step s = .next u → u.PermitsSafe
end

