-- ==== Sys2Proof/Laws/Bytes.lean ====
section
/-!
SUPPORT. Little-endian fields read back what was written, and a CRC put behind its bytes is right.
-/

namespace Sys2Proof.Machine

theorem length_le (n v : Nat) : (le n v).length = n := by
  induction n generalizing v with
  | zero => rfl
  | succ n ih => simp [le, ih]

/-- A field of n bytes holds a value modulo 256^n. -/
theorem ofLe_le (n v : Nat) : ofLe (le n v) = v % 256 ^ n := by
  induction n generalizing v with
  | zero => simp [le, ofLe, Nat.mod_one]
  | succ n ih =>
    simp only [le, ofLe, ih, BitVec.toNat_ofNat]
    rw [Nat.mod_mod, Nat.pow_succ, Nat.mul_comm (256 ^ n) 256, Nat.mod_mul]

/-- The bytes behind others. -/
theorem slice_append (d e : List Byte) : slice (d ++ e) d.length e.length = e := by
  unfold slice
  apply List.ext_getElem
  · simp
  · intro i h1 h2
    simp at h1
    simp [h1]

/-- A CRC put behind the bytes it covers passes its check. -/
theorem crcOk_append (d : List Byte) : crcOk (d ++ le 4 (crc32c d).toNat) d.length = true := by
  have h := slice_append d (le 4 (crc32c d).toNat)
  rw [length_le] at h
  have hb := (crc32c d).isLt
  simp only [crcOk, u32, field, h, ofLe_le, List.take_left', decide_eq_true_eq]
  omega

end Sys2Proof.Machine
end

