-- ==== Sys2Proof/Laws/State.lean ====
section
/-!
SUPPORT. What each shared update of the state leaves alone, field by field: monotonic time, records, events, counters, samples and
free values.
-/

namespace Sys2Proof.Machine

@[simp] theorem State.tick_freeCtr (s : State) (t : Nat) : (s.tick t).freeCtr = s.freeCtr := rfl
@[simp] theorem State.tick_counters (s : State) (t : Nat) : (s.tick t).counters = s.counters := rfl
@[simp] theorem State.tick_params (s : State) (t : Nat) : (s.tick t).params = s.params := rfl
@[simp] theorem State.tick_toRecorder (s : State) (t : Nat) : (s.tick t).toRecorder = s.toRecorder := rfl
@[simp] theorem State.tick_toHost (s : State) (t : Nat) : (s.tick t).toHost = s.toHost := rfl
@[simp] theorem State.tick_frame (s : State) (t : Nat) : (s.tick t).frame = s.frame := rfl
@[simp] theorem State.tick_purlin (s : State) (t : Nat) : (s.tick t).purlin = s.purlin := rfl
@[simp] theorem State.tick_gnss (s : State) (t : Nat) : (s.tick t).gnss = s.gnss := rfl
@[simp] theorem State.tick_host (s : State) (t : Nat) : (s.tick t).host = s.host := rfl
@[simp] theorem State.tick_eaves (s : State) (t : Nat) : (s.tick t).eaves = s.eaves := rfl
@[simp] theorem State.tick_config (s : State) (t : Nat) : (s.tick t).config = s.config := rfl
@[simp] theorem State.tick_laneA (s : State) (t : Nat) : (s.tick t).laneA = s.laneA := rfl
@[simp] theorem State.tick_laneB (s : State) (t : Nat) : (s.tick t).laneB = s.laneB := rfl
@[simp] theorem State.tick_ridge (s : State) (t : Nat) : (s.tick t).ridge = s.ridge := rfl
@[simp] theorem State.tick_out (s : State) (t : Nat) : (s.tick t).out = s.out := rfl
@[simp] theorem State.tick_peer (s : State) (t : Nat) : (s.tick t).peer = s.peer := rfl
@[simp] theorem State.tick_safety (s : State) (t : Nat) : (s.tick t).safety = s.safety := rfl
@[simp] theorem State.tick_fio (s : State) (t : Nat) : (s.tick t).fio = s.fio := rfl
@[simp] theorem State.tick_buses (s : State) (t : Nat) : (s.tick t).buses = s.buses := rfl
@[simp] theorem State.tick_recorder (s : State) (t : Nat) : (s.tick t).recorder = s.recorder := rfl
@[simp] theorem State.tick_rst (s : State) (t : Nat) : (s.tick t).rst = s.rst := rfl
@[simp] theorem State.tick_power (s : State) (t : Nat) : (s.tick t).power = s.power := rfl
@[simp] theorem State.tick_memory (s : State) (t : Nat) : (s.tick t).memory = s.memory := rfl
@[simp] theorem State.tick_security (s : State) (t : Nat) : (s.tick t).security = s.security := rfl
@[simp] theorem State.tick_baseTemp (s : State) (t : Nat) : (s.tick t).baseTemp = s.baseTemp := rfl
@[simp] theorem State.tick_pending (s : State) (t : Nat) : (s.tick t).pending = s.pending := rfl
@[simp] theorem State.tick_now (s : State) (t : Nat) : (s.tick t).now = max s.now t := rfl

@[simp] theorem State.record_now (s : State) (c k : Nat) (p : List Byte) : (s.record c k p).now = s.now := rfl
@[simp] theorem State.record_freeCtr (s : State) (c k : Nat) (p : List Byte) : (s.record c k p).freeCtr = s.freeCtr := rfl
@[simp] theorem State.record_counters (s : State) (c k : Nat) (p : List Byte) : (s.record c k p).counters = s.counters := rfl
@[simp] theorem State.record_params (s : State) (c k : Nat) (p : List Byte) : (s.record c k p).params = s.params := rfl
@[simp] theorem State.record_toHost (s : State) (c k : Nat) (p : List Byte) : (s.record c k p).toHost = s.toHost := rfl
@[simp] theorem State.record_frame (s : State) (c k : Nat) (p : List Byte) : (s.record c k p).frame = s.frame := rfl
@[simp] theorem State.record_purlin (s : State) (c k : Nat) (p : List Byte) : (s.record c k p).purlin = s.purlin := rfl
@[simp] theorem State.record_gnss (s : State) (c k : Nat) (p : List Byte) : (s.record c k p).gnss = s.gnss := rfl
@[simp] theorem State.record_time (s : State) (c k : Nat) (p : List Byte) : (s.record c k p).time = s.time := rfl
@[simp] theorem State.record_host (s : State) (c k : Nat) (p : List Byte) : (s.record c k p).host = s.host := rfl
@[simp] theorem State.record_eaves (s : State) (c k : Nat) (p : List Byte) : (s.record c k p).eaves = s.eaves := rfl
@[simp] theorem State.record_config (s : State) (c k : Nat) (p : List Byte) : (s.record c k p).config = s.config := rfl
@[simp] theorem State.record_laneA (s : State) (c k : Nat) (p : List Byte) : (s.record c k p).laneA = s.laneA := rfl
@[simp] theorem State.record_laneB (s : State) (c k : Nat) (p : List Byte) : (s.record c k p).laneB = s.laneB := rfl
@[simp] theorem State.record_ridge (s : State) (c k : Nat) (p : List Byte) : (s.record c k p).ridge = s.ridge := rfl
@[simp] theorem State.record_out (s : State) (c k : Nat) (p : List Byte) : (s.record c k p).out = s.out := rfl
@[simp] theorem State.record_peer (s : State) (c k : Nat) (p : List Byte) : (s.record c k p).peer = s.peer := rfl
@[simp] theorem State.record_safety (s : State) (c k : Nat) (p : List Byte) : (s.record c k p).safety = s.safety := rfl
@[simp] theorem State.record_fio (s : State) (c k : Nat) (p : List Byte) : (s.record c k p).fio = s.fio := rfl
@[simp] theorem State.record_buses (s : State) (c k : Nat) (p : List Byte) : (s.record c k p).buses = s.buses := rfl
@[simp] theorem State.record_recorder (s : State) (c k : Nat) (p : List Byte) : (s.record c k p).recorder = s.recorder := rfl
@[simp] theorem State.record_rst (s : State) (c k : Nat) (p : List Byte) : (s.record c k p).rst = s.rst := rfl
@[simp] theorem State.record_power (s : State) (c k : Nat) (p : List Byte) : (s.record c k p).power = s.power := rfl
@[simp] theorem State.record_memory (s : State) (c k : Nat) (p : List Byte) : (s.record c k p).memory = s.memory := rfl
@[simp] theorem State.record_security (s : State) (c k : Nat) (p : List Byte) : (s.record c k p).security = s.security := rfl
@[simp] theorem State.record_baseTemp (s : State) (c k : Nat) (p : List Byte) : (s.record c k p).baseTemp = s.baseTemp := rfl
@[simp] theorem State.record_pending (s : State) (c k : Nat) (p : List Byte) : (s.record c k p).pending = s.pending := rfl
@[simp] theorem State.record_toRecorder (s : State) (c k : Nat) (p : List Byte) : (s.record c k p).toRecorder = s.toRecorder ++ [s.makeEvent c k p] := rfl

@[simp] theorem State.raise_now (s : State) (c : Nat) (a : List Nat) : (s.raise c a).now = s.now := rfl
@[simp] theorem State.raise_freeCtr (s : State) (c : Nat) (a : List Nat) : (s.raise c a).freeCtr = s.freeCtr := rfl
@[simp] theorem State.raise_counters (s : State) (c : Nat) (a : List Nat) : (s.raise c a).counters = s.counters := rfl
@[simp] theorem State.raise_params (s : State) (c : Nat) (a : List Nat) : (s.raise c a).params = s.params := rfl
@[simp] theorem State.raise_toHost (s : State) (c : Nat) (a : List Nat) : (s.raise c a).toHost = s.toHost := rfl
@[simp] theorem State.raise_frame (s : State) (c : Nat) (a : List Nat) : (s.raise c a).frame = s.frame := rfl
@[simp] theorem State.raise_purlin (s : State) (c : Nat) (a : List Nat) : (s.raise c a).purlin = s.purlin := rfl
@[simp] theorem State.raise_gnss (s : State) (c : Nat) (a : List Nat) : (s.raise c a).gnss = s.gnss := rfl
@[simp] theorem State.raise_time (s : State) (c : Nat) (a : List Nat) : (s.raise c a).time = s.time := rfl
@[simp] theorem State.raise_host (s : State) (c : Nat) (a : List Nat) : (s.raise c a).host = s.host := rfl
@[simp] theorem State.raise_eaves (s : State) (c : Nat) (a : List Nat) : (s.raise c a).eaves = s.eaves := rfl
@[simp] theorem State.raise_config (s : State) (c : Nat) (a : List Nat) : (s.raise c a).config = s.config := rfl
@[simp] theorem State.raise_laneA (s : State) (c : Nat) (a : List Nat) : (s.raise c a).laneA = s.laneA := rfl
@[simp] theorem State.raise_laneB (s : State) (c : Nat) (a : List Nat) : (s.raise c a).laneB = s.laneB := rfl
@[simp] theorem State.raise_ridge (s : State) (c : Nat) (a : List Nat) : (s.raise c a).ridge = s.ridge := rfl
@[simp] theorem State.raise_out (s : State) (c : Nat) (a : List Nat) : (s.raise c a).out = s.out := rfl
@[simp] theorem State.raise_peer (s : State) (c : Nat) (a : List Nat) : (s.raise c a).peer = s.peer := rfl
@[simp] theorem State.raise_safety (s : State) (c : Nat) (a : List Nat) : (s.raise c a).safety = s.safety := rfl
@[simp] theorem State.raise_fio (s : State) (c : Nat) (a : List Nat) : (s.raise c a).fio = s.fio := rfl
@[simp] theorem State.raise_buses (s : State) (c : Nat) (a : List Nat) : (s.raise c a).buses = s.buses := rfl
@[simp] theorem State.raise_recorder (s : State) (c : Nat) (a : List Nat) : (s.raise c a).recorder = s.recorder := rfl
@[simp] theorem State.raise_rst (s : State) (c : Nat) (a : List Nat) : (s.raise c a).rst = s.rst := rfl
@[simp] theorem State.raise_power (s : State) (c : Nat) (a : List Nat) : (s.raise c a).power = s.power := rfl
@[simp] theorem State.raise_memory (s : State) (c : Nat) (a : List Nat) : (s.raise c a).memory = s.memory := rfl
@[simp] theorem State.raise_security (s : State) (c : Nat) (a : List Nat) : (s.raise c a).security = s.security := rfl
@[simp] theorem State.raise_baseTemp (s : State) (c : Nat) (a : List Nat) : (s.raise c a).baseTemp = s.baseTemp := rfl
@[simp] theorem State.raise_pending (s : State) (c : Nat) (a : List Nat) : (s.raise c a).pending = s.pending := rfl
@[simp] theorem State.raise_toRecorder (s : State) (c : Nat) (a : List Nat) : (s.raise c a).toRecorder = s.toRecorder ++ [s.makeEvent c 0 (a.flatMap (le 4))] := rfl

@[simp] theorem State.raiseIf_now (s : State) (b : Bool) (c : Nat) (a : List Nat) : (s.raiseIf b c a).now = s.now := by
  cases b <;> rfl
@[simp] theorem State.raiseIf_freeCtr (s : State) (b : Bool) (c : Nat) (a : List Nat) : (s.raiseIf b c a).freeCtr = s.freeCtr := by
  cases b <;> rfl
@[simp] theorem State.raiseIf_counters (s : State) (b : Bool) (c : Nat) (a : List Nat) : (s.raiseIf b c a).counters = s.counters := by
  cases b <;> rfl
@[simp] theorem State.raiseIf_params (s : State) (b : Bool) (c : Nat) (a : List Nat) : (s.raiseIf b c a).params = s.params := by
  cases b <;> rfl
@[simp] theorem State.raiseIf_toHost (s : State) (b : Bool) (c : Nat) (a : List Nat) : (s.raiseIf b c a).toHost = s.toHost := by
  cases b <;> rfl
@[simp] theorem State.raiseIf_frame (s : State) (b : Bool) (c : Nat) (a : List Nat) : (s.raiseIf b c a).frame = s.frame := by
  cases b <;> rfl
@[simp] theorem State.raiseIf_purlin (s : State) (b : Bool) (c : Nat) (a : List Nat) : (s.raiseIf b c a).purlin = s.purlin := by
  cases b <;> rfl
@[simp] theorem State.raiseIf_gnss (s : State) (b : Bool) (c : Nat) (a : List Nat) : (s.raiseIf b c a).gnss = s.gnss := by
  cases b <;> rfl
@[simp] theorem State.raiseIf_time (s : State) (b : Bool) (c : Nat) (a : List Nat) : (s.raiseIf b c a).time = s.time := by
  cases b <;> rfl
@[simp] theorem State.raiseIf_host (s : State) (b : Bool) (c : Nat) (a : List Nat) : (s.raiseIf b c a).host = s.host := by
  cases b <;> rfl
@[simp] theorem State.raiseIf_eaves (s : State) (b : Bool) (c : Nat) (a : List Nat) : (s.raiseIf b c a).eaves = s.eaves := by
  cases b <;> rfl
@[simp] theorem State.raiseIf_config (s : State) (b : Bool) (c : Nat) (a : List Nat) : (s.raiseIf b c a).config = s.config := by
  cases b <;> rfl
@[simp] theorem State.raiseIf_laneA (s : State) (b : Bool) (c : Nat) (a : List Nat) : (s.raiseIf b c a).laneA = s.laneA := by
  cases b <;> rfl
@[simp] theorem State.raiseIf_laneB (s : State) (b : Bool) (c : Nat) (a : List Nat) : (s.raiseIf b c a).laneB = s.laneB := by
  cases b <;> rfl
@[simp] theorem State.raiseIf_ridge (s : State) (b : Bool) (c : Nat) (a : List Nat) : (s.raiseIf b c a).ridge = s.ridge := by
  cases b <;> rfl
@[simp] theorem State.raiseIf_out (s : State) (b : Bool) (c : Nat) (a : List Nat) : (s.raiseIf b c a).out = s.out := by
  cases b <;> rfl
@[simp] theorem State.raiseIf_peer (s : State) (b : Bool) (c : Nat) (a : List Nat) : (s.raiseIf b c a).peer = s.peer := by
  cases b <;> rfl
@[simp] theorem State.raiseIf_safety (s : State) (b : Bool) (c : Nat) (a : List Nat) : (s.raiseIf b c a).safety = s.safety := by
  cases b <;> rfl
@[simp] theorem State.raiseIf_fio (s : State) (b : Bool) (c : Nat) (a : List Nat) : (s.raiseIf b c a).fio = s.fio := by
  cases b <;> rfl
@[simp] theorem State.raiseIf_buses (s : State) (b : Bool) (c : Nat) (a : List Nat) : (s.raiseIf b c a).buses = s.buses := by
  cases b <;> rfl
@[simp] theorem State.raiseIf_recorder (s : State) (b : Bool) (c : Nat) (a : List Nat) : (s.raiseIf b c a).recorder = s.recorder := by
  cases b <;> rfl
@[simp] theorem State.raiseIf_rst (s : State) (b : Bool) (c : Nat) (a : List Nat) : (s.raiseIf b c a).rst = s.rst := by
  cases b <;> rfl
@[simp] theorem State.raiseIf_power (s : State) (b : Bool) (c : Nat) (a : List Nat) : (s.raiseIf b c a).power = s.power := by
  cases b <;> rfl
@[simp] theorem State.raiseIf_memory (s : State) (b : Bool) (c : Nat) (a : List Nat) : (s.raiseIf b c a).memory = s.memory := by
  cases b <;> rfl
@[simp] theorem State.raiseIf_security (s : State) (b : Bool) (c : Nat) (a : List Nat) : (s.raiseIf b c a).security = s.security := by
  cases b <;> rfl
@[simp] theorem State.raiseIf_baseTemp (s : State) (b : Bool) (c : Nat) (a : List Nat) : (s.raiseIf b c a).baseTemp = s.baseTemp := by
  cases b <;> rfl
@[simp] theorem State.raiseIf_pending (s : State) (b : Bool) (c : Nat) (a : List Nat) : (s.raiseIf b c a).pending = s.pending := by
  cases b <;> rfl
@[simp] theorem State.raiseIf_true (s : State) (c : Nat) (a : List Nat) : s.raiseIf true c a = s.raise c a := rfl
@[simp] theorem State.raiseIf_false (s : State) (c : Nat) (a : List Nat) : s.raiseIf false c a = s := rfl

@[simp] theorem State.count_now (s : State) (n : Nat) : (s.count n).now = s.now := by
  simp only [State.count]; split; rfl; split <;> rfl
@[simp] theorem State.count_freeCtr (s : State) (n : Nat) : (s.count n).freeCtr = s.freeCtr := by
  simp only [State.count]; split; rfl; split <;> rfl
@[simp] theorem State.count_params (s : State) (n : Nat) : (s.count n).params = s.params := by
  simp only [State.count]; split; rfl; split <;> rfl
@[simp] theorem State.count_toHost (s : State) (n : Nat) : (s.count n).toHost = s.toHost := by
  simp only [State.count]; split; rfl; split <;> rfl
@[simp] theorem State.count_frame (s : State) (n : Nat) : (s.count n).frame = s.frame := by
  simp only [State.count]; split; rfl; split <;> rfl
@[simp] theorem State.count_purlin (s : State) (n : Nat) : (s.count n).purlin = s.purlin := by
  simp only [State.count]; split; rfl; split <;> rfl
@[simp] theorem State.count_gnss (s : State) (n : Nat) : (s.count n).gnss = s.gnss := by
  simp only [State.count]; split; rfl; split <;> rfl
@[simp] theorem State.count_time (s : State) (n : Nat) : (s.count n).time = s.time := by
  simp only [State.count]; split; rfl; split <;> rfl
@[simp] theorem State.count_host (s : State) (n : Nat) : (s.count n).host = s.host := by
  simp only [State.count]; split; rfl; split <;> rfl
@[simp] theorem State.count_eaves (s : State) (n : Nat) : (s.count n).eaves = s.eaves := by
  simp only [State.count]; split; rfl; split <;> rfl
@[simp] theorem State.count_config (s : State) (n : Nat) : (s.count n).config = s.config := by
  simp only [State.count]; split; rfl; split <;> rfl
@[simp] theorem State.count_laneA (s : State) (n : Nat) : (s.count n).laneA = s.laneA := by
  simp only [State.count]; split; rfl; split <;> rfl
@[simp] theorem State.count_laneB (s : State) (n : Nat) : (s.count n).laneB = s.laneB := by
  simp only [State.count]; split; rfl; split <;> rfl
@[simp] theorem State.count_ridge (s : State) (n : Nat) : (s.count n).ridge = s.ridge := by
  simp only [State.count]; split; rfl; split <;> rfl
@[simp] theorem State.count_out (s : State) (n : Nat) : (s.count n).out = s.out := by
  simp only [State.count]; split; rfl; split <;> rfl
@[simp] theorem State.count_peer (s : State) (n : Nat) : (s.count n).peer = s.peer := by
  simp only [State.count]; split; rfl; split <;> rfl
@[simp] theorem State.count_safety (s : State) (n : Nat) : (s.count n).safety = s.safety := by
  simp only [State.count]; split; rfl; split <;> rfl
@[simp] theorem State.count_fio (s : State) (n : Nat) : (s.count n).fio = s.fio := by
  simp only [State.count]; split; rfl; split <;> rfl
@[simp] theorem State.count_buses (s : State) (n : Nat) : (s.count n).buses = s.buses := by
  simp only [State.count]; split; rfl; split <;> rfl
@[simp] theorem State.count_recorder (s : State) (n : Nat) : (s.count n).recorder = s.recorder := by
  simp only [State.count]; split; rfl; split <;> rfl
@[simp] theorem State.count_rst (s : State) (n : Nat) : (s.count n).rst = s.rst := by
  simp only [State.count]; split; rfl; split <;> rfl
@[simp] theorem State.count_power (s : State) (n : Nat) : (s.count n).power = s.power := by
  simp only [State.count]; split; rfl; split <;> rfl
@[simp] theorem State.count_memory (s : State) (n : Nat) : (s.count n).memory = s.memory := by
  simp only [State.count]; split; rfl; split <;> rfl
@[simp] theorem State.count_security (s : State) (n : Nat) : (s.count n).security = s.security := by
  simp only [State.count]; split; rfl; split <;> rfl
@[simp] theorem State.count_baseTemp (s : State) (n : Nat) : (s.count n).baseTemp = s.baseTemp := by
  simp only [State.count]; split; rfl; split <;> rfl
@[simp] theorem State.count_pending (s : State) (n : Nat) : (s.count n).pending = s.pending := by
  simp only [State.count]; split; rfl; split <;> rfl

@[simp] theorem State.countN_now (s : State) (n k : Nat) : (s.countN n k).now = s.now := by
  induction k generalizing s with
  | zero => rfl
  | succ k ih => simp [State.countN, ih]
@[simp] theorem State.countN_freeCtr (s : State) (n k : Nat) : (s.countN n k).freeCtr = s.freeCtr := by
  induction k generalizing s with
  | zero => rfl
  | succ k ih => simp [State.countN, ih]
@[simp] theorem State.countN_params (s : State) (n k : Nat) : (s.countN n k).params = s.params := by
  induction k generalizing s with
  | zero => rfl
  | succ k ih => simp [State.countN, ih]
@[simp] theorem State.countN_toHost (s : State) (n k : Nat) : (s.countN n k).toHost = s.toHost := by
  induction k generalizing s with
  | zero => rfl
  | succ k ih => simp [State.countN, ih]
@[simp] theorem State.countN_frame (s : State) (n k : Nat) : (s.countN n k).frame = s.frame := by
  induction k generalizing s with
  | zero => rfl
  | succ k ih => simp [State.countN, ih]
@[simp] theorem State.countN_purlin (s : State) (n k : Nat) : (s.countN n k).purlin = s.purlin := by
  induction k generalizing s with
  | zero => rfl
  | succ k ih => simp [State.countN, ih]
@[simp] theorem State.countN_gnss (s : State) (n k : Nat) : (s.countN n k).gnss = s.gnss := by
  induction k generalizing s with
  | zero => rfl
  | succ k ih => simp [State.countN, ih]
@[simp] theorem State.countN_time (s : State) (n k : Nat) : (s.countN n k).time = s.time := by
  induction k generalizing s with
  | zero => rfl
  | succ k ih => simp [State.countN, ih]
@[simp] theorem State.countN_host (s : State) (n k : Nat) : (s.countN n k).host = s.host := by
  induction k generalizing s with
  | zero => rfl
  | succ k ih => simp [State.countN, ih]
@[simp] theorem State.countN_eaves (s : State) (n k : Nat) : (s.countN n k).eaves = s.eaves := by
  induction k generalizing s with
  | zero => rfl
  | succ k ih => simp [State.countN, ih]
@[simp] theorem State.countN_config (s : State) (n k : Nat) : (s.countN n k).config = s.config := by
  induction k generalizing s with
  | zero => rfl
  | succ k ih => simp [State.countN, ih]
@[simp] theorem State.countN_laneA (s : State) (n k : Nat) : (s.countN n k).laneA = s.laneA := by
  induction k generalizing s with
  | zero => rfl
  | succ k ih => simp [State.countN, ih]
@[simp] theorem State.countN_laneB (s : State) (n k : Nat) : (s.countN n k).laneB = s.laneB := by
  induction k generalizing s with
  | zero => rfl
  | succ k ih => simp [State.countN, ih]
@[simp] theorem State.countN_ridge (s : State) (n k : Nat) : (s.countN n k).ridge = s.ridge := by
  induction k generalizing s with
  | zero => rfl
  | succ k ih => simp [State.countN, ih]
@[simp] theorem State.countN_out (s : State) (n k : Nat) : (s.countN n k).out = s.out := by
  induction k generalizing s with
  | zero => rfl
  | succ k ih => simp [State.countN, ih]
@[simp] theorem State.countN_peer (s : State) (n k : Nat) : (s.countN n k).peer = s.peer := by
  induction k generalizing s with
  | zero => rfl
  | succ k ih => simp [State.countN, ih]
@[simp] theorem State.countN_safety (s : State) (n k : Nat) : (s.countN n k).safety = s.safety := by
  induction k generalizing s with
  | zero => rfl
  | succ k ih => simp [State.countN, ih]
@[simp] theorem State.countN_fio (s : State) (n k : Nat) : (s.countN n k).fio = s.fio := by
  induction k generalizing s with
  | zero => rfl
  | succ k ih => simp [State.countN, ih]
@[simp] theorem State.countN_buses (s : State) (n k : Nat) : (s.countN n k).buses = s.buses := by
  induction k generalizing s with
  | zero => rfl
  | succ k ih => simp [State.countN, ih]
@[simp] theorem State.countN_recorder (s : State) (n k : Nat) : (s.countN n k).recorder = s.recorder := by
  induction k generalizing s with
  | zero => rfl
  | succ k ih => simp [State.countN, ih]
@[simp] theorem State.countN_rst (s : State) (n k : Nat) : (s.countN n k).rst = s.rst := by
  induction k generalizing s with
  | zero => rfl
  | succ k ih => simp [State.countN, ih]
@[simp] theorem State.countN_power (s : State) (n k : Nat) : (s.countN n k).power = s.power := by
  induction k generalizing s with
  | zero => rfl
  | succ k ih => simp [State.countN, ih]
@[simp] theorem State.countN_memory (s : State) (n k : Nat) : (s.countN n k).memory = s.memory := by
  induction k generalizing s with
  | zero => rfl
  | succ k ih => simp [State.countN, ih]
@[simp] theorem State.countN_security (s : State) (n k : Nat) : (s.countN n k).security = s.security := by
  induction k generalizing s with
  | zero => rfl
  | succ k ih => simp [State.countN, ih]
@[simp] theorem State.countN_baseTemp (s : State) (n k : Nat) : (s.countN n k).baseTemp = s.baseTemp := by
  induction k generalizing s with
  | zero => rfl
  | succ k ih => simp [State.countN, ih]
@[simp] theorem State.countN_pending (s : State) (n k : Nat) : (s.countN n k).pending = s.pending := by
  induction k generalizing s with
  | zero => rfl
  | succ k ih => simp [State.countN, ih]

@[simp] theorem State.freeBool_now (s : State) : s.freeBool.2.now = s.now := rfl
@[simp] theorem State.freeBool_counters (s : State) : s.freeBool.2.counters = s.counters := rfl
@[simp] theorem State.freeBool_params (s : State) : s.freeBool.2.params = s.params := rfl
@[simp] theorem State.freeBool_toRecorder (s : State) : s.freeBool.2.toRecorder = s.toRecorder := rfl
@[simp] theorem State.freeBool_toHost (s : State) : s.freeBool.2.toHost = s.toHost := rfl
@[simp] theorem State.freeBool_frame (s : State) : s.freeBool.2.frame = s.frame := rfl
@[simp] theorem State.freeBool_purlin (s : State) : s.freeBool.2.purlin = s.purlin := rfl
@[simp] theorem State.freeBool_gnss (s : State) : s.freeBool.2.gnss = s.gnss := rfl
@[simp] theorem State.freeBool_time (s : State) : s.freeBool.2.time = s.time := rfl
@[simp] theorem State.freeBool_host (s : State) : s.freeBool.2.host = s.host := rfl
@[simp] theorem State.freeBool_eaves (s : State) : s.freeBool.2.eaves = s.eaves := rfl
@[simp] theorem State.freeBool_config (s : State) : s.freeBool.2.config = s.config := rfl
@[simp] theorem State.freeBool_laneA (s : State) : s.freeBool.2.laneA = s.laneA := rfl
@[simp] theorem State.freeBool_laneB (s : State) : s.freeBool.2.laneB = s.laneB := rfl
@[simp] theorem State.freeBool_ridge (s : State) : s.freeBool.2.ridge = s.ridge := rfl
@[simp] theorem State.freeBool_out (s : State) : s.freeBool.2.out = s.out := rfl
@[simp] theorem State.freeBool_peer (s : State) : s.freeBool.2.peer = s.peer := rfl
@[simp] theorem State.freeBool_safety (s : State) : s.freeBool.2.safety = s.safety := rfl
@[simp] theorem State.freeBool_fio (s : State) : s.freeBool.2.fio = s.fio := rfl
@[simp] theorem State.freeBool_buses (s : State) : s.freeBool.2.buses = s.buses := rfl
@[simp] theorem State.freeBool_recorder (s : State) : s.freeBool.2.recorder = s.recorder := rfl
@[simp] theorem State.freeBool_rst (s : State) : s.freeBool.2.rst = s.rst := rfl
@[simp] theorem State.freeBool_power (s : State) : s.freeBool.2.power = s.power := rfl
@[simp] theorem State.freeBool_memory (s : State) : s.freeBool.2.memory = s.memory := rfl
@[simp] theorem State.freeBool_security (s : State) : s.freeBool.2.security = s.security := rfl
@[simp] theorem State.freeBool_baseTemp (s : State) : s.freeBool.2.baseTemp = s.baseTemp := rfl
@[simp] theorem State.freeBool_pending (s : State) : s.freeBool.2.pending = s.pending := rfl
@[simp] theorem State.freeBool_freeCtr (s : State) : s.freeBool.2.freeCtr = s.freeCtr + 1 := rfl

@[simp] theorem State.send_now (s : State) (a b c : Nat) (d : List Byte) : (s.send a b c d).now = s.now := rfl
@[simp] theorem State.send_freeCtr (s : State) (a b c : Nat) (d : List Byte) : (s.send a b c d).freeCtr = s.freeCtr := rfl
@[simp] theorem State.send_counters (s : State) (a b c : Nat) (d : List Byte) : (s.send a b c d).counters = s.counters := rfl
@[simp] theorem State.send_params (s : State) (a b c : Nat) (d : List Byte) : (s.send a b c d).params = s.params := rfl
@[simp] theorem State.send_toRecorder (s : State) (a b c : Nat) (d : List Byte) : (s.send a b c d).toRecorder = s.toRecorder := rfl
@[simp] theorem State.send_toHost (s : State) (a b c : Nat) (d : List Byte) : (s.send a b c d).toHost = s.toHost := rfl
@[simp] theorem State.send_purlin (s : State) (a b c : Nat) (d : List Byte) : (s.send a b c d).purlin = s.purlin := rfl
@[simp] theorem State.send_gnss (s : State) (a b c : Nat) (d : List Byte) : (s.send a b c d).gnss = s.gnss := rfl
@[simp] theorem State.send_time (s : State) (a b c : Nat) (d : List Byte) : (s.send a b c d).time = s.time := rfl
@[simp] theorem State.send_host (s : State) (a b c : Nat) (d : List Byte) : (s.send a b c d).host = s.host := rfl
@[simp] theorem State.send_eaves (s : State) (a b c : Nat) (d : List Byte) : (s.send a b c d).eaves = s.eaves := rfl
@[simp] theorem State.send_config (s : State) (a b c : Nat) (d : List Byte) : (s.send a b c d).config = s.config := rfl
@[simp] theorem State.send_laneA (s : State) (a b c : Nat) (d : List Byte) : (s.send a b c d).laneA = s.laneA := rfl
@[simp] theorem State.send_laneB (s : State) (a b c : Nat) (d : List Byte) : (s.send a b c d).laneB = s.laneB := rfl
@[simp] theorem State.send_ridge (s : State) (a b c : Nat) (d : List Byte) : (s.send a b c d).ridge = s.ridge := rfl
@[simp] theorem State.send_out (s : State) (a b c : Nat) (d : List Byte) : (s.send a b c d).out = s.out := rfl
@[simp] theorem State.send_peer (s : State) (a b c : Nat) (d : List Byte) : (s.send a b c d).peer = s.peer := rfl
@[simp] theorem State.send_safety (s : State) (a b c : Nat) (d : List Byte) : (s.send a b c d).safety = s.safety := rfl
@[simp] theorem State.send_fio (s : State) (a b c : Nat) (d : List Byte) : (s.send a b c d).fio = s.fio := rfl
@[simp] theorem State.send_buses (s : State) (a b c : Nat) (d : List Byte) : (s.send a b c d).buses = s.buses := rfl
@[simp] theorem State.send_recorder (s : State) (a b c : Nat) (d : List Byte) : (s.send a b c d).recorder = s.recorder := rfl
@[simp] theorem State.send_rst (s : State) (a b c : Nat) (d : List Byte) : (s.send a b c d).rst = s.rst := rfl
@[simp] theorem State.send_power (s : State) (a b c : Nat) (d : List Byte) : (s.send a b c d).power = s.power := rfl
@[simp] theorem State.send_memory (s : State) (a b c : Nat) (d : List Byte) : (s.send a b c d).memory = s.memory := rfl
@[simp] theorem State.send_security (s : State) (a b c : Nat) (d : List Byte) : (s.send a b c d).security = s.security := rfl
@[simp] theorem State.send_baseTemp (s : State) (a b c : Nat) (d : List Byte) : (s.send a b c d).baseTemp = s.baseTemp := rfl
@[simp] theorem State.send_pending (s : State) (a b c : Nat) (d : List Byte) : (s.send a b c d).pending = s.pending := rfl

/-- Whether a unit is held depends on its reset alone, which time does not touch. -/
@[simp] theorem State.tick_unitHeld (s : State) (t u : Nat) : (s.tick t).unitHeld u = s.unitHeld u := rfl
@[simp] theorem State.tick_param (s : State) (t id : Nat) : (s.tick t).param id = s.param id := rfl
@[simp] theorem State.tick_paramN (s : State) (t id : Nat) : (s.tick t).paramN id = s.paramN id := rfl
@[simp] theorem State.tick_paramI (s : State) (t id : Nat) : (s.tick t).paramI id = s.paramI id := rfl
@[simp] theorem State.raise_unitHeld (s : State) (c u : Nat) (a : List Nat) : (s.raise c a).unitHeld u = s.unitHeld u := rfl
@[simp] theorem State.raise_param (s : State) (c id : Nat) (a : List Nat) : (s.raise c a).param id = s.param id := rfl
@[simp] theorem State.record_unitHeld (s : State) (c k u : Nat) (p : List Byte) : (s.record c k p).unitHeld u = s.unitHeld u := rfl

/-- Time that has been reached already moves nothing. -/
theorem State.tick_past (s : State) (t : Nat) (h : t ≤ s.now) : s.tick t = s := by
  have h0 : t - s.now = 0 := by omega
  have h1 : slewStep (s.paramN 0x12010002) 0 s.time.slewLeft = 0 := by simp [slewStep, clampInt, secNs]; omega
  simp [State.tick, h0, h1, rateStep, Nat.max_eq_left h]

/-- Monotonic time never goes back (R13). -/
theorem State.le_tick_now (s : State) (t : Nat) : s.now ≤ (s.tick t).now := Nat.le_max_left _ _

/-- The offset moves by what the slew still had to make, beside the frequency steered in warm-up (R171, R176). -/
theorem State.tick_slew_sum (s : State) (t : Nat) :
    (s.tick t).time.offset + (s.tick t).time.slewLeft
      = s.time.offset + s.time.slewLeft + rateStep s.time.offsetRate (t - s.now) := by
  simp [State.tick] <;> omega

/-- The counters after one occurrence (R19). -/
def counted (l : List (Nat × Counter)) (n : Nat) : List (Nat × Counter) :=
  let c := (assoc l n).getD { value := 0, overflow := false }
  if c.value = 0xFFFFFFFF#32 then l
  else assocSet l n { value := c.value + 1, overflow := if c.value + 1 = 0xFFFFFFFF#32 then true else c.overflow }

/-- Counting depends on the counters alone. -/
@[simp] theorem State.count_counters (s : State) (n : Nat) : (s.count n).counters = counted s.counters n := by
  have e : s.counter n = (assoc s.counters n).getD { value := 0, overflow := false } := rfl
  unfold State.count counted
  rw [e]
  generalize (assoc s.counters n).getD { value := 0, overflow := false } = c
  obtain ⟨v, o⟩ := c
  dsimp only
  by_cases h1 : v = 0xFFFFFFFF#32
  · simp only [h1, if_true]
  · simp only [h1, if_false]
    by_cases h2 : v + 1 = 0xFFFFFFFF#32
    · simp only [h2, if_true]; rfl
    · simp only [h2, if_false]

/-- A counter counted once, unless it stands at its end (R19). -/
theorem State.count_below (s : State) (n : Nat) (h : (s.counter n).value.toNat < 0xFFFFFFFE) :
    s.count n =
      { s with counters := (assocSet s.counters n ⟨(s.counter n).value + 1, (s.counter n).overflow⟩) } := by
  have h1 : (s.counter n).value ≠ 0xFFFFFFFF#32 := by intro e; rw [e] at h; exact absurd h (by decide)
  have h2 : (s.counter n).value + 1 ≠ 0xFFFFFFFF#32 := by
    intro e
    have : (s.counter n).value = 0xFFFFFFFE#32 := by bv_omega
    rw [this] at h; exact absurd h (by decide)
  simp only [State.count]
  rw [if_neg h1, if_neg h2]

/-- A counter at its end stays there (R19). -/
theorem State.count_full (s : State) (n : Nat) (h : (s.counter n).value = 0xFFFFFFFF#32) : s.count n = s := by
  simp [State.count, h]

/-- What is set under a key is read back. -/
@[simp] theorem assoc_assocSet_self {β : Type} (l : List (Nat × β)) (k : Nat) (v : β) : assoc (assocSet l k v) k = some v := by
  induction l with
  | nil => simp [assocSet, assoc]
  | cons e t ih =>
    obtain ⟨k', v'⟩ := e
    simp only [assocSet]
    split
    · simp [assoc]
    · split
      · simp [assoc]
      · rename_i h _; simp [assoc, h, ih]

/-- Setting a key leaves every other key alone. -/
theorem assoc_assocSet_ne {β : Type} (l : List (Nat × β)) (k j : Nat) (v : β) (h : k ≠ j) :
    assoc (assocSet l k v) j = assoc l j := by
  induction l with
  | nil => simp [assocSet, assoc, h]
  | cons e t ih =>
    obtain ⟨k', v'⟩ := e
    simp only [assocSet]
    split
    · rename_i e1; subst e1; simp [assoc, h]
    · split
      · simp [assoc, h]
      · simp [assoc, ih]

end Sys2Proof.Machine
end

