-- ==== Sys2Proof/Laws/Frames.lean ====
section
/-!
SUPPORT. What the shared operations change, as one lemma each: the clock, counters, events, the links and classes of Eaves, the work of
the lanes.
-/

namespace Sys2Proof.Machine

theorem State.changesOnly_refl (s : State) (l : List StateField) : s.ChangesOnly l s := by
  intro f _
  cases f <;> rfl

/-- Two changes one after the other change what either may. -/
theorem State.changesOnly_trans {s t u : State} {a b : List StateField} (l : List StateField) (h1 : s.ChangesOnly a t)
    (h2 : t.ChangesOnly b u) (ha : a ⊆ l) (hb : b ⊆ l) : s.ChangesOnly l u := by
  intro f hf
  have p1 := h1 f (fun h => hf (ha h))
  have p2 := h2 f (fun h => hf (hb h))
  cases f <;> simp_all [State.agree]

theorem State.changesOnly_mono {s t : State} {a : List StateField} (l : List StateField) (h : s.ChangesOnly a t) (ha : a ⊆ l) :
    s.ChangesOnly l t := fun f hf => h f (fun m => hf (ha m))

/-- A fold of changes changes what one of them may. -/
theorem changesOnly_foldl {α : Type} (l : List StateField) (g : State → α → State) (h : ∀ (s : State) a, s.ChangesOnly l (g s a))
    (xs : List α) (s : State) : s.ChangesOnly l (xs.foldl g s) := by
  induction xs generalizing s with
  | nil => exact State.changesOnly_refl s l
  | cons a t ih => exact State.changesOnly_trans l (h s a) (ih _) (fun _ h => h) (fun _ h => h)

theorem State.tick_changes (s : State) (t : Nat) : s.ChangesOnly [.now, .time] (s.tick t) := by
  intro f hf
  cases f <;> first | (exfalso; apply hf; decide) | rfl

theorem State.count_changes (s : State) (id : Nat) : s.ChangesOnly [.counters, .toRecorder] (s.count id) := by
  intro f hf
  cases f <;> first | (exfalso; apply hf; decide) | rfl | simp [State.agree]

theorem State.raise_changes (s : State) (c : Nat) (a : List Nat) : s.ChangesOnly [.toRecorder] (s.raise c a) := by
  intro f hf
  cases f <;> first | (exfalso; apply hf; decide) | rfl

theorem State.onLink_changes (s : State) (n : Nat) (f : EavesLink → EavesLink) : s.ChangesOnly [.eaves] (s.onLink n f) := by
  unfold State.onLink
  split <;> (intro f hf; cases f <;> first | (exfalso; apply hf; decide) | rfl)

theorem State.onClass_changes (s : State) (k : EavesKind) (f : EavesClass → EavesClass) : s.ChangesOnly [.eaves] (s.onClass k f) := by
  cases k <;> (intro f hf; cases f <;> first | (exfalso; apply hf; decide) | rfl)

theorem State.onLink_cls (s : State) (n : Nat) (f : EavesLink → EavesLink) (k : EavesKind) :
    (s.onLink n f).eaves.cls k = s.eaves.cls k := by
  unfold State.onLink
  split <;> cases k <;> rfl

theorem State.onLink_link (s : State) (n : Nat) (h : n ≤ 1) (f : EavesLink → EavesLink) :
    (s.onLink n f).eaves.link n = f (s.eaves.link n) := by
  have : n = 0 ∨ n = 1 := by omega
  rcases this with rfl | rfl <;> simp [State.onLink, Eaves.link]

theorem State.onClass_cls (s : State) (k : EavesKind) (f : EavesClass → EavesClass) :
    (s.onClass k f).eaves.cls k = f (s.eaves.cls k) := by cases k <;> rfl

theorem State.onClass_ne (s : State) (k j : EavesKind) (h : j ≠ k) (f : EavesClass → EavesClass) :
    (s.onClass k f).eaves.cls j = s.eaves.cls j := by
  cases k <;> cases j <;> first | rfl | exact absurd rfl h

theorem State.onClass_link (s : State) (k : EavesKind) (n : Nat) (f : EavesClass → EavesClass) :
    (s.onClass k f).eaves.link n = s.eaves.link n := by cases k <;> rfl

/-- The counts of a lane's work touch the counters and the records only. -/
theorem State.counts_changes (l : List Nat) (s : State) :
    s.ChangesOnly [.counters, .toRecorder] (l.foldl (fun s id => s.count id) s) :=
  changesOnly_foldl _ _ (fun s a => s.count_changes a) l s

theorem State.laneWork_changes (s : State) (l : LaneId) (f : Work → Work) :
    s.ChangesOnly [.counters, .toRecorder, .laneA, .laneB] (s.laneWork l f) := by
  unfold State.laneWork
  dsimp only
  split
  · refine State.changesOnly_trans (a := [.laneA, .laneB]) _ ?_ (State.counts_changes _ _) (by decide) (by decide)
    cases l <;> (intro f hf; cases f <;> first | (exfalso; apply hf; decide) | rfl)
  · cases l <;> (intro f hf; cases f <;> first | (exfalso; apply hf; decide) | rfl)

theorem State.counts_lane (l : List Nat) (s : State) (k : LaneId) : (l.foldl (fun s id => s.count id) s).lane k = s.lane k := by
  have h := State.counts_changes l s
  cases k
  · exact h .laneA (by decide)
  · exact h .laneB (by decide)

theorem State.lane_setLane (s : State) (l : LaneId) (x : Lane) : (s.setLane l x).lane l = x := by cases l <;> rfl
theorem State.lane_setLane_other (s : State) (l : LaneId) (x : Lane) : (s.setLane l x).lane l.other = s.lane l.other := by
  cases l <;> rfl

/-- What one lane is after its work: what the work made of it, its events behind those in its outbox. -/
theorem State.laneWork_lane (s : State) (l : LaneId) (f : Work → Work) :
    (s.laneWork l f).lane l =
      (let w := f { lane := s.lane l, events := [], counts := [] }
       { w.lane with outbox := w.lane.outbox ++ w.events.map fun e => OutEntry.event (s.makeEvent e.1 0 (e.2.flatMap (le 4))) }) := by
  unfold State.laneWork
  dsimp only
  split
  · rw [State.counts_lane, State.lane_setLane]
  · rw [State.lane_setLane]

theorem State.laneWork_other (s : State) (l : LaneId) (f : Work → Work) : (s.laneWork l f).lane l.other = s.lane l.other := by
  unfold State.laneWork
  dsimp only
  split
  · rw [State.counts_lane, State.lane_setLane_other]
  · rw [State.lane_setLane_other]

theorem State.lanesWork_changes (s : State) (f : State → Work → Work) :
    s.ChangesOnly [.counters, .toRecorder, .laneA, .laneB] (s.lanesWork f) := by
  unfold State.lanesWork
  dsimp only
  have ha : s.ChangesOnly [.counters, .toRecorder, .laneA, .laneB] (if s.laneA.runs = true then s.laneWork .a (f s) else s) := by
    split
    · exact State.laneWork_changes _ _ _
    · exact State.changesOnly_refl _ _
  split
  · exact State.changesOnly_trans _ ha (State.laneWork_changes _ _ _) (fun _ h => h) (fun _ h => h)
  · exact ha

/-- Making an event reads the clock, the frame and the time unit only. -/
theorem State.makeEvent_same (s t : State) (h : s.ChangesOnly [.counters, .toRecorder, .laneA, .laneB] t) (c k : Nat) (p : List Byte) :
    t.makeEvent c k p = s.makeEvent c k p := by
  have h1 : t.now = s.now := h .now (by decide)
  have h2 : t.frame = s.frame := h .frame (by decide)
  have h3 : t.time = s.time := h .time (by decide)
  simp [State.makeEvent, State.taiS, State.taiNs, State.taiNsTotal, State.timeStatus, State.stepPending, State.stepped, h1, h2, h3]

/-- What each running lane is after the lanes worked. -/
theorem State.lanesWork_lane (s : State) (f : State → Work → Work) (l : LaneId) (h : (s.lane l).runs = true) :
    (s.lanesWork f).lane l =
      (let w := f s { lane := s.lane l, events := [], counts := [] }
       { w.lane with outbox := w.lane.outbox ++ w.events.map fun e => OutEntry.event (s.makeEvent e.1 0 (e.2.flatMap (le 4))) }) := by
  unfold State.lanesWork
  dsimp only
  cases l
  · have ha : s.laneA.runs = true := h
    rw [if_pos ha]
    split
    · have := State.laneWork_other (s.laneWork .a (f s)) .b (f s)
      exact this.trans (State.laneWork_lane s .a (f s))
    · exact State.laneWork_lane s .a (f s)
  · have hb : s.laneB.runs = true := h
    rw [if_pos hb, State.laneWork_lane]
    split
    · have hc := State.laneWork_changes s .a (f s)
      have e : (s.laneWork .a (f s)).lane .b = s.lane .b := State.laneWork_other s .a (f s)
      simp only [e, State.makeEvent_same _ _ hc]
    · rfl

/-- A lane held in reset does not work. -/
theorem State.lanesWork_idle (s : State) (f : State → Work → Work) (l : LaneId) (h : (s.lane l).runs = false) :
    (s.lanesWork f).lane l = s.lane l := by
  unfold State.lanesWork
  dsimp only
  cases l
  · have ha : s.laneA.runs = false := h
    simp only [ha]
    split
    · exact State.laneWork_other _ .b _
    · rfl
  · have hb : s.laneB.runs = false := h
    rw [if_neg (by simp [hb])]
    split
    · exact State.laneWork_other _ .a _
    · rfl

/-- A command that makes the lanes work completes, and turns lane l as the work of that lane says. -/
theorem State.lanesWork_completes (s : State) (t : Nat) (i : Instr) (l : LaneId) (f : State → Work → Work) (core : Core)
    (ev : List (Nat × List Nat)) (hr : (s.lane l).runs = true) (he : exec i s = .next ((s.tick t).lanesWork f))
    (hf : ∃ cs, f (s.tick t) { lane := s.lane l, events := [], counts := [] } =
      { lane := { s.lane l with core := core }, events := ev, counts := cs }) :
    s.Completes i laneFields (s.Turns t l core ev) := by
  have hl : (s.tick t).lane l = s.lane l := by cases l <;> rfl
  refine ⟨_, he, ?_, ?_⟩
  · obtain ⟨cs, hf⟩ := hf
    have := State.lanesWork_lane (s.tick t) f l (by rw [hl]; exact hr)
    rw [State.Turns, this, hl]
    simp only [hf]
  · exact State.changesOnly_trans _ (s.tick_changes t) (State.lanesWork_changes _ _) (by decide) (by decide)

end Sys2Proof.Machine
end

