-- ==== Sys2Proof/Laws/Memory.lean ====
section
/-!
SUPPORT. The data memory of a Batten engine: every write keeps its canonical form, a word written is read back and leaves every other
word alone.
-/

namespace Sys2Proof.Machine

/-- A memory in canonical form stays so without its first entry, and the addresses behind it are higher. -/
theorem dataWf_cons (e : Nat × Word) (t : List (Nat × Word)) :
    dataWf (e :: t) = true ↔ e.2 ≠ 0 ∧ e.1 < 32768 ∧ dataWf t = true ∧ ∀ f ∈ t, e.1 < f.1 := by
  induction t generalizing e with
  | nil => simp [dataWf, and_comm]
  | cons f t ih =>
    have h := ih f
    constructor
    · intro w
      simp only [dataWf, Bool.and_eq_true, decide_eq_true_eq] at w
      obtain ⟨⟨w1, w2⟩, w3⟩ := w
      obtain ⟨-, h2, -, h4⟩ := h.1 w3
      refine ⟨w2, by omega, w3, fun g hg => ?_⟩
      rcases List.mem_cons.1 hg with rfl | hg
      · exact w1
      · exact Nat.lt_trans w1 (h4 g hg)
    · rintro ⟨w1, -, w3, w4⟩
      simp only [dataWf, Bool.and_eq_true, decide_eq_true_eq]
      exact ⟨⟨w4 f (by simp), w1⟩, w3⟩

/-- Setting a key puts no key below both. -/
theorem assocSet_keys (m : List (Nat × Word)) (a : Nat) (w : Word) (f : Nat × Word) (h : f ∈ assocSet m a w) : f.1 = a ∨ f ∈ m := by
  induction m with
  | nil => simp [assocSet] at h; simp [h]
  | cons e t ih =>
    simp only [assocSet] at h
    split at h
    · rcases List.mem_cons.1 h with rfl | h <;> simp_all
    · split at h
      · rcases List.mem_cons.1 h with rfl | h <;> simp_all
      · rcases List.mem_cons.1 h with rfl | h
        · simp
        · rcases ih h with h | h <;> simp [h]

/-- A word other than 0 that is set keeps the canonical form. -/
theorem dataWf_assocSet (m : List (Nat × Word)) (a : Nat) (w : Word) (h : dataWf m = true) (ha : a < 32768) (hw : w ≠ 0) :
    dataWf (assocSet m a w) = true := by
  induction m with
  | nil => exact (dataWf_cons _ _).2 ⟨hw, ha, rfl, by simp⟩
  | cons e t ih =>
    obtain ⟨h1, h2, h3, h4⟩ := (dataWf_cons e t).1 h
    obtain ⟨k, v⟩ := e
    simp only [assocSet]
    split
    · rename_i e1
      subst e1
      exact (dataWf_cons _ _).2 ⟨hw, ha, h3, h4⟩
    · split
      · rename_i e1 e2
        refine (dataWf_cons _ _).2 ⟨hw, ha, h, fun f hf => ?_⟩
        rcases List.mem_cons.1 hf with rfl | hf
        · exact e2
        · exact Nat.lt_trans e2 (h4 f hf)
      · rename_i e1 e2
        refine (dataWf_cons _ _).2 ⟨h1, h2, ih h3, fun f hf => ?_⟩
        rcases assocSet_keys t a w f hf with e3 | e3
        · rw [e3]
          have : k ≠ a := e1
          have : ¬ a < k := e2
          show k < a
          omega
        · exact h4 f e3

/-- Erasing a key keeps the canonical form. -/
theorem dataWf_assocErase (m : List (Nat × Word)) (a : Nat) (h : dataWf m = true) : dataWf (assocErase m a) = true := by
  induction m with
  | nil => rfl
  | cons e t ih =>
    obtain ⟨h1, h2, h3, h4⟩ := (dataWf_cons e t).1 h
    have tail := ih h3
    by_cases he : e.1 = a
    · simpa [assocErase, he] using tail
    · have : assocErase (e :: t) a = e :: assocErase t a := by simp [assocErase, he]
      rw [this]
      exact (dataWf_cons _ _).2 ⟨h1, h2, tail, fun f hf => h4 f (List.mem_filter.1 hf).1⟩

/-- Every write keeps the canonical form (R265). -/
theorem dataWf_dataSet (m : List (Nat × Word)) (a : Nat) (w : Word) (h : dataWf m = true) (ha : a < 32768) :
    dataWf (dataSet m a w) = true := by
  unfold dataSet
  split
  · exact dataWf_assocErase m a h
  · exact dataWf_assocSet m a w h ha ‹_›

/-- A word written by an engine keeps the canonical form of its memory. -/
theorem Engine.setWord_dataWf (e : Engine) (a : Nat) (w : Word) (h : dataWf e.data = true) : dataWf (e.setWord a w).data = true :=
  dataWf_dataSet e.data (a % 32768) w h (Nat.mod_lt _ (by decide))

/-- The same of an integer. -/
theorem Engine.setInt_dataWf (e : Engine) (a : Nat) (v : Int) (h : dataWf e.data = true) : dataWf (e.setInt a v).data = true :=
  e.setWord_dataWf a _ h

/-- The same of consecutive words. -/
theorem Engine.setInts_dataWf (e : Engine) (a : Nat) (vs : List Int) (h : dataWf e.data = true) :
    dataWf (e.setInts a vs).data = true := by
  induction vs generalizing e a with
  | nil => exact h
  | cons v t ih => exact ih (e.setInt a v) (a + 1) (e.setInt_dataWf a v h)

/-- Two memories, one below the other, join in canonical form: a lane restored keeps the inertial region (R278). -/
theorem dataWf_append (m n : List (Nat × Word)) (hm : dataWf m = true) (hn : dataWf n = true)
    (h : ∀ e ∈ m, ∀ f ∈ n, e.1 < f.1) : dataWf (m ++ n) = true := by
  induction m with
  | nil => exact hn
  | cons e t ih =>
    obtain ⟨h1, h2, h3, h4⟩ := (dataWf_cons e t).1 hm
    refine (dataWf_cons _ _).2 ⟨h1, h2, ih h3 fun x hx => h x (by simp [hx]), fun f hf => ?_⟩
    rcases List.mem_append.1 hf with hf | hf
    · exact h4 f hf
    · exact h e (by simp) f hf

/-- A part of a memory is in canonical form. -/
theorem dataWf_filter (m : List (Nat × Word)) (p : Nat × Word → Bool) (h : dataWf m = true) : dataWf (m.filter p) = true := by
  induction m with
  | nil => rfl
  | cons e t ih =>
    obtain ⟨h1, h2, h3, h4⟩ := (dataWf_cons e t).1 h
    simp only [List.filter_cons]
    split
    · exact (dataWf_cons _ _).2 ⟨h1, h2, ih h3, fun f hf => h4 f (List.mem_filter.1 hf).1⟩
    · exact ih h3

/-- After reset both data memories list nothing, in canonical form. -/
theorem reset_dataWf : dataWf State.reset.laneA.core.engine.data = true ∧ dataWf State.reset.laneB.core.engine.data = true := by decide

end Sys2Proof.Machine
end

