-- ==== Sys2Proof/Machine/Contacts.lean ====
section
/-!
DEFINITION. The relay contacts of Port 5, as functions of the state (R42, R388, R389, R401, R644, R676, R692).
-/

namespace Sys2Proof.Machine

/-- The module-healthy contact is closed: the module and its host side run, the health state is HEALTHY or DEGRADED, the recorder
is not LOST, no power-fail sequence runs, and the field side is reachable (R42, R388, R644, R676, R692). -/
def State.healthyContact (s : State) : Bool :=
  s.hostUp && !s.host.fieldUnreachable && !s.recorder.lost && s.power.pfSince.isNone
    && (decide (s.ridge.health = .healthy) || decide (s.ridge.health = .degraded))

/-- The record whose alarm word counts: the latest released one, or in HOLD and FAILED the latest of lane A or of the lane that is
not excluded (R389). -/
def State.alarmRecord (s : State) : Option LaneRecord :=
  if s.ridge.health = .hold ∨ s.ridge.health = .failed then
    (if s.laneA.excluded then s.laneB.latest else s.laneA.latest)
  else s.out.record

/-- The DP alarm stands (R388, R389): in STANDBY and MAINTENANCE bits 0 to 12 are ignored. -/
def State.dpAlarm (s : State) : Bool :=
  let word : Nat := ((s.alarmRecord.map LaneRecord.alarms).getD 0).toNat
  let masked := word &&& s.paramN 0x70010005
  let counted := if s.quiet then masked / 8192 else masked
  decide (s.ridge.health ≠ .healthy) || decide (counted ≠ 0)

/-- ALM_C to ALM_NO is closed: supplied and no DP alarm stands. -/
def State.alarmContact (s : State) : Bool := decide (s.rst.up = .up) && !s.dpAlarm

/-- DUTY_C to DUTY_NO is closed while the module holds duty (R401). -/
def State.dutyContact (s : State) : Bool := decide (s.rst.up = .up) && decide (s.peer.duty = .duty)

end Sys2Proof.Machine
end

