-- ==== Sys2Proof/Tests/Slice0.lean ====
section
/-!
SUPPORT. The model's own tests: ill-formed commands are refused, the hypotheses of every statement can be met, and what the manual's
worked examples say. Its theorems are elaborated one after the other: evaluations in the kernel wait for one another, and run in
parallel each would hold a thread and its stack while it waits.
-/

set_option Elab.async false

namespace Sys2Proof.Machine

/-- An instruction's fields in range. -/
def fieldsInRange : BFields := { fmt := 0, acc := false, osh := 0, mod := false, dst := 0, srca := 0, srcb := 0 }
/-- A run of an engine. -/
def someRun : BRun := { lane := .a, inertial := false, cls := 0, slot := 0, fault := false }
/-- A request header in range. -/
def someReq : Req := { t := 0, transport := 0, session := 0, tag := 0 }

/-- A time beyond 64 bits, a request on a fourth transport, with a session beyond 16 bits or at such a time, a payload beyond a
packet, and a nonce and a proof of a wrong length are refused; the same in range is not. -/
theorem test_wf_refuses_headers :
    (Instr.chargerFault 18446744073709551616).wf = false ∧ (Instr.chargerFault 18446744073709551615).wf = true
      ∧ (Instr.statusReadClear { someReq with transport := 3 } 0).wf = false
      ∧ (Instr.statusReadClear { someReq with session := 65536 } 0).wf = false
      ∧ (Instr.statusReadClear { someReq with t := 18446744073709551616 } 0).wf = false
      ∧ (Instr.statusReadClear someReq 4294967296).wf = false ∧ (Instr.statusReadClear someReq 0).wf = true
      ∧ (Instr.eventAck someReq 65536).wf = false ∧ (Instr.bulkRead someReq 65536 []).wf = false
      ∧ (Instr.eventSubscribe someReq 0 256).wf = false
      ∧ (Instr.sessionOpen someReq 256 0 (List.replicate 16 0)).wf = false
      ∧ (Instr.sessionOpen someReq 0 256 (List.replicate 16 0)).wf = false
      ∧ (Instr.sessionOpen someReq 0 0 []).wf = false ∧ (Instr.sessionProve someReq []).wf = false
      ∧ (Instr.packetCheckFailure 0 3 0 none []).wf = false := by decide +kernel

/-- A payload of 8177 bytes does not fit a packet, one of 8176 does. -/
theorem test_wf_refuses_long_payloads (p : List Byte) : fits p = true ↔ p.length ≤ 8176 := by simp [fits]

/-- Fields of an instruction beyond their widths, and the formats that staging refuses. -/
theorem test_wf_refuses_fields :
    (Instr.movc someRun fieldsInRange).wf = true ∧ (Instr.movc someRun { fieldsInRange with fmt := 2 }).wf = false
      ∧ (Instr.movc someRun { fieldsInRange with osh := 64 }).wf = false
      ∧ (Instr.movc someRun { fieldsInRange with dst := 32768 }).wf = false
      ∧ (Instr.movc someRun { fieldsInRange with srca := 32768 }).wf = false
      ∧ (Instr.movc someRun { fieldsInRange with srcb := 65536 }).wf = false ∧ (Instr.battenStart .a 16).wf = false
      ∧ (Instr.movc { someRun with slot := 16 } fieldsInRange).wf = false := by decide

/-- Units of the control path beyond their number: cases, actuators, references, tracks, time sources, PTP instances. -/
theorem test_wf_refuses_control_units :
    (Instr.failAlarmSet 0 32).wf = false ∧ (Instr.crossingPersistence 0 24).wf = false ∧ (Instr.suspectRecovery 0 26).wf = false
      ∧ (Instr.targetTrackLost 0 8).wf = false ∧ (Instr.inertialStart 0 8 []).wf = false
      ∧ (Instr.timeOffsetMeasurement 0 0 0).wf = false ∧ (Instr.timeOffsetMeasurement 0 4 0).wf = false
      ∧ (Instr.ptpAnnounceTimeout 0 3).wf = false ∧ (Instr.ptpAnnounceTimeout 0 0).wf = false
      ∧ (Instr.ptpMessageSend 0 1 2).wf = false ∧ (Instr.purlinRequestTimeout 0 64 0).wf = false := by decide

/-- The same of the baseband, the barrier and the safety unit. -/
theorem test_wf_refuses_baseband_and_safety_units :
    (Instr.antennaBiasCheck 0 2 0).wf = false ∧ (Instr.fllToPll 0 2 0 0).wf = false ∧ (Instr.fllToPll 0 0 192 0).wf = false
      ∧ (Instr.acquisitionBlock 0 8 0 0 0 0 0 0 0).wf = false
      ∧ (Instr.acquisitionBlock 0 0 0 5 0 0 0 0 0).wf = false ∧ (Instr.acquisitionBlock 0 0 0 0 256 0 0 0 0).wf = false ∧ (Instr.spectrumScan 0 0 3 []).wf = false
      ∧ (Instr.notchRelease 0 0 0 0).wf = false ∧ (Instr.notchRelease 0 0 0 3).wf = false ∧ (Instr.spoofIndicatorClear 0 6).wf = false
      ∧ (Instr.eavesLinkDown 0 2 0).wf = false ∧ (Instr.safetyInputAccept 0 .x 18 0 0).wf = false
      ∧ (Instr.discrepancyFault 0 .x 4).wf = false ∧ (Instr.testPulse 0 .x 0 [] true).wf = false
      ∧ (Instr.testPulse 0 .x 3 [] true).wf = false ∧ (Instr.switchTest 0 .x 4 true true).wf = false
      ∧ (Instr.xirosTransmit 0 16).wf = false
      ∧ (Instr.xirosPduReceive 0 10 0 0 []).wf = false ∧ (Instr.xirosPduReceive 0 0 65536 0 []).wf = false := by decide

/-- The same of the field units, the buses, the recorder and the reset controller. -/
theorem test_wf_refuses_field_units :
    (Instr.wireBreakSet 0 0).wf = false ∧ (Instr.wireBreakSet 0 33).wf = false ∧ (Instr.hostOutputTimeout 0 37).wf = false
      ∧ (Instr.groupOverloadFault 0 4 []).wf = false ∧ (Instr.fieldSupplyState 0 2 0 0 0).wf = false
      ∧ (Instr.namurLineFault 0 6 0).wf = false ∧ (Instr.pulseInputEdge 0 2 true true).wf = false
      ∧ (Instr.analogueOutputFault 0 4 0 true).wf = false ∧ (Instr.analogueOutputFault 0 0 3 true).wf = false
      ∧ (Instr.loadShedContactAccept 0 2 0).wf = false ∧ (Instr.busOffRecovery 0 0).wf = false
      ∧ (Instr.busOffRecovery 0 7).wf = false ∧ (Instr.mailboxUnlock 0 1 32).wf = false ∧ (Instr.canBusError 0 1 8 0 true).wf = false ∧ (Instr.serialGapTimeout 0 0).wf = false
      ∧ (Instr.serialGapTimeout 0 9).wf = false ∧ (Instr.yealmAgeExpiry 0 2).wf = false ∧ (Instr.nandTimeout 0 2 0).wf = false
      ∧ (Instr.clockMonitorWindow 0 19 0).wf = false ∧ (Instr.powerInputState 0 2 0 0).wf = false
      ∧ (Instr.randomSourceFailure 0 2).wf = false := by decide

/-- The digest of the three bytes "abc" in FIPS 180-4. -/
theorem test_sha256_of_abc :
    sha256 [0x61, 0x62, 0x63] = be 32 0xBA7816BF8F01CFEA414140DE5DAE2223B00361A396177A9CB410FF61F20015AD := by decide +kernel

/-- The digest of the empty message in FIPS 180-4. -/
theorem test_sha384_of_nothing :
    sha384 [] = be 48 0x38B060A751AC96384CD9327EB1B1E36A21FDB71114BE07434C0CC7BF63F6E1DA274EDEBFE76F65FBD51AD2F14898B95B := by
  decide +kernel

/-- The AES-256 example of FIPS 197: key bytes 0 to 31. -/
theorem test_aes256_block :
    aesBlock ((List.range 32).map fun i => BitVec.ofNat 8 i) (be 16 0x00112233445566778899AABBCCDDEEFF)
      = be 16 0x8EA2B7CA516745BFEAFC49904B496089 := by decide +kernel

/-- Both cases of the step occur. -/
theorem witness_StepRunsTheFrontCommand :
    (State.reset.enqueue (.chargerFault 5)).pending = [Instr.chargerFault 5] ∧ State.reset.pending = [] := by decide

/-- A message to node 6 without payload, one to node 0x11, one with LEN 33, a lane's write into the other lane, errors in no, one and two
symbols, a port receiving a payload, and a node with space meet the clauses' premises. -/
theorem witness_PurlinRouterChecksEachFlit :
    State.reset.unitHeld 0 = false ∧ (State.reset.purlin.requesters 6 0).length < 8
      ∧ (let f := BitVec.ofNat 128 (6 * 2 ^ 122 + 4 * 2 ^ 112)
         flitDst f ≤ 0x10 ∧ flitType f = 4 ∧ flitVc f = 0 ∧ flitLen f = 0 ∧ routeTo 0 f = 6)
      ∧ 0x11 ≤ flitDst (BitVec.ofNat 128 (17 * 2 ^ 122))
      ∧ 32 < flitLen (BitVec.ofNat 128 (16 * 2 ^ 122 + 4 * 2 ^ 112 + 33 * 2 ^ 104))
      ∧ (let f := BitVec.ofNat 128 (3 * 2 ^ 122 + 1 * 2 ^ 116 + 1 * 2 ^ 112)
         flitType f = 1 ∧ flitVc f = 0 ∧ flitLen f ≤ 32 ∧ flitSrc f = 1 ∧ flitDst f = 3)
      ∧ symbolErrors 0 = 0 ∧ symbolErrors 15 = 1 ∧ symbolErrors 17 = 2
      ∧ Purlin.phase { Purlin.reset with ports := [(64, .payload 2 6 [])] } 64 = .payload 2 6 [] := by decide +kernel

/-- A read of node 5 by node 1 sent 50 µs ago. -/
theorem witness_PurlinRequestIsRepeatedOnce :
    let h := BitVec.ofNat 128 (5 * 2 ^ 122 + 1 * 2 ^ 116)
    let o : Outstanding := { src := 1, dst := 5, tag := 7, attempts := 1, sentAt := 0, out := 5, flits := [h], left := 0, reserved := 33 }
    let s : State := { State.reset with now := 50000, purlin.outstanding := [o] }
    s.unitHeld 0 = false ∧ s.purlin.outstanding.find? (fun o => o.src = 1 ∧ o.tag = 7) = some o
      ∧ o.sentAt + 50000 ≤ max s.now 50000 ∧ headFault 1 h = none ∧ (s.purlin.requesters o.out (flitVc h)).length < 8 := by decide

/-- A Command packet of one byte arrives whole at the field side, and at the host side, which does not receive its class. -/
theorem witness_EavesClassesDeliverInSequence :
    let head : List Byte := [0, 0, 0, 0, 1, 0, 0, 0, 9]
    let bytes := head ++ le 4 (crc32c head).toNat
    let n := bytes.length
    State.reset.unitHeld 0 = false ∧ (State.reset.eaves.link 0).up = true ∧ 12 ≤ n ∧ n = 12 + field bytes 4 2
      ∧ 1 ≤ field bytes 4 2 ∧ field bytes 4 2 ≤ 8212 ∧ field bytes 1 1 ≤ 3
      ∧ field bytes (n - 4) 4 = (crc32c (bytes.take (n - 4))).toNat
      ∧ field head (9 - 4) 4 ≠ (crc32c (head.take (9 - 4))).toNat
      ∧ eavesKind (field bytes 0 1) false = some .command ∧ field bytes 2 2 = (State.reset.eaves.cls .command).expectSeq
      ∧ (State.reset.eaves.cls .command).held = [] ∧ eavesKind (field bytes 0 1) true = none
      ∧ State.reset.eaves.events = [] ∧ State.reset.eaves.waitingLabels = [] ∧ State.reset.host.bulks = [] := by decide +kernel
/-- A packet that was not acknowledged. -/
theorem witness_EavesRetry :
    let p : EavesPacket := { seq := 3, link := 1, credits := 1, eflags := 0, xfer := 0, content := [] }
    let s : State := { State.reset with eaves.command.retry := [p] }
    (s.eaves.cls .command).retry.find? (fun p => p.seq = 3) = some p ∧ p.link = 1 ∧ (s.eaves.link 1).up = true := by decide

/-- A link that has failed 16 packets, both links down since 0, and a link down beside one that is up and beside one that is down. -/
theorem witness_EavesLinksFailAndReturn :
    (let s : State := { State.reset with eaves.link0.crcRun := 16 }
     s.unitHeld 0 = false ∧ (s.eaves.link 0).up = true ∧ 16 ≤ (s.eaves.link 0).crcRun ∧ (s.eaves.link (1 - 0)).up = true)
    ∧ (let s : State := { State.reset with now := 100000001, eaves.bothDownSince := some 0 }
       s.eaves.bothDownSince = some 0 ∧ 0 + 100000000 < max s.now 0 ∧ s.eaves.bothDownTold = false)
    ∧ (let s : State := { State.reset with eaves.link1.up := false }
       s.unitHeld 0 = false ∧ (s.eaves.link 1).up = false ∧ (s.eaves.link (1 - 1)).up = true)
    ∧ (let s : State := { State.reset with eaves.link0.up := false, eaves.link1.up := false }
       s.unitHeld 0 = false ∧ (s.eaves.link 1).up = false ∧ (s.eaves.link (1 - 1)).up = false ∧ s.eaves.waitingReplies = []
         ∧ s.eaves.heldCompletions = [] ∧ s.eaves.waitingLabels = [] ∧ s.eaves.events = [] ∧ s.host.bulks = []
         ∧ s.rst.lateHost = []) := by decide

/-- An INFO event at the endpoint, with tokens and without; suppressed events not told. -/
theorem witness_EventsMeetTheTokenBucket :
    let e : HostEvent :=
      { code := 0x0101#16, severity := 0, frame := 0, taiS := 0, taiNs := 0, tstatus := 0, opSeconds := 0, recSeq := 0,
        suppressed := 0, gap := false, args := [] }
    let s : State := { State.reset with toHost := [e] }
    let d : State := { s with eaves.tokens := 0, eaves.noticeLeft := 2, now := 0 }
    e.code ≠ 0x8005#16 ∧ e.severity < 3 ∧ 1000 ≤ min 200000 (s.eaves.tokens + (max s.now 0 - s.eaves.tokensAt) / 500)
      ∧ s.eaves.events = [] ∧ s.eventRoom e = true
      ∧ min 200000 (d.eaves.tokens + (max d.now 0 - d.eaves.tokensAt) / 500) < 1000 ∧ d.eaves.noticeLeft ≠ 0
      ∧ d.eaves.noticeAt + 1000000000 ≤ max d.now 1000000000 := by decide +kernel

/-- A new source, a source with one sample, and a full one; a motion reference; a cut-off whose time has come. -/
theorem witness_SamplesWaitForTheCutoff :
    let y : Sample := { arrival := 0, portTs := 0, sflags := 0, data := [] }
    let s : State :=
      { State.reset with
        frame.building := [{ source := 7, samples := [y] }, { source := 8, samples := List.replicate 16 y }]
        frame.inFlight := [(7, y)] }
    s.rst.up = .up ∧ s.unitHeld 0 = false ∧ s.config.active.motionSources.contains 7 = false ∧ s.frame.closed = none
      ∧ s.frame.begun = false ∧ (∀ k ∈ s.frame.building, k.source ≠ 9)
      ∧ s.frame.building.find? (fun k => k.source = 7) = some { source := 7, samples := [y] }
      ∧ (s.frame.building.find? (fun k => k.source = 8)).map (fun k => k.samples.length) = some 16
      ∧ s.frame.inFlight[0]? = some (7, y) ∧ s.config.commit = none
      ∧ (let v : State := { State.reset with frame.begun := true }
         v.frame.begun = true ∧ v.frame.nextStrobe ≤ max v.now 19500000 + 500000)
      ∧ (let v : State := { State.reset with config.active.tables := [(tableKey 0x10 0x02, [(20, List.replicate 64 7)])] }
         v.config.active.motionSources.contains 0x0707 = true) := by decide +kernel

/-- Before the first strobe, after it, and in a power-fail sequence. -/
theorem witness_StrobeStartsTheFrame :
    State.reset.rst.up = .up ∧ State.reset.frame.begun = false ∧ State.reset.power.pfStopped = false
      ∧ ({ State.reset with frame.begun := true, power.pfStopped := true } : State).frame.begun = true
      ∧ ({ State.reset with frame.begun := true, power.pfStopped := true } : State).power.pfStopped = true := by decide
/-- The strobe after the first one is frame 1, 20 ms later (R71, R75). -/
theorem test_second_strobe :
    (match exec (.frameStrobe 5 none) State.reset with
     | .next u =>
       (match exec (.frameStrobe 5 none) u with
        | .next v => (u.frame.number.toNat, u.frame.strobe, v.frame.number.toNat, v.frame.strobe)
        | _ => (9, 9, 9, 9))
     | _ => (9, 9, 9, 9)) = (0, 5, 1, 20000005) := by decide +kernel

/-- A lane that runs without a snapshot, the builder holding one. -/
theorem witness_SnapshotsReachTheLanes :
    let x := State.reset.snapshot 0 []
    let s : State := { State.reset with frame.current := some x }
    s.frame.current = some x ∧ s.frame.corrupt = false ∧ (s.lane .a).runs = true ∧ (s.lane .a).held = none
      ∧ (s.lane .a).deadline = false ∧ max s.now 0 ≤ s.frame.strobe + 500000
      ∧ [SnapCopy.intact].findSome? (fun c => c.read { x with sections := x.sections ++ s.frame.gnssPending }) = some x
      ∧ s.frame.strobe + 500000 ≤ max s.now 500000 ∧ s.frame.replay = .none ∧ s.ridge.restore = false ∧ s.rst.up = .up
      ∧ s.frame.nextSub ≤ 7 ∧ s.frame.strobe + s.frame.nextSub * s.frame.period * 1000000 / 8 ≤ max s.now 2400000 + 100000
      ∧ s.laneA.runs = true ∧ [SnapCopy.intact].head? = some .intact := by decide +kernel

/-- A frame whose window is open, one whose window is over, an entry in the outbox that is read. -/
theorem witness_BackgroundWorkAndOutbox :
    let s : State := { State.reset with frame.current := some (State.reset.snapshot 0 []), now := 6000000 }
    s.rst.up = .up ∧ s.unitHeld 0 = false ∧ s.frame.current.isSome = true ∧ s.frame.window = 0 ∧ s.frame.window ≠ 2
      ∧ s.windowStart ≤ max s.now 0 ∧ max s.now 0 < s.windowEnd ∧ s.windowItems.length ≤ 4
      ∧ s.windowEnd ≤ max s.now 17000000 ∧ s.windowItems.contains 1 = true ∧ (s.lane .a).runs = true
      ∧ (let e := OutEntry.event (s.makeEvent 0x0201 0 [])
         let v : State := { State.reset with laneA.outbox := [e] }
         (v.lane v.lead).outbox = e :: []) := by decide +kernel

/-- An overload current timed since 0, an open circuit timed since 0, and an overload whose test is due. -/
theorem witness_AntennaBiasStates :
    State.reset.unitHeld 0x30 = false ∧ bit (State.reset.paramN 0x11020003) 0 = true
      ∧ (State.reset.gnss.antenna 0).bias = .ok
      ∧ (let s : State := { State.reset with now := 10000000, gnss.antA.highSince := some 0 }
         (s.gnss.antenna 0).highSince = some 0 ∧ 0 + 10000000 ≤ max s.now 0)
      ∧ (let s : State := { State.reset with now := 100000000, gnss.antB.lowSince := some 0 }
         (s.gnss.antenna 1).lowSince = some 0 ∧ 0 + 100000000 ≤ max s.now 0)
      ∧ bit (({ State.reset with params := [(0x11020003, 0)] } : State).paramN 0x11020003) 0 = false
      ∧ (let s : State := { State.reset with gnss.antA.bias := .overload, gnss.antA.retestDue := some 7 }
         (s.gnss.antenna 0).bias = .overload ∧ (s.gnss.antenna 0).retestDue = some 7 ∧ 7 ≤ max s.now 9) := by
  decide +kernel

/-- One channel in frequency lock since 0 beside another. -/
theorem witness_ChannelsPassThroughLock :
    let a : Acquired := { sys := 0, svid := 3, gloK := 0 }
    let c : Channel := newChannel 0 0 a 0 0
    let d : Channel := newChannel 1 0 a 0 0
    let s : State := { State.reset with gnss.channels := [] ++ c :: [d] }
    s.tracking = true ∧ s.gnss.channels = [] ++ c :: [d] ∧ c.ant = 0 ∧ c.ch = 0
      ∧ (∀ x ∈ [] ++ [d], ¬ (x.ant = 0 ∧ x.ch = 0)) ∧ c.locked = true ∧ c.stage = .fll ∧ c.since ≤ 0
      ∧ 0 + 200000000 ≤ max s.now 200000000 ∧ d.ant ≤ 1 ∧ d.locked = true ∧ s.gnss.lostAll = false
      ∧ ({ s.gnss with restarting := false } : Gnss).restarting = false ∧ 0 < s.loopParam c.signal 6
      ∧ ({ c with stage := .lost } : Channel).stage = .lost ∧ c.since + 60000000000 ≤ max s.now 60000000000 := by decide +kernel

/-- No demand with a run due, an idle engine with a lost channel to search, and engines in their last block. -/
theorem witness_ChannelsAreAssigned :
    let lost : Channel := { newChannel 0 0 { sys := 0, svid := 5, gloK := 0 } 0 0 with stage := .lost }
    let e : AcqEngine := { ant := 0, sys := 0, svid := 5, gloK := 0, know := .noneWarm, done := 147, cell := none }
    let s : State := { State.reset with gnss.latchAt := some 0, gnss.channels := [lost], gnss.engines := [(3, e)] }
    s.tracking = true ∧ s.gnss.managerDue = true ∧ (s.demand []).length ≤ 192 ∧ s.gnss.capacity = false
      ∧ assoc s.gnss.engines 2 = none ∧ s.searchable 0 0 5 = true ∧ assoc s.gnss.engines 3 = some e
      ∧ e.know.bins e.sys * (e.know.blocks e.sys - 1) ≤ e.done
      ∧ (let d : AcqEngine := { e with done := 7, cell := some (3, 9) }
         d.cell = some (3, 9) ∧ e.know.blocks e.sys ≤ d.done + 1 ∧ 0 + 1 < e.know.blocks e.sys) := by decide +kernel
/-- A sum above the threshold and one below it, whatever the threshold is. -/
theorem witness_detects (n : Nat) : detects (n + Config.detectionThreshold + 1) n = true ∧ detects 0 n = false := by
  simp [detects]
/-- A demand above 192 channels. -/
theorem witness_capacity :
    let v : SatView := { sys := 0, svid := 1, elev := none, signals := List.replicate 193 0 }
    192 < (({ State.reset with gnss.acquired := [{ sys := 0, svid := 1, gloK := 0 }] } : State).demand [v]).length := by decide +kernel

/-- A first data set with room and without, the same set again, a store written 30 min ago, and an epoch not complete. -/
theorem witness_NavigationDataIsKeptAndSent :
    let n : NavSet := { sys := 0, svid := 4, kind := 0, signal := 0, iod := 1, nbits := 8, rxMono := 0, bits := [1] }
    let c : Channel := newChannel 0 0 { sys := 0, svid := 4, gloK := 0 } 0 0
    let s : State := { State.reset with gnss.channels := [c] }
    let full : State := { State.reset with gnss.ephCount := 15 }
    let held : State := { State.reset with gnss.store := [{ set := n, validTo := 0, healthy := true }] }
    let old : State := { State.reset with now := 1800000000000 }
    let late : State := { State.reset with frame.gnssPending := [{ source := 0x100, samples := [] }] }
    s.tracking = true ∧ svidValid n.sys n.svid = true ∧ signalOf n.sys n.signal = true
      ∧ s.gnss.tracks n.sys n.svid n.signal = true ∧ n.kind ≤ 3 ∧ s.gnss.navFresh n = true
      ∧ s.gnss.ephCount < 15 ∧ 15 ≤ full.gnss.ephCount ∧ held.gnss.navFresh n = false ∧ old.unitHeld 0x30 = false
      ∧ old.gnss.assistAt + 1800000000000 ≤ max old.now 0 ∧ late.frame.gnssPending ≠ []
      ∧ late.frame.strobe + 150000 ≤ max late.now 150000 := by decide

/-- A chain with both notches free, one whose notch 1 has been low since 0, and an indicator set since 0. -/
theorem witness_NotchesAndSpoofingIndicators :
    State.reset.unitHeld 0x30 = false ∧ State.reset.gnss.engines = [] ∧ State.reset.gnss.rfTest = none
      ∧ State.reset.gnss.chains.filter (fun c => c.ant = 1 ∧ c.chain = 2) = [RfChain.reset 1 2]
      ∧ (RfChain.reset 1 2).flags = 0#4 ∧ (RfChain.reset 1 2).lastEvent = none ∧ (RfChain.reset 1 2).scanDue 0 = true
      ∧ (let c : RfChain :=
           { RfChain.reset 0 0 with notch1 := { engaged := true, line := 4, lowSince := some 0 }, flags := 2#4 }
         let b : SpoofBit := { set := true, lastMet := 0, sats := [] }
         let s : State := { State.reset with now := 60000000000, gnss.chains := [c], gnss.spoof := [b] }
         s.gnss.chains.filter (fun c => c.ant = 0 ∧ c.chain = 0) = [c] ∧ c.notch1.lowSince = some 0
           ∧ 0 + 10000000000 ≤ max s.now 0 ∧ s.gnss.spoof[0]? = some b ∧ 0 + 60000000000 ≤ max s.now 0) := by decide
/-- The scan engages the notch and the release frees it again (R150, R151). -/
theorem test_notch_engages :
    (match exec (.spectrumScan 5 1 2 [(77, 1500)]) State.reset with
     | .next u => (u.gnss.chains.filter (fun c => c.ant = 1 ∧ c.chain = 2)).map fun c => (c.notch1.line, c.flags)
     | _ => []) = [(77, 2#4)] := by decide

/-- GNSS valid; one that no longer delivers; a source valid since 0 with none, the operator or another selected; sources in conflict since
0. -/
theorem witness_TimeSourcesQualifyAndAreSelected :
    let x : TimeSource := { TimeSource.reset with valid := true }
    let s : State := { State.reset with now := 10000000000, gnss.solValid := true, time.gnss := x }
    let v : State := { s with time.source := 2 }
    let w : State := { s with now := 9000000000000, time.source := 2, time.gnss.qualified := true }
    let far : TimeSource := { x with qualified := true, e := 900000000 }
    let m : PtpMaster := { priority1 := 128, clockClass := 6, accuracy := 0, variance := 0, priority2 := 128, identity := 1, steps := 0 }
    let c : State :=
      { w with
        time.ptp1.st := .slave
        time.ptp1.master := some m
        time.ptp1.offset := some 0
        time.ptp1Src := far
        time.conflictSince := some 0 }
    s.sourceValid 1 = true ∧ ({ s with gnss.solValid := false } : State).sourceValid 1 = false ∧ s.time.source ≠ 1
      ∧ (s.time.src 1).valid = true ∧ (s.time.src 1).qualified = false
      ∧ (∀ m ∈ [1, 2, 3], (s.time.src m).valid = true → s.sourceValid m = true)
      ∧ (s.time.src 1).validSince + 10000000000 ≤ max s.now 0 ∧ (s.time.src 1).maxE - (s.time.src 1).minE ≤ qualLimit 1
      ∧ s.time.source = 0 ∧ 1 ∈ s.priority ∧ v.time.source ≠ 0 ∧ v.time.source ≠ 4
      ∧ (w.time.src 1).qualified = true ∧ w.rank 1 < w.rank w.time.source
      ∧ (w.time.src 1).qualSince + w.paramN 0x12010008 * 1000000000 ≤ max w.now 0
      ∧ (∀ m ∈ [1, 2, 3], (c.time.src m).valid = true → c.sourceValid m = true) ∧ (c.tick 0).conflicting = true
      ∧ c.time.conflictTold = false ∧ c.time.conflictSince = some 0 ∧ 0 + 10000000000 ≤ max c.now 0 := by decide +kernel

/-- Holdover entered at 0 and at its limit; a warming OCXO that has not failed. -/
theorem witness_HoldoverAndTheOcxo :
    let h : Holdover := { entry := 0, u0 := 20, temp0 := 0, dT := 0 }
    let s : State := { State.reset with now := 864000000000000, time.st := .holdover, time.hold := some h }
    s.time.st = .holdover ∧ s.time.hold = some h ∧ h.entry + s.paramN 0x12010004 * 1000000000 ≤ max s.now 0
      ∧ s.time.warming = true ∧ s.time.ocxoFail = false ∧ State.reset.time.st ≠ .unsynchronised := by decide +kernel
/-- A second not served; a step not due, one due, one with a small error; a leap second whose time has come. -/
theorem witness_StepsAndLeapSeconds :
    let p : PendingStep := { e := 5000000, announced := true, pulses := 0, confirmed := false, lowSince := some 0 }
    let s : State := { State.reset with now := 2000000000, time.pending := some p, time.leap := 1, time.leapStart := 1 }
    (∀ m ∈ [1, 2, 3], (s.time.src m).valid = true → s.sourceValid m = true)
      ∧ s.time.nextPulse ≤ (s.tick 0).taiS ∧ State.reset.time.pending = none ∧ s.time.pending = some p
      ∧ s.stepDue p = false ∧ s.stepDue { p with announced := false } = true ∧ p.announced = true
      ∧ 0 + 2000000000 ≤ max s.now 0 ∧ s.time.leap ≠ 0 ∧ (s.time.leapStart : Int) + s.time.leap ≤ (s.tick 0).taiS := by decide +kernel

/-- An enabled instance in SLAVE with an exchange waiting for its Delay_Resp, and one in MASTER with room and without; a whole RTCM
message. -/
theorem witness_PtpInstancesServeTheirPorts :
    let x : PtpExchange := { syncSeq := 1, t1 := some 100, t2 := 150, reqSeq := 2, t3 := some 200, stepGen := false }
    let s : State :=
      { State.reset with
        now := 900000000000, params := [(0x12020001, 1)], time.ptp1.st := .slave, time.ptp1.exchange := some x }
    let m : State := { s with time.ptp1.st := .master }
    let q : TxStamp := { seq := 0, msgType := 0, domain := 0, tsS := 0, tsNs := 0, tstatus := 0 }
    let f : State := { m with time.txA.entries := List.replicate 16 q }
    s.unitHeld 0x31 = false ∧ s.paramN (ptpBase 2 + 1) = 1 ∧ (s.time.ptp 2).st = .slave
      ∧ (s.time.ptp 2).exchange = some x ∧ x.t1 = some 100 ∧ x.t3 = some 200 ∧ x.stepGen = s.time.stepGen
      ∧ (m.time.ptp 2).st = .master ∧ (s.time.ptp 2).st ≠ .master
      ∧ (s.time.ptp 2).lastAnnounce + s.paramN (ptpBase 2 + 11) * 2 ^ s.paramN (ptpBase 2 + 9) * 1000000000 ≤ max s.now 0
      ∧ (m.time.txq (m.paramN (ptpBase 2 + 2))).entries.length < 16
      ∧ 16 ≤ (f.time.txq (f.paramN (ptpBase 2 + 2))).entries.length
      ∧ (let r : List Byte := [0xD3, 0, 0]
         let d := r ++ be 3 (crc24q r).toNat
         rtcmFrames d.length d = ([d], 0)) := by decide +kernel
/-- Another clock's identity than the module's, whatever that is. -/
theorem witness_anotherClock : ∃ sender : Nat, sender ≠ Config.ptpIdentity.toNat := ⟨Config.ptpIdentity.toNat + 1, by omega⟩

/-- Both links up; a copy that is not isolated and late, and one that is isolated; a mark on a link; half a second. -/
theorem witness_HostCopyOfModuleTime :
    let s : State := { State.reset with now := 10000000, eaves.symbols := [(0, .timeMark)] }
    let v : State := { s with time.host.isolated := true }
    s.eaves.link0.up = true ∧ ((s.tick 0).taiNsTotal / 1000000).toNat * 1000000 ≠ s.time.lastMark
      ∧ 500000000 ≤ (s.tick 600000000).taiNs ∧ s.time.label = none ∧ s.linkUp = true ∧ s.eaves.labelCredits < 16
      ∧ s.eaves.waitingLabels = [] ∧ s.eaves.symbols.contains (s.time.markLink, .timeMark) = true
      ∧ s.time.host.isolated = false ∧ s.time.host.lastMark + 10000000 ≤ max s.now 0 ∧ s.time.host.slewLeft = 0
      ∧ s.time.host.stepWaiting = none ∧ s.time.markLink = 0
      ∧ v.time.host.isolated = true ∧ ((5 : Int).natAbs : Int) * 10 ≤ v.stepThreshold
      ∧ v.stepThreshold < ((9000000 : Int).natAbs : Int) * 10 := by decide +kernel

/-- Reference 3 of lane A: silent, suspect for 10 s, rejected for 60 s. -/
theorem witness_ReferencesFollowTheirTimers :
    (State.reset.lane .a).runs = true ∧ (State.reset.lane .a).fused = false
      ∧ (({ State.reset with laneA.fused := true } : State).lane .a).fused = true ∧ 3 < (State.reset.lane .a).core.fusion.refs.length
      ∧ (let e : RefState := { RefState.reset with deselected := false, suspect := true, shown := 2, suspectAt := 0, restart := false }
         e.code = 2 ∧ e.shown = 2 ∧ e.restart = false ∧ e.suspectAt + State.reset.paramN 0x1001000A * 1000000000 ≤ 10000000000)
      ∧ (let e : RefState := { RefState.reset with deselected := false, suspect := false, rejected := true, shown := 3, passSince := 0 }
         e.code = 3 ∧ e.shown = 3 ∧ e.passSince + State.reset.paramN 0x1001000B * 1000000000 ≤ 60000000000) := by decide +kernel

/-- Track 2 of lane A 10 s after its last sample, followed; a shadow with one difference. -/
theorem witness_TargetTracksAndRefinement :
    (State.reset.lane .a).runs = true ∧ 2 < (State.reset.lane .a).core.fusion.targets.length
      ∧ 0 + State.reset.paramN 0x10040002 * 1000000000 ≤ 10000000000
      ∧ 0 + State.reset.paramN 0x10040001 * 1000000 ≤ 2000000000
      ∧ 2000000000 < 0 + State.reset.paramN 0x10040002 * 1000000000
      ∧ Mode.isDp .autoPosition = true ∧ Mode.isDp .standby = false
      ∧ (∃ s : State, s.paramN 0x10060001 ≠ 0) := by
  refine ⟨by decide, by decide, by decide +kernel, by decide +kernel, by decide +kernel, by decide, by decide, ?_⟩
  exact ⟨{ State.reset with params := assocSet State.reset.params 0x10060001 1 }, by decide +kernel⟩
/-- A shadow short of the estimate in both components moves by one step of 0.1 mm. -/
theorem test_shadow_moves_one_step :
    (let x : Shadow :=
      { Shadow.start (State.reset.config.active.leggett 1) 1 0 with
        sumX := 30000, sumY := 30000, sumXX := 5, sumYY := 5, sumXY := 0, count := 1 }
     match ({ State.reset with
        now := 6000000000
        params := assocSet State.reset.params 0x10060001 1
        laneA.core.ctl.mode := .autoPosition
        laneA.core.shadows := [x] } : State) with
     | s =>
       (match exec (.refinementShadowStep 0) s with
        | .next u => (x.estimate.isSome, u.laneA.core.shadows.map fun (y : Shadow) => (y.x - x.x, y.y - x.y))
        | _ => (false, []))) = (true, [(1, 1)]) := by decide +kernel

/-- A lane with the snapshot of the frame, in MAINTENANCE and in STANDBY; a frame that carries a replay and one that does not, one in which
a case may run. -/
theorem witness_FramePhasesOfALane :
    let x := State.reset.snapshot 0 []
    let s : State := { State.reset with laneA.held := some x, frame.begun := true, now := 6000000 }
    (s.lane .a).runs = true ∧ s.frame.replay = .none ∧ (s.lane .a).held = some x ∧ (s.lane .a).reapply = false
      ∧ (s.lane .a).missed = [] ∧ s.frame.undecided = []
      ∧ (s.lane .a).core.ctl.mode = .standby ∧ s.frame.carries = false ∧ s.frame.katWindow = false ∧ s.frame.caseRun = false
      ∧ s.frame.strobe + 5000000 ≤ max s.now 0 ∧ max s.now 0 + 3000000 < s.frame.strobe + s.frame.period * 1000000
      ∧ (s.lane .a).auxFault = false ∧ (s.lane .a).core.cases.pointer < (s.lane .a).core.cases.cases.length
      ∧ ({ s with laneA.core.ctl.mode := .maintenance } : State).laneA.core.ctl.mode = .maintenance
      ∧ ({ s with laneA.auxFault := true } : State).laneA.auxFault = true
      ∧ ({ s with frame.carries := true } : State).frame.carries = true := by decide +kernel
/-- A frame in STANDBY gives a record of frame 0 with no demand (R88, R289, R378). -/
theorem test_standby_frame_delivers :
    (let s : State := { State.reset with laneA.held := some (State.reset.snapshot 0 []) }
     match exec (.fusionPhase 0 []) s with
     | .next u =>
       (match exec (.observerControlPhase 0) u with
        | .next v =>
          (match exec (.allocationPhase 0 .clean .clean) v with
           | .next x =>
             x.laneA.slot.map fun (r : LaneRecord) => (r.frame.toNat, r.tau, r.cstatus, r.snapshotLost, x.laneA.core.rewind.length)
           | _ => none)
        | _ => none)
     | _ => none) = some (0, (0, 0, 0), 0x70, false, 1) := by decide +kernel

/-- One element 12 at address 0, one 5 at address 1: every premise of the clauses holds. -/
theorem witness_BattenElementwiseInstructions :
    let e : Engine := { Engine.reset with
      data := [(0, 12#32), (1, 5#32)]
      coefs := [(0x8000, { value := 2, shift := 0 }), (0x8001, { value := 0, shift := 0 }), (0x8002, { value := 20, shift := 0 }),
        (0x8003, { value := 100, shift := 0 }), (0x8004, { value := 300, shift := 0 })] }
    let s : State := { State.reset with laneA.core.engine := e }
    (s.lane .a).runs = true ∧ (e.ctx false).m * (e.ctx false).n ≤ 4096 ∧ InRange (e.int 0 + e.int 1) ∧ e.int 1 ≠ 0 ∧ 0 ≤ e.int 0
      ∧ (e.table 0x8000).Pairwise (fun a b => a.1 < b.1) ∧ (e.table 0x8000)[0]? = some (0, 100)
      ∧ (e.table 0x8000)[1]? = some (20, 300) ∧ (0 : Int) ≤ e.int 0 ∧ e.int 0 < 20 ∧ ¬ (e.int 0 = 0 ∧ e.int 1 = 0) := by
  unfold InRange
  decide +kernel
/-- DIV of 7 by −2 is −3.5, rounded half up −3; ISQRT of 12 is 3 (R267). -/
theorem test_div_and_root :
    (let e : Engine := { Engine.reset with data := [(0, 7#32), (1, 0xFFFFFFFE#32), (2, 12#32)] }
     let s : State := { State.reset with laneA.core.engine := e }
     let r : BRun := { lane := .a, inertial := false, cls := 4, slot := 0, fault := false }
     let f : BFields := { fmt := 0, acc := false, osh := 0, mod := false, dst := 8, srca := 0, srcb := 1 }
     let out (x : Host.Outcome State Fault Refusal) : Int :=
       match x with
       | .next u => u.laneA.core.engine.int 8
       | _ => 99
     (out (exec (.div r f) s), out (exec (.isqrt r { f with srca := 2 }) s))) = (-3, 3) := by decide +kernel

/-- The engine after reset has the shape 1 × 1 × 1, and one product of two words fits the accumulator. -/
theorem witness_BattenMatrixInstructions :
    let e : Engine := { Engine.reset with data := [(0, 12#32), (1, 5#32)] }
    let s : State := { State.reset with laneA.core.engine := e }
    (s.lane .a).runs = true ∧ 1 ≤ (e.ctx false).m ∧ (e.ctx false).m ≤ 64 ∧ 1 ≤ (e.ctx false).n ∧ 1 ≤ (e.ctx false).k
      ∧ InRange (shrRound (e.int 1 * e.int 0) 0) ∧ -2361183241434822606848 ≤ e.int 1 * e.int 0
      ∧ e.int 1 * e.int 0 ≤ 2361183241434822606847 := by
  unfold InRange
  decide +kernel
/-- The surge row of R307: the demand of the worked example. -/
theorem test_mvd_multiplies :
    (let e : Engine := { Engine.reset with data := [(0, 12#32), (32, 5#32)] }
     let s : State := { State.reset with laneA.core.engine := e }
     let r : BRun := { lane := .a, inertial := false, cls := 4, slot := 0, fault := false }
     let f : BFields := { fmt := 0, acc := false, osh := 1, mod := false, dst := 8, srca := 0, srcb := 32 }
     match exec (.mvd r f) s with
     | .next u => (u.laneA.core.engine.int 8, (u.laneA.core.engine.fg.acc.head?.getD 0), u.laneA.core.engine.fg.pc)
     | _ => (0, 0, 0)) = (30, 60, 1) := by decide +kernel

/-- Two large words whose sum saturates, a zero divisor, a negative radicand, a pair (0, 0) and a table above the input. -/
theorem witness_BattenExceptionsReachTheStatusWord :
    let e : Engine := { Engine.reset with
      data := [(0, 0x7FFFFFFF#32), (1, 0x7FFFFFFF#32), (2, 0xFFFFFFFF#32)]
      coefs := [(0x8000, { value := 2, shift := 0 }), (0x8001, { value := 10, shift := 0 }), (0x8002, { value := 20, shift := 0 }),
        (0x8003, { value := 100, shift := 0 }), (0x8004, { value := 300, shift := 0 })] }
    let s : State := { State.reset with laneA.core.engine := e }
    (s.lane .a).runs = true ∧ (e.ctx false).m = 1 ∧ (e.ctx false).n = 1 ∧ ¬ InRange (e.int 0 + e.int 1) ∧ e.int 3 = 0 ∧ e.int 2 < 0
      ∧ e.int 4 = 0 ∧ 2361183241434822606847 < Coef.term { value := 2147483647, shift := -16 } (e.int 0) ∧ e.table 0x8000 = [(10, 100), (20, 300)] ∧ e.int 3 < 10 ∧ InRange 100 := by
  unfold InRange
  decide +kernel

/-- A lane that runs with a free foreground; with a program of class 5 running in slot 3; with four programs waiting. -/
theorem witness_BattenProgramsStartAndEnd :
    let p : Program := { cls := 5, slot := 3, designP := 20, lo := 0, hi := 0, code := [] }
    let e : Engine := { Engine.reset with programs := [p], fg := Context.reset.start 3, queue := [1, 2, 4, 5] }
    let s : State := { State.reset with laneA.core.engine := e }
    (s.lane .a).runs = true ∧ e.converting = true ∧ Engine.reset.converting = false ∧ e.inertialWaits = none ∧ e.programAt 3 = some p
      ∧ p.code.drop e.fg.pc = [] ∧ (e.runOut false).inertialWaits = none ∧ 4 ≤ e.queue.length ∧ e.fg.slot ≠ none ∧ s.lead = .a ∧ e.inertial.slot = none
      ∧ Engine.reset.fg.slot = none ∧ Engine.reset.queue = []
      ∧ (({ State.reset with laneA.inReset := true } : State).lane .a).runs = false := by decide +kernel

/-- A due sample without earlier ones; a blend past its last frame with a level held. -/
theorem witness_SeaStateSamplesAndGainBlends :
    let x : Control := { Control.reset with sampleDue := some 9, blend := 51, heldLevel := some 2 }
    let s : State := { State.reset with laneA.core.ctl := x }
    (s.lane .a).runs = true ∧ x.samples.length < 15 ∧ s.paramN 0x2001000B < x.blend ∧ 2 ≠ s.laneA.core.engine.level
      ∧ Control.reset.blend ≤ s.paramN 0x2001000B ∧ Control.reset.sampleDue = none := by decide +kernel

/-- Actuator 1 of lane A: active with the condition met, in rundown, in transit, and ready 2 s ago. -/
theorem witness_ActuatorsFollowTheirTimers :
    let a : ActState := { ActState.reset with typ := 0, readyAt := some 0, ready := true, wasAvail := true, metRun := 1000000 }
    let e : ActEntry := { ActEntry.of (List.replicate 256 0) with typ := 0, fbTimeout := 1000 }
    (State.reset.lane .a).runs = true ∧ a.typ = e.typ ∧ 1 < (State.reset.lane .a).core.alloc.acts.length
      ∧ State.reset.paramN 0x21010008 ≤ a.metRun ∧ 0 < State.reset.paramN 0x21010008
      ∧ (dispatchedOf (((State.reset.lane .a).held.map (·.sections)).getD [])).getD 1 (0, 0) = (0, 0)
      ∧ { a with st := .transit, transitDue := 5 }.fit e 5 = true ∧ 0 + e.fbTimeout * 1000000 < 2000000000 := by decide +kernel

/-- Case 3 with a FAIL series 100 000 frames old; a closing contact that sheds when closed, and one that sheds when open. -/
theorem witness_AlarmsOfFailureCasesAndLoadShed :
    let s : State := { State.reset with frame.number := 100000 }
    (s.lane .a).runs = true ∧ 0 ≤ 1000 ∧ 3000 ≤ 3000 ∧ bit s.laneA.core.cases.failAlm.toNat 3 = false ∧ bit (8#32).toNat 3 = true
      ∧ (s.paramN 0x22010007 * 1000 + s.frame.period - 1) / s.frame.period ≤ (s.frame.number - BitVec.ofNat 32 0).toNat
      ∧ (s.paramN 0x22010008 * 1000 + s.frame.period - 1) / s.frame.period ≤ (s.frame.number - BitVec.ofNat 32 0).toNat
      ∧ s.out.ls1.closed = false ∧ s.paramN 0x22040001 ≠ 1 ∧ s.out.ls1.applied = false ∧ s.fio.inhibit = false
      ∧ s.peer.duty = .duty ∧ s.ridge.holdStage = .none ∧ s.out.ls2.applied = false
      ∧ ({ s with out.ls1.closed := true } : State).out.ls1.closed ≠ false := by decide +kernel

/-- Two equal records of frame 0; a present record and an absent one; the health states. -/
theorem witness_EqualRecordsAreReleased :
    let r : LaneRecord := { LaneRecord.lost State.reset with snapshotLost := false }
    let s : State := { State.reset with laneA.slot := some r, laneB.slot := some r }
    s.frame.replay = .none ∧ s.ridge.spoilt = false ∧ s.ridge.health = .healthy ∧ s.slotOf .a false false = some r
      ∧ s.slotOf .b false false = some r ∧ r.faulty = false ∧ recordsEqual (some r) none = false
      ∧ (isLost (some r) && isLost none) = false ∧ s.laneA.excluded = false ∧ s.ridge.rejoin = none
      ∧ ({ s with laneB.excluded := true, ridge.health := .degraded } : State).laneB.excluded = true := by decide +kernel

/-- A replay stage, a known-answer stage of frame 4, and a health reset with handle 1. -/
theorem witness_MismatchesAreDecided :
    let r : LaneRecord := { LaneRecord.lost State.reset with snapshotLost := false }
    let s : State := { State.reset with laneA.slot := some r, laneB.slot := some r, frame.replay := .replay }
    s.frame.replay = .replay ∧ s.ridge.spoilt = false ∧ s.slotOf .a false false = some r ∧ s.slotOf .b false false = some r
      ∧ r.faulty = false ∧ recordsEqual (s.slotOf .a true false) (s.slotOf .b false false) = false
      ∧ s.laneA.excluded = false ∧ s.laneB.excluded = false ∧ 14 ≤ s.frame.period
      ∧ (let v : State := { s with frame.replay := .knownAnswer, ridge.withheld := some 4, ridge.katDue := true }
         v.ridge.withheld = some 4 ∧ v.ridge.katDue = true)
      ∧ (let v : State := { s with ridge.healthReset := some 1, ridge.equalRun := 50, frame.katWindow := true }
         v.ridge.healthReset = some 1 ∧ v.ridge.healthResetKat = false ∧ v.frame.katWindow = true ∧ 50 ≤ v.ridge.equalRun)
      ∧ (let v : State := { s with laneB.excluded := true }; v.laneB.excluded = true) ∧ s.ridge.equalRun < 50 := by decide +kernel

/-- Frozen commands, a lane excluded for a minute, and a rejoin in each of its steps. -/
theorem witness_HoldsRampAndLanesRejoin :
    let s : State := { State.reset with ridge.health := .degraded, laneB.excluded := true, ridge.holdStage := .frozen }
    let j : Rejoin :=
      { lane := .b, step := 1, frameK := none, caught := false, passed := 0, equalRun := 250, handle := none, startedAt := 0 }
    s.unitHeld 0 = false ∧ s.ridge.holdStage = .frozen ∧ s.ridge.holdSince + s.paramN 0x70010001 * 1000000 ≤ 100000000000
      ∧ ({ s with params := assocSet s.params 0x70010004 1 } : State).paramN 0x70010004 = 1 ∧ s.laneA.excluded = false
      ∧ s.laneB.excluded = true ∧ s.config.commit = none ∧ s.ridge.rejoin = none ∧ s.ridge.failedB < 3
      ∧ s.ridge.excludedAt + 60000000000 ≤ 100000000000 ∧ j.step ≤ 2 ∧ j.handle = none
      ∧ (({ s with frame.number := 600 } : State).frame.number - 0).toNat ≥ 500 := by decide +kernel

/-- A message too short, one of the peer's, a link that is up, and both modules in duty for 3 frames. -/
theorem witness_PeerMessagesAndDuty :
    let msg := pduBytes 0x710100B1 5 (List.replicate 64 0)
    let s : State := { State.reset with
      peer.conn.st := .run
      peer.conn.lastSeq := some 4
      peer.up := true
      peer.duty := .duty
      peer.dualRun := 3
      peer.readySince := some 0 }
    s.unitHeld 0x31 = false ∧ s.peerPduOk [] = false ∧ s.peerPduOk msg = true ∧ s.peer.conn.st = .run
      ∧ s.peer.conn.lastSeq = some (field msg 0 2 + 65535 - 65536 * b2n (decide (1 ≤ field msg 0 2)))
      ∧ s.peer.up = true ∧ s.peer.conn.lastAt + s.paramN 0x71010003 * 1000000 ≤ 100000000000 ∧ s.peer.duty = .duty
      ∧ 3 ≤ s.peer.dualRun ∧ s.paramN 0x71010002 ≠ 1 ∧ bit 1 0 = true ∧ bit 0 0 = false
      ∧ ({ s with params := assocSet s.params 0x71010002 1 } : State).paramN 0x71010002 = 1
      ∧ s.peer.data = none := by decide +kernel
/-- A peer data message with a right CRC. -/
theorem witness_PeerMessagesAndDuty_data :
    ∃ d : List Byte, (d ++ le 4 (crc32c d).toNat).length = 228 ∧ crcOk (d ++ le 4 (crc32c d).toNat) 224 = true :=
  ⟨List.replicate 224 0, by rw [List.length_append, List.length_replicate, length_le], crcOk_append (List.replicate 224 0)⟩

/-- A channel whose circuit ES1 is in mode 1 with T = 50 and a transition under way; one whose circuit is in NAMUR mode. -/
theorem witness_SafetyCircuitsLatchTheirFaults :
    let k : SafetyChannel := { SafetyChannel.start SafetyTables.reset with
      tables := { SafetyTables.reset with circuits := [(0, [1#8, 0#8, 50#8, 0#8])] }
      inputs := List.replicate 18 true
      circuits := [{ Circuit.reset with moving := true, count := 49 }, .reset, .reset, .reset] }
    let s : State := { State.reset with safety.x := k }
    let n : SafetyChannel := { k with tables := { SafetyTables.reset with circuits := [(0, [3#8, 1#8, 50#8, 0#8])] } }
    0 < k.circuits.length ∧ k.mode 0 ≠ 0 ∧ (k.circuit 0).moving = true ∧ k.discTime 0 ≤ (k.circuit 0).count + 1
      ∧ (k.circuit 0).latched = 0 ∧ k.swapDue = false ∧ 1 ≤ k.discTime 0 ∧ (k.circuitInputs 0).1 = true
      ∧ (∀ j, j < 4 → (k.mode j = 1 ↔ j = 0)) ∧ s.safety.chan .x = k ∧ n.mode 0 = 3
      ∧ 12 = 12 + 2 * (entryField n.tables.circuits 0 1 1 - 1) ∧ namurFault 50 = true ∧ namurFault 1000 = false
      ∧ s.safety.running = false ∧ k.tickOff 7 = false ∧ k.inbox = [] ∧ k.heldRestart = false ∧ k.heldReset = none
      ∧ k.pulseDue 1 5 = true ∧ s.safety.restart = none
      ∧ crcOk (changedBytes (gatewayMessage 1 0 1) [1#8]) 4 = false
      ∧ (∀ i, i < 4 → (SafetyChannel.start SafetyTables.reset).mode i ≠ 1) := by decide +kernel

/-- A permit that is on with SWITCH_TEST and FB_ENABLE and its feedback awaited; a unit in STARTING ready for its self-test. -/
theorem witness_SafetyUnitStatesAndSupply :
    let k : SafetyChannel := { SafetyChannel.start SafetyTables.reset with
      tables := { SafetyTables.reset with permits := [(0, [7#8, 0#8, 44#8, 1#8])] }
      missing := 2
      inputs := List.replicate 18 true
      permits := [{ Permit.reset with on := true, switchedAt := some 0 }, .reset, .reset, .reset] }
    let s : State := { State.reset with safety.x := k, safety.su := .run }
    s.safety.su ≠ .safeFault ∧ s.safety.testDue .x 0 5 = true ∧ bit (entryField k.tables.permits 0 0 1) 2 = true ∧ (k.permit 0).on = true ∧ 2 ≤ k.missing
      ∧ k.fbEnabled 0 = true ∧ (k.permit 0).switchedAt = some 0 ∧ 0 + entryField k.tables.permits 0 2 2 * 1000000 ≤ 300000000
      ∧ (k.permit 0).followed = false ∧ k.input 8 = (k.permit 0).on ∧ (SafetyChannel.start SafetyTables.reset).missing < 2
      ∧ (let v : State := { State.reset with safety.su := .starting, safety.serialX := true, safety.serialY := true }
         v.safety.su = .starting ∧ v.safetyHeld = false ∧ v.safety.serialX = true ∧ v.safety.restart = none
           ∧ v.rst.bootFailed = []) := by decide +kernel

/-- A receive connection of LEN 1 in RUN with sequence number 4 and the PDU of number 5; a transmit connection. -/
theorem witness_XirosConnections :
    let e : List Byte := [0x44#8, 0#8, 0#8, 0#8, 1#8, 0#8, 1#8, 8#8, 100#8, 0#8] ++ List.replicate 22 0#8
    let b := pduBytes 0x44 5 [1#8]
    let x : Conn := { Conn.reset with st := .run, lastSeq := some 4 }
    let k : SafetyChannel := { SafetyChannel.start SafetyTables.reset with
      tables := { SafetyTables.reset with conns := [(0, e)] }
      conns := [x] }
    let s : State := { State.reset with rst.up := .up, safety.x := k, safety.y := k }
    s.transportHeld 0 = false ∧ (s.safety.x.tables.conns.find? fun p => connTakes p.2 0 0 0) = some (0, e)
      ∧ (s.safety.x.tables.conns.find? fun p => connTakes p.2 1 0 0) = none ∧ assoc s.safety.x.tables.conns 0 = some e ∧ u8 e 4 = 1 ∧ pduOk e [] = false ∧ pduOk e b = true ∧ u8 e 5 ≠ 2
      ∧ bit (u16 e 16) 0 = false ∧ 0 < s.safety.x.conns.length ∧ s.safety.x.conn 0 = x ∧ s.safety.y.conn 0 = x
      ∧ (field b 0 2 + 65536 - 4) % 65536 = 1 ∧ 1 ≤ u8 e 7
      ∧ ((s.safety.chan .x).conn 0).lastAt + entryField (s.safety.chan .x).tables.conns 0 8 2 * 1000000 ≤ 100000000
      ∧ 0 < s.safety.tx.length ∧ (s.safety.tx.getD 0 .reset).sentAt = none := by decide +kernel

/-- Channel 1 as an output of source COMMAND, and of source HOST, without faults. -/
theorem witness_OutputsFollowTheFirstRule :
    let e : List Byte := [2#8, 0#8, 0#8, 0#8, 0#8, 1#8, 1#8, 3#8]
    let b : Bank := { State.reset.config.active with
      tables := [(0x3002, [(0, e)])] }
    let s : State := { State.reset with config.active := b }
    s.unitHeld 0x21 = false ∧ s.fio.channels.length = 32 ∧ u8 (s.dioEntry 1) 0 = 2 ∧ u8 (s.dioEntry 1) 5 = 1
      ∧ u8 (s.dioEntry 2) 0 ≠ 2 ∧ (s.dio 1).forced = none ∧ (s.dio 1).restartWait = false ∧ s.fio.expired = false
      ∧ ({ s with peer.duty := .duty } : State).peer.duty = .duty ∧ (s.dio 1).pulsing = false ∧ (s.dio 1).hostExpired = false
      ∧ (let v : State := { s with params := assocSet s.params 0x30010003 1 }
         v.paramN 0x30010003 ≠ 0 ∧ (v.dio 1).hostAt + v.paramN 0x30010003 * 1000000000 ≤ 2000000000) := by decide +kernel

/-- Channel 1 as an input with the wire-break check, channel 2 as an output, channel 29 as an event input. -/
theorem witness_DigitalFaultsLatch :
    let b : Bank := { State.reset.config.active with
      tables :=
        [(0x3002, [(0, [1#8, 0#8, 0#8, 0#8, 2#8, 0#8, 0#8, 0#8]), (1, [2#8, 0#8, 0#8, 0#8, 0#8, 1#8, 0#8, 0#8]),
          (28, [1#8, 0#8, 0#8, 0#8, 16#8, 0#8, 0#8, 0#8])])] }
    let s : State := { State.reset with config.active := b }
    s.unitHeld 0x21 = false ∧ s.fio.channels.length = 32 ∧ u8 (s.dioEntry 1) 0 = 1 ∧ bit (u8 (s.dioEntry 1) 4) 1 = true
      ∧ (s.dio 1).wireBreak = false ∧ u8 (s.dioEntry 2) 0 = 2 ∧ (s.dio 2).cmd = false ∧ (s.dio 2).extDrive = false
      ∧ u8 (s.dioEntry 3) 0 = 0 ∧ u8 (s.dioEntry 29) 0 = 1 ∧ bit (u8 (s.dioEntry 29) 4) 4 = true
      ∧ (s.dio 2).overload = false ∧ (s.dio 2).readback = false
      ∧ s.paramN 0x71010001 ≠ 1 ∧ (s.dio 1).st = false ∧ dioReads (u8 (s.dioEntry 29) 1 = 3) (s.dio 29).st 24000 3000 ≠ (s.dio 29).st
      ∧ (let v : State := { s with fio.fld1.volts := 2400 }
         1000 + 1500 < 10 * (v.supplyOf 2).volts)
      ∧ 4000 < (((groupChannels 0).zipIdx.filter fun p => s.dioDir p.1 = 2).map fun p => [0, 4001].getD p.2 0).sum := by decide +kernel

/-- Terms, supplies and NAMUR inputs of the unit after reset; a term of constants with its delays over. -/
theorem witness_LogicSuppliesAndNamurInputs :
    let e : List Byte := [0xC1#8, 0xC1#8, 0xC1#8, 0xC1#8, 0#8, 0x80#8, 5#8, 0#8, 5#8, 0#8]
    let b : Bank := { State.reset.config.active with tables := [(0x3004, [(2, e)])] }
    let s : State := { State.reset with config.active := b }
    s.unitHeld 0x21 = false ∧ s.entry? 0x30 0x04 2 = some e ∧ s.entry? 0x30 0x04 3 = none ∧ bit (u16 e 4) 15 = true
      ∧ (s.fio.terms[2]?).isSome = true ∧ (∀ k, k < 4 → u8 e k = 0xC1)
      ∧ SupplyState.follow .normal 1800 1800 = .warning ∧ SupplyState.follow .normal 2400 2400 = .normal
      ∧ SupplyState.follow .normal 1100 1100 = .cutoff ∧ namurFault 50 = true ∧ namurFault 1000 = false ∧ (s.fio.namur[1]?).isSome = true := by decide +kernel

/-- Input AI1 in mode ±10 V after reset, with a calibration, and with its shunt open. -/
theorem witness_AnalogueInputsAndCalibration :
    let s : State := { State.reset with params := assocSet State.reset.params 0x31010001 1 }
    let x := AnalogIn.reset 1
    s.unitHeld 0x21 = false ∧ s.input? 1 = some x ∧ 20000 % 20000 = 0 ∧ (∀ i, i < 24 → s.entry? 0x32 0x02 i = none)
      ∧ x.cal = none ∧ inRange (s.inputMode 1) 1024000 = true ∧ inRange (s.inputMode 1) 8355841 = false ∧ x.shuntOpen = false
      ∧ ({ s with params := assocSet s.params 0x31010001 2 } : State).inputMode 1 = 2
      ∧ (let y : AnalogIn := { x with valid := true, shuntOpen := true }
         y.valid ≠ y.told ∧ y.validSince + 100000000 ≤ 2000000000 ∧ y.shuntAt + 1010000000 ≤ 2000000000)
      ∧ s.fio.sampledAt ≠ some 20000 ∧ s.inputMode 1 ≠ 0 ∧ s.power.pfSince = none ∧ x.calibrated 1 1024000 = 1024000
      ∧ (let k : Calibration := { handle := 1, start := some 0, phase := 1, held := 5 }
         k.holds 20000 = true ∧ 0 + 40000000 ≤ 40000000) := by decide +kernel
/-- 1.25 V on AI1 gives the code 1 024 000 of the worked example, and VALID. -/
theorem test_ai_code_is_taken :
    (let s : State := { State.reset with params := assocSet State.reset.params 0x31010001 1 }
     match exec (.adcSample 20000 [(1, 1024000)]) s with
     | .next u => (u.input? 1).map fun (x : AnalogIn) => (x.code, x.valid, x.overrange)
     | _ => none) = some (1024000, true, false) := by decide +kernel

/-- Pulse input 0 in mode 1 and in mode 4; a chain with a value; AO1 in mode 2 with a code of 10 000; WD frames without dispatch. -/
theorem witness_PulsesPackedSamplesAndOutputs :
    let e : List Byte := [1#8, 1#8] ++ List.replicate 30 0#8
    let b : Bank := { State.reset.config.active with tables := [(0x3103, [(0, [2#8])]), (0x3202, [(0, e)])] }
    let k : Chain := { Chain.restart with values := [5] }
    let s : State := { State.reset with
      config.active := b
      params := assocSet State.reset.params 0x3101001A 1
      fio.chains := [k]
      fio.outputs := [{ AnalogOut.reset with code := 10000 }]
      fio.undispatched := 100 }
    s.unitHeld 0x21 = false ∧ s.fio.pulses[0]? = some PulseIn.reset ∧ PulseIn.reset.a = false ∧ PulseIn.reset.lastA = none
      ∧ s.paramN 0x3101001A = 1 ∧ s.frame.begun = false ∧ (∀ j, j < 24 → s.entry? 0x32 0x02 j = if j = 0 then some e else none)
      ∧ 0 < s.fio.chains.length ∧ (s.chain 0).values ≠ [] ∧ Chain.restart.values = [] ∧ u8 (s.aoEntry 0) 0 = 2
      ∧ s.fio.outputs[0]? = some { AnalogOut.reset with code := 10000 } ∧ s.fio.inhibit = false ∧ s.fio.expired = false
      ∧ s.paramN 0x30010001 ≤ s.fio.undispatched := by decide +kernel

/-- BUS1 in NORMAL mode with one entry of a message, an unlocked and a locked mailbox; rate detection; the bus left. -/
theorem witness_BusControllersKeepTheirRules :
    let b : Bank := { State.reset.config.active with
      tables := [(0x4002, [(0, [1#8])]), (0x4003, [(0, [1#8, 0#8, 0#8, 0#8, 255#8, 7#8, 0#8, 0#8, 128#8, 0#8])]), (0x4004, [(0, [1#8])])] }
    let f : CanFrame := { id := 1, ide := false, fdf := false, brs := false, rtr := false, esi := false, data := [] }
    let e : TxEntry :=
      { owner := 0, frame := f, written := 0, lifetime := 2, attempts := 0, onWire := false, newer := none, expired := false }
    let k : BusCtl := { BusCtl.reset with buffers := [[e], [], [], []] }
    let s : State := { State.reset with config.active := b, buses.can := [k] }
    1 ≤ s.buses.can.length ∧ s.busRuns 1 = 1 ∧ k.busOff = false ∧ s.busFlag 1 0 = false ∧ k.rate = .programmed ∧ k.tec < 120
      ∧ s.filterMailbox 1 f = some 0 ∧ s.filterMailbox 1 { f with id := 2 } = none ∧ s.mailboxDest 1 0 = 1
      ∧ (k.mailboxes[0]?).map (fun (x : Mailbox) => (x.locked, x.shadow)) = some (false, none)
      ∧ u8 (s.busEntry 1) 3 = 0 ∧ 255 < k.tec + 256 ∧ k.detectHandle = none ∧ k.protEvent = none
      ∧ State.reset.busRuns 1 = 0 := by decide +kernel
/-- A lone node stays error passive at TEC 128 after 16 acknowledgement errors (R540, R541). -/
theorem test_lone_node :
    (let b : Bank := { State.reset.config.active with tables := [(0x4002, [(0, [1#8])])] }
     let f : CanFrame := { id := 1, ide := false, fdf := false, brs := false, rtr := false, esi := false, data := [] }
     let e : TxEntry :=
       { owner := 0, frame := f, written := 0, lifetime := 0, attempts := 15, onWire := true, newer := none, expired := false }
     let k : BusCtl := { BusCtl.reset with buffers := [[e], [], [], []], tec := 128, ackRun := 15 }
     let s : State := { State.reset with config.active := b, buses.can := [k] }
     match exec (.canTransmitAttempt 0 1 (.ackError false)) s with
     | .next u => ((u.bus 1).tec, (u.bus 1).noAck, (u.bus 1).busOff)
     | _ => (0, false, true)) = (128, true, false) := by decide +kernel

/-- SER1 with sentences and a slot for any of them, SER2 with binary messages of sync D0 D1; a sentence with a right checksum. -/
theorem witness_SerialPortsDeliverWholeMessages :
    let q : List Byte := [1#8, 2#8, 0#8, 0#8, 0#8, 0#8, 0#8, 0#8, 0xD0#8, 0xD1#8, 0#8, 0#8, 2#8, 2#8, 1#8, 4#8]
    let b : Bank := { State.reset.config.active with
      tables := [(0x4102, [(0, [1#8, 1#8]), (1, q)]), (0x4103, [(0, [1#8, 0#8, 0x3F#8, 0x3F#8, 0x3F#8, 0x3F#8, 0x3F#8])])] }
    let inner : List Byte := [0x41#8, 0x2A#8, 0x34#8, 0x31#8]
    let body := 0x24#8 :: inner ++ [0x0D#8, 0x0A#8]
    let s : State := { State.reset with config.active := b }
    s.unitHeld 0x11 = false ∧ 8 ≤ s.buses.ser.length ∧ u8 (s.serEntry 1) 0 = 1 ∧ u8 (s.serEntry 1) 1 = 1
      ∧ u8 (s.serEntry 3) 0 = 0 ∧ (body.drop 1).take (body.length - 3) = inner ∧ nmeaCheck inner = some true
      ∧ nmeaCheck [0x41#8, 0x2A#8, 0x34#8, 0x32#8] = some false ∧ s.serSlot 1 1 0 inner = some 0 ∧ body.length ≤ 82
      ∧ slice (s.serEntry 2) 8 (u8 (s.serEntry 2) 12) = [0xD0#8, 0xD1#8] ∧ u8 (s.serEntry 2) 1 = 2
      ∧ (s.ser 1).rx = [] ∧ (s.ser 1).inTag = false ∧ (s.ser 1).queue = [] ∧ (s.ser 1).tag = []
      ∧ u8 (s.serEntry 2) 3 * charTime (s.serEntry 2) ≤ 100000000000 := by decide +kernel

/-- A module with one open session of a SERVICE user that holds control, in a mode. -/
def hostReady (m : Mode) : State :=
  let x : Session := { newSession 1 3 3 1 0 0 [] [] with isOpen := true }
  let core (c : Core) : Core := { c with ctl := { c.ctl with mode := m } }
  let u : User := { number := 3, key := [], authority := 3, transports := 7 }
  { State.reset with
    rst.up := .up
    host.sessions := [x]
    host.holder := 1
    host.users := [u]
    laneA.core := core State.reset.laneA.core
    laneB.core := core State.reset.laneB.core }
/-- A request of that session, without its tag. -/
def hostReq : Req := { t := 5, transport := 1, session := 1, tag := 7 }
/-- The same with the authentication tag of its packet. -/
def hostSigned (s : State) (code handle : Nat) (p : List Byte) : Req :=
  match (s.tick 5).session? 1 1 with
  | some x => { hostReq with mac := some (authTag ((s.tick 5).sessionKey x) (hostReq.covered code handle p)) }
  | none => hostReq
/-- Everything that admits a request but for its authentication tag. -/
def hostAdmits (s : State) (code : Nat) (p : List Byte) : Bool :=
  let r := hostReq
  let s := s.tick 5
  match s.session? 1 1, opInfo? code with
  | some x, some o =>
    s.heard r && (x.stored.all fun k => !(decide (k.tag = r.tag) && decide (s.now < k.at_ + 10000000000)))
      && (x.newestTag.all fun n => seqLater 16 r.tag.toNat n.toNat)
      && decide (s.checkRights r o (s.needAuth o p) = stOk) && o.lengthOk p && decide (s.confinement o = stOk)
      && !s.rst.unitsDown.contains (unitServing code p)
      && (!o.field || (!s.host.fieldUnreachable && s.canCross o p && s.eaves.waitingCommands.isEmpty))
      && (!o.long || decide ((s.host.handles.filter fun h => h.outstanding).length < 64))
  | _, _ => false
/-- A request with the right authentication tag is admitted where the rest admits it. -/
theorem hostSigned_admitted {s : State} {code handle : Nat} {p : List Byte} (h : hostAdmits s code p = true) :
    s.admitsOn (hostSigned s code handle p) code handle p = true := by
  unfold hostAdmits at h
  unfold hostSigned State.admitsOn
  cases hx : (s.tick 5).session? 1 1 with
  | none => simp [hx] at h
  | some x =>
    cases ho : opInfo? code with
    | none => simp [ho] at h
    | some o =>
      simp only [hx, ho] at h
      simp only [Bool.and_eq_true] at h
      simp only [hostReq]
      simp only [hostReq] at hx h
      simp only [hx]
      obtain ⟨⟨⟨⟨⟨⟨⟨⟨h1, h2⟩, h3⟩, h4⟩, h5⟩, h6⟩, h7⟩, h8⟩, h9⟩ := h
      simp only [Bool.and_eq_true]
      exact ⟨⟨⟨⟨⟨⟨⟨⟨⟨h1, by simp [Req.covered]⟩, h2⟩, h3⟩, h4⟩, h5⟩, h6⟩, h7⟩, h8⟩, h9⟩
/-- The reads are admitted from that session. -/
theorem witness_ReadsAnswerFromTheState :
    let s := hostReady .standby
    (∀ c ∈ [0x0101, 0x0100, 0x5010, 0x1010, 0x2110, 0x2201, 0x1110, 0x1210, 0xA002, 0x9002, 0x8010],
        s.admits (hostSigned s c 0 []) c [] = true)
      ∧ (∀ x ∈ [(0x0110, [1, 0, 0, 0] ++ le 4 0x40080001), (0x0110, [1, 0, 0, 0] ++ le 4 0x01010001),
            (0x0112, le 2 1 ++ [0, 0] ++ le 4 0x80F30000), (0x0113, le 2 1 ++ [0, 0] ++ le 4 0x80F30000), (0x1203, [2, 0, 0, 0])],
          s.admits (hostSigned s x.1 0 x.2) x.1 x.2 = true)
      ∧ (s.readItem 0x01010001).isSome = true ∧ counterKnown 0x80F30000 = true ∧ s.hostUp = true := by
  refine ⟨fun c hc => hostSigned_admitted ?_, fun x hx => hostSigned_admitted ?_, by decide +kernel⟩
  · revert c hc; decide +kernel
  · revert x hx; decide +kernel
/-- TIME_STATUS from reset: OCXO_WARMING, FREE-RUN, the whole 8 bytes. -/
theorem test_time_status :
    (effTimeStatus (hostReady .standby) hostReq [] 0).payload.take 4 = [0x00#8, 0x20#8, 0#8, 0#8] := by decide +kernel
/-- IDENTIFY in session 0 runs and is answered at once. -/
theorem test_identify_outside_a_session :
    (match exec (.identify { hostReq with session := 0 } []) (hostReady .standby) with
     | .next u => u.host.replies.map fun (v : Reply) => (v.status, v.flags, v.payload.take 4)
     | _ => []) = [(0#16, 1, [0x4E#8, 0x47#8, 0x38#8, 0x2D#8])] := by decide +kernel

/-- Each of the commands is admitted from a session in control; a MODE_SET to JOYSTICK and one back, a reference in each state. -/
theorem witness_OperatorCommandsReachTheLanes :
    let p : List Byte := [0, 0, 0xFF, 0, 0, 0, 0, 0]
    let q : List Byte := [6, 0, 0xFF, 0, 0, 0, 0, 0]
    let s := hostReady .joystick
    let z : List Byte := List.replicate 20 0
    Mode.ofCode (field p 0 1) = some .standby ∧ modeEncodingOk p = true ∧ modeEncodingOk q = true ∧ s.peer.duty ≠ .twin
      ∧ s.bringupStatus hostReq .standby = stOk ∧ s.modeListStatus .standby 0xFF = stOk ∧ s.mode = .joystick
      ∧ (hostReady .maintenance).bringupStatus hostReq .standby = stOk
      ∧ s.laneA.runs = true
      ∧ (∀ x ∈ [(0x0201, p), (0x0202, z), (0x0203, []), (0x1001, z.take 4), (0x1002, z.take 4), (0x1003, z.take 4), (0x2101, z.take 4),
            (0x2102, z.take 4)], s.admits (hostSigned s x.1 0 x.2) x.1 x.2 = true) := by
  refine ⟨by decide +kernel, by decide +kernel, by decide +kernel, by decide +kernel, by decide +kernel, by decide +kernel,
    by decide +kernel, by decide +kernel, by decide +kernel, fun x hx => hostSigned_admitted ?_⟩
  revert x hx; decide +kernel
/-- A configured reference that is DESELECTED, SUSPECT or REJECTED, and a TRACK run held at a STOP waypoint. -/
theorem witness_OperatorCommandsReachTheLanes_states :
    let s0 := hostReady .track
    let c := s0.laneA.core
    let held : Core := { c with ctl := { c.ctl with held := .stop } }
    let s : State := { s0 with laneA.core := held }
    let e : List Byte := [1, 0] ++ List.replicate 100 0
    let b : Bank := { s.config.active with tables := [(0x1002, [(0, e)])] }
    (b.ref? 0).isSome = true ∧ (RefState.reset.code = 5 ∨ RefState.reset.code ≠ 5)
      ∧ ({ RefState.reset with deselected := false, stale := false, rejected := true } : RefState).code = 3
      ∧ ({ RefState.reset with deselected := true } : RefState).code = 5
      ∧ s.mode = .track ∧ s.core.ctl.held = .stop ∧ s.peer.duty ≠ .twin := by decide +kernel

/-- Each command is admitted; a pending step, the operator source, a satellite of GPS. -/
theorem witness_TimeAndSatelliteCommandsAct :
    let s0 := hostReady .standby
    let s : State := { s0 with
      time.pending := some { e := 5, announced := true, pulses := 0, confirmed := false, lowSince := none } }
    let p : List Byte := List.replicate 16 0
    (∀ x ∈ [(0x1201, []), (0x1202, p), (0x1101, [0, 0, 1, 0])], s.admits (hostSigned s x.1 0 x.2) x.1 x.2 = true)
      ∧ s0.time.pending = none ∧ field p 6 4 < 1000000000 ∧ field p 14 2 = 0 ∧ s.time.source = 0 ∧ svidValid 0 1 = true
      ∧ (0, 1) ∉ s.gnss.excluded ∧ s.gnss.excluded.length < 32 := by
  refine ⟨fun x hx => hostSigned_admitted ?_, by decide +kernel⟩
  revert x hx; decide +kernel

/-- Channel 1 is a HOST output, AO1 has source HOST; every command is admitted; a bus off. -/
theorem witness_OutputCommandsDriveTheirChannels :
    let s0 := hostReady .maintenance
    let b : Bank := { s0.config.active with
      tables := [(0x3002, [(0, [2, 0, 0, 0, 0, 4, 0, 0])]), (0x3202, []), (0x3103, [(0, [2, 3, 0, 0, 0, 0, 0, 0, 0, 0])])] }
    let s : State := { s0 with config.active := b, buses.can := [{ BusCtl.reset with busOff := true }] }
    s.dioDir 1 = 2 ∧ s.dioSource 1 = 4
      ∧ (s.fio.channels[0]?).map (fun (x : DioChannel) => (x.extDrive, x.latched)) = some (false, false)
      ∧ (s.fio.outputs[0]?).isSome = true ∧ u8 (s.aoEntry 0) 1 = 3 ∧ paramDesc 0x40080001 = none ∧ (s.bus 1).busOff = true
      ∧ 2 ≤ s.authority hostReq
      ∧ (∀ x ∈ [(0x3001, [1, 0, 0, 0, 1, 0, 0, 0]), (0x3002, [1, 2, 0, 0]), (0x3101, [0, 0, 5, 0]), (0x3102, [0, 1, 5, 0]), (0x0111, le 4 0x30050001 ++ le 4 0x780), (0x0111, le 4 0x40080001 ++ le 4 0xE00), (0x4002, [1, 0, 0, 0])], s.admits (hostSigned s x.1 0 x.2) x.1 x.2 = true) := by
  refine ⟨by decide +kernel, by decide +kernel, by decide +kernel, by decide +kernel, by decide +kernel, by decide +kernel,
    by decide +kernel, by decide +kernel, fun x hx => hostSigned_admitted ?_⟩
  revert x hx; decide +kernel

/-- A counter never incremented, one before its largest value, one at it. -/
theorem witness_CountersHoldTheirLargestValue :
    let s (v : Word) : State := { State.reset with counters := [(5, { value := v, overflow := false })] }
    (State.reset.counter 5).value.toNat < 0xFFFFFFFE ∧ ((s 0xFFFFFFFE#32).counter 5).value = 0xFFFFFFFE#32
      ∧ ((s 0xFFFFFFFF#32).counter 5).value = 0xFFFFFFFF#32 ∧ (6 : Nat) ≠ 5 := by decide

/-- A parameter of unit 0x80 that may be written, one that may not, one that fails a check over several. -/
theorem witness_ParametersAreWrittenAllOrNone :
    let s := hostReady .standby
    s.admits (hostSigned s 0x0111 0 (le 4 0x80010007 ++ le 4 60)) 0x0111 (le 4 0x80010007 ++ le 4 60) = true
      ∧ (paramDesc 0x80010007).isSome = true
      ∧ s.entryStatus hostReq (0x80010007, 60) = stOk ∧ s.crossFailure [(0x80010007, 60)] = none
      ∧ s.entryStatus hostReq (0x80010007, 1) = stBadValue
      ∧ s.entryStatus hostReq (0x22010003, 5000) = stOk ∧ s.crossFailure [(0x22010003, 5000)] = some 0x22010003 := by
  refine ⟨hostSigned_admitted (by decide +kernel), by decide +kernel⟩

/-- Each command is admitted in STANDBY; a locked freeze, a HOLD with frozen commands, permits that can be reset. -/
theorem witness_UnitCommandsAct :
    let s := hostReady .standby
    (s.safety.resetPermits 0 5).2 = stOk ∧ s.recorder.lost = false ∧ s.recorder.freezeLocked = false
      ∧ s.recorder.copying = none ∧ s.ridge.health = .healthy
      ∧ ({ s.ridge with health := .hold, holdStage := .frozen } : Ridge).holdStage = .frozen
      ∧ unitCodes.contains 0x21 = true ∧ s.swrBound ≤ 3
      ∧ (∀ x ∈ [(0x5001, [0, 0, 0, 0]), (0x6002, []), (0x6003, []), (0x6004, []), (0x7002, []), (0x7101, []), (0x9001, [3, 0x21, 0, 0])], s.admits (hostSigned s x.1 0 x.2) x.1 x.2 = true) := by
  refine ⟨by decide +kernel, by decide +kernel, by decide +kernel, by decide +kernel, by decide +kernel, by decide +kernel,
    by decide +kernel, by decide +kernel, fun x hx => hostSigned_admitted ?_⟩
  revert x hx; decide +kernel
/-- A twin of equal generation that is ready for the duty. -/
theorem witness_UnitCommandsAct_twin :
    let s0 := hostReady .standby
    let x : PeerState :=
      { frame := 0, serial := 0, health := 0, mode := 0, duty := 0, pflags := 0, configGen := s0.config.active.generation,
        spN := 0, spE := 0, spH := 0, vdN := 0, vdE := 0, vdH := 0, gain := 1, bin := 0, waypoint := 0, trackNo := 0 }
    let s : State := { s0 with
      params := [(0x71010001, 1)]
      peer.up := true
      peer.state := some x
      peer.duty := .duty }
    s.peerEnabled = true ∧ s.peerTwin 1 = true := by decide +kernel

/-- Every long operation is admitted in MAINTENANCE, with what its rule asks of the state. -/
theorem witness_LongOperationsAreAccepted :
    let s := hostReady .maintenance
    s.gnss.rfTest = none ∧ s.host.handles = [] ∧ s.calibrating = false ∧ s.recorder.exports = [] ∧ s.recorder.returning = none
      ∧ s.ridge.healthReset = none ∧ laneOf? 0 = some .a ∧ s.ridge.fullTest = none ∧ s.memory.march = none
      ∧ s.security.debugStep = 0 ∧ u32 (le 4 s.rst.options.serial) 0 = s.rst.options.serial % 4294967296
      ∧ s.mode = .maintenance ∧ s.security.fieldRandom = true ∧ s.security.reprovision = none
      ∧ (∀ x ∈ [(0x1102, []), (0x1103, []), (0x3003, [0, 0, 0, 0]), (0x3103, [0, 0, 0, 0]), (0x3104, [0, 0, 0, 0]), (0x4001, [1, 0, 0, 0]), (0x5002, []), (0x6001, List.replicate 20 0), (0x6005, [0, 0, 0, 0]), (0x7001, []), (0x7003, [0, 0, 0, 0]), (0x7004, []), (0xA001, []), (0xA101, [0, 0, 0, 0]), (0xA103, []), (0x1004, le 8 1)], s.admits (hostSigned s x.1 0 x.2) x.1 x.2 = true) := by
  refine ⟨by decide +kernel, by decide +kernel, by decide +kernel, by decide +kernel, by decide +kernel, by decide +kernel,
    by decide +kernel, by decide +kernel, by decide +kernel, by decide +kernel, by decide +kernel, by decide +kernel,
    by decide +kernel, by decide +kernel, fun x hx => hostSigned_admitted ?_⟩
  revert x hx; decide +kernel
/-- States that meet the rules of a single operation: an input to calibrate, a bus with candidates, a retired device, DEGRADED with an
excluded lane, HOLD, a shadow to adopt. -/
theorem witness_LongOperationsAreAccepted_states :
    let s0 := hostReady .maintenance
    let sh : Shadow :=
      { entry := 0, x := 0, y := 0, stopped := false, sumX := 0, sumY := 0, sumXX := 0, sumXY := 0, sumYY := 0, count := 0, lastStep := 0 }
    let c := s0.laneA.core
    let bank : Bank := { s0.config.active with
      tables := [(0x4002, [(0, [1#8, 2#8, 1#8])]), (0x3102, [(0, [1, 1])])] }
    let s : State := { s0 with
      config.active := bank
      params := [(0x10060001, 1)]
      laneA.core := { c with shadows := [sh] }
      laneB.excluded := true
      ridge.health := .degraded
      buses.can := [BusCtl.reset]
      recorder.devA.st := .retired }
    let h : State := { s0 with ridge.health := .hold }
    s.rejoinRefusal .b = stOk ∧ (s.recorder.dev 0).st = .retired ∧ (s.bus 1).rate.isDetecting = false
      ∧ u8 (s.busEntry 1) 2 ≠ 0 ∧ s.busFlag 1 1 = true ∧ h.ridge.health = .hold
      ∧ (s.core.shadow? 0).isSome = true ∧ s.paramN 0x10060001 ≠ 0 ∧ s.config.commit = none ∧ s.config.staged = none := by decide +kernel

/-- A pending session of a known user; an open one; every request is admitted. -/
theorem witness_SessionsOpenCloseAndHoldControl :
    let s := hostReady .standby
    let q : Session := newSession 2 3 1 1 0 0 [] []
    let s2 : State := { s with host.sessions := s.host.sessions ++ [q], host.holder := 0 }
    s.hostUp = true ∧ s.eaves.link0.up = true ∧ s.openStatus 1 3 1 (List.replicate 16 0) = stOk
      ∧ s.openStatus 1 3 1 [] ≠ stOk ∧ hostReq.prp = none
      ∧ (s2.tick 5).pendingSession? 1 2 = some q
      ∧ s2.userKnown q.user = true ∧ (∀ y ∈ s.host.sessions, y.number = hostReq.session → y.isOpen = true)
      ∧ (∀ x ∈ s.host.sessions, x.queue = []) ∧ s.host.holder = hostReq.session ∧ s2.host.holder = 0
      ∧ (∀ x ∈ [(0x8001, [3, 1] ++ List.replicate 16 0), (0x8003, []), (0x8004, []), (0x8005, List.replicate 33 0), (0x8006, [1, 0]), (0x0200, [1, 0, 0, 0]), (0x0204, []), (0xA102, List.replicate 36 0), (0xA102, [1, 255] ++ List.replicate 34 0)], s.admits (hostSigned s x.1 0 x.2) x.1 x.2 = true)
      ∧ (∀ x ∈ [(0x0200, [0, 0, 0, 0])], s2.admits (hostSigned s2 x.1 0 x.2) x.1 x.2 = true) := by
  refine ⟨by decide +kernel, by decide +kernel, by decide +kernel, by decide +kernel, rfl, by decide +kernel, by decide +kernel,
    by decide +kernel, by decide +kernel, by decide +kernel, rfl, fun x hx => hostSigned_admitted ?_, fun x hx => hostSigned_admitted ?_⟩
  · revert x hx; decide +kernel
  · revert x hx; decide +kernel

/-- An open session with a packet at 0 and an event sent four times at 0; a packet that is whole and of the session. -/
theorem witness_SessionsTimersAndReceivers :
    let s0 := hostReady .standby
    let e : HostEvent :=
      { code := 0x0101#16, severity := 0, frame := 0, taiS := 0, taiNs := 0, tstatus := 0, opSeconds := 0, recSeq := 0,
        suppressed := 0, gap := false, args := [] }
    let v : SentEvent := { seq := 1, ev := e, sentAt := 0, sends := 4 }
    let x : Session := { newSession 1 3 3 1 0 0 [] [] with isOpen := true, window := [v] }
    let s : State := { s0 with host.sessions := [x] }
    s.hostUp = true ∧ s.eaves.link0.up = true ∧ s.sessionOf 1 = some x ∧ s.host.sessions.find? (fun y => y.number = 1) = some x
      ∧ x.lastPacket + s.paramN 0x80010007 * 1000000000 ≤ max s.now 30000000000
      ∧ x.window.find? (fun v => v.seq = 1) = some v ∧ v.sentAt + 1000000000 ≤ max s.now 1000000000 ∧ 4 ≤ v.sends
      ∧ x.queue = [] ∧ x.lastDropEvent = none ∧ s.host.lastSupervision + 2000000000 ≤ max s.now 2000000000 := by decide +kernel
/-- Packets of each kind: not whole, of another version, with a reserved flag, outside a session, without and with the right tag. -/
theorem witness_SessionsTimersAndReceivers_packets :
    let s := hostReady .standby
    let x : Session := { newSession 1 3 3 1 0 0 [] [] with isOpen := true }
    let plain (flags code session : Nat) := packetBytes flags code 1 0 0 session [] []
    packetWhole [] = false ∧ packetWhole (plain 0 0x7777 1) = true ∧ field (plain 0 0x7777 1) 2 1 = 1
      ∧ field (plain 1 0x7777 1) 3 1 &&& 0xC7 ≠ 0 ∧ field (plain 0 0x7777 0) 14 2 = 0 ∧ field (plain 0 0x8002 1) 4 2 = 0x8002
      ∧ (s.tick 5).session? 1 1 = some x ∧ (s.tick 5).session? 0 1 = none ∧ (s.tick 5).pendingSession? 1 1 = none
      ∧ x.lastBadTag = none ∧ x.stored = [] ∧ x.newestTag = none ∧ opInfo? 0x7777 = none ∧ (opInfo? 0x0101).isSome = true := by
  decide +kernel
/-- A signed packet of the session carries the tag the receiver asks for. -/
theorem witness_SessionsTimersAndReceivers_tag :
    let s := hostReady .standby
    let x : Session := { newSession 1 3 3 1 0 0 [] [] with isOpen := true }
    let bs := packetBytes 8 0x7777 1 0 0 1 (s.sessionKey x) []
    field bs 3 1 &&& 0xC7 = 0 ∧ bit (field bs 3 1) 3 = true ∧ field bs 6 2 = 16
      ∧ slice bs (field bs 6 2) 16 = authTag (s.sessionKey x) (bs.take (field bs 6 2 - 1)) := by decide +kernel

/-- A FULL_TEST under handle 4 and an export to the host under handle 5, its first byte read; a command in the field and one
that waits. -/
theorem witness_HandlesAndTransfersEnd :
    let s0 := hostReady .standby
    let h (n op : Nat) : HandleRec :=
      { number := n, user := 3, session := 1, opcode := op, tag := 1, authority := 0, credits := 1, stage := .running, progress := 255,
        final := 0, result := [], completedAt := 0 }
    let b : Bulk :=
      { handle := 5, toHost := true, running := true, base := 1, data := [1, 2, 3], finished := false, lastAccess := 0, sent := 4 }
    let f : Forwarded :=
      { transport := 1, session := 1, tag := 9, opcode := 0x0101, payload := [], replyCredits := 1, at_ := 0 }
    let s1 : State := { s0 with
      host.handles := [h 4 0x7004, h 5 0x6001, { h 6 0x3003 with stage := .complete }, h 7 0x0131, h 9 0xA001, h 10 0x0134, h 11 0x4001]
      host.bulks := [b, { b with handle := 7, toHost := false }]
      eaves.inField := [f] }
    let s : State := { s1 with eaves.waitingCommands := [f] }
    s.host.fieldUnreachable = false ∧ (s.host.handles.filter fun h => !h.outstanding).length < 256
      ∧ (s.handle? 4).map (·.opcode) = some 0x7004 ∧ s.userOf hostReq = 3 ∧ s.handle? 8 = none
      ∧ s.rst.unitsDown.contains 0 = false
      ∧ s.bulk? 5 = some b ∧ b.end_ = 4 ∧ b.buffered = 3
      ∧ b.lastAccess + s.paramN 0x80010008 * 1000000000 ≤ max s.now 1000000000000 ∧ s.eaves.link0.up = true
      ∧ (opInfo? f.opcode).isSome = true ∧ ((opInfo? f.opcode).all fun o => s.canCross o f.payload) = true
      ∧ f.at_ + 2 * s.frame.period * 1000000 + 100000000 ≤ max s.now 200000000
      ∧ (∀ n ∈ [4, 5, 6, 7, 9, 10, 11], s1.admits (hostSigned s1 0x0122 0 (le 2 n ++ [0, 0])) 0x0122 (le 2 n ++ [0, 0]) = true)
      ∧ (∀ n ∈ [4, 6, 8], s1.admits (hostSigned s1 0x0120 0 (le 2 n ++ [0, 0])) 0x0120 (le 2 n ++ [0, 0]) = true
          ∧ s1.admits (hostSigned s1 0x0121 0 (le 2 n ++ [0, 0])) 0x0121 (le 2 n ++ [0, 0]) = true)
      ∧ s1.admitsOn (hostSigned s1 0x0150 5 (le 8 2 ++ le 2 1)) 0x0150 5 (le 8 2 ++ le 2 1) = true
      ∧ s1.admitsOn (hostSigned s1 0x0151 7 (le 8 4 ++ le 2 0 ++ [0, 0])) 0x0151 7 (le 8 4 ++ le 2 0 ++ [0, 0]) = true := by
  refine ⟨by decide +kernel, by decide +kernel, by decide +kernel, by decide +kernel, by decide +kernel, by decide +kernel,
    by decide +kernel, by decide +kernel, by decide +kernel, by decide +kernel, by decide +kernel, by decide +kernel,
    by decide +kernel, by decide +kernel, fun n hn => hostSigned_admitted ?_,
    fun n hn => ⟨hostSigned_admitted ?_, hostSigned_admitted ?_⟩, hostSigned_admitted (by decide +kernel),
    hostSigned_admitted (by decide +kernel)⟩ <;> revert n hn <;> decide +kernel

/-- An empty set, one with a piece whose data has come, a commit that verifies, one that has swapped; each request is admitted. -/
theorem witness_StagedSetsAreCommittedOrDiscarded :
    let s0 := hostReady .standby
    let g : Staged :=
      { baseGen := 0, newGen := 1, session := 1, user := 3, lastActivity := 0, params := [], pieces := [] }
    let s : State := { s0 with config.staged := some g, config.stagedBank := s0.config.active }
    let c : Commit :=
      { handle := 4, expect := 0, verA := .running, verB := .running, swapSet := false, swapped := false, swapFrame := 0 }
    let h : HandleRec :=
      { number := 4, user := 3, session := 1, opcode := 0x0133, tag := 1, authority := 2, credits := 1, stage := .running,
        progress := 255, final := 0, result := [], completedAt := 0 }
    let v : State := { s with config.commit := some c, host.handles := [h] }
    let fw : State := { s0 with config.firmware.staged := [(0, 5)], config.firmware.trial := true, config.firmware.trialDue := 3 }
    s0.config.commit = none ∧ s0.config.staged = none ∧ s0.config.active.generation = 0
      ∧ s0.rst.unitsDown.contains 0 = false
      ∧ (tableInfo? 0x22 2).map (fun i => (i.size, i.entries)) = some (32, 32)
      ∧ fw.quiet = true ∧ fw.config.firmware.staged ≠ []
      ∧ fw.config.firmware.trialDue ≤ max fw.now 3 ∧ g.lastActivity + 600000000000 ≤ max s.now 600000000000
      ∧ v.holders = [.a, .b] ∧ ({ v with laneB.excluded := true } : State).holders = [.a] ∧ v.handle? c.handle = some h
      ∧ ({ c with swapped := true } : Commit).swapped = true
      ∧ (∀ x ∈ [(0x0130, le 4 0 ++ le 4 1), (0x0132, []), (0x0134, [0x22, 2, 0, 0]), (0x0140, [])], s0.admits (hostSigned s0 x.1 0 x.2) x.1 x.2 = true)
      ∧ (∀ x ∈ [(0x0131, [0x22, 2, 0, 0, 6, 0, 1, 0] ++ le 8 0), (0x0132, []), (0x0133, le 4 1 ++ le 4 0)], s.admits (hostSigned s x.1 0 x.2) x.1 x.2 = true)
      ∧ (∀ x ∈ [(0x0141, [])], fw.admits (hostSigned fw x.1 0 x.2) x.1 x.2 = true) := by
  refine ⟨by decide +kernel, by decide +kernel, by decide +kernel, by decide +kernel, by decide +kernel, by decide +kernel,
    by decide +kernel, by decide +kernel, by decide +kernel, by decide +kernel, by decide +kernel, by decide +kernel, rfl,
    fun x hx => hostSigned_admitted ?_, fun x hx => hostSigned_admitted ?_, fun x hx => hostSigned_admitted ?_⟩ <;>
      revert x hx <;> decide +kernel
/-- The empty set may be committed. -/
theorem witness_StagedSetsAreCommittedOrDiscarded_commit :
    (let s0 := hostReady .standby
     let g : Staged :=
       { baseGen := 0, newGen := 1, session := 1, user := 3, lastActivity := 0, params := [], pieces := [] }
     let s : State := { s0 with config.staged := some g, config.stagedBank := s0.config.active }
     s.commitRefusal 1) = stOk := by decide +kernel
/-- The factory bank passes every check of a verification, alone and with the parameters of an empty set. -/
theorem witness_StagedSetsAreCommittedOrDiscarded_verified :
    let b := State.reset.config.storeA.staged
    b.length ≤ 67108864 ∧ b.verified ((State.reset.tick 5).withParams []) = true
      ∧ ∀ x ∈ ((State.reset.tick 5).withParams []).crossChecks b, x.ok = true := by decide +kernel

/-- A recorder with an event to record, one open record that repeats, a closed yealm, a copy, a device that returns, an export. -/
theorem witness_RecorderKeepsRecordsAndYealms :
    let e : Event :=
      { code := 0x0201#16, kind := 0, payload := [1], frame := 0, taiS := 0, taiNs := 0, tstatus := 0, mono := 5 }
    let x : Record :=
      { seq := 1, code := 0x0201, opSeconds := 0, powerCycles := 0, taiS := 0, taiNs := 0, tstatus := 0, repeats := 0, kind := 0,
        payload := [1], mono := 5 }
    let y : Yealm :=
      { region := 0, cause := 1, yseq := 1, records := [x], powerCycles := 0, prevDigest := [], serial := 0, keyId := 0,
        digest := [], signature := [] }
    let h : HandleRec :=
      { number := 4, user := 3, session := 1, opcode := 0x6001, tag := 1, authority := 0, credits := 1, stage := .running,
        progress := 255, final := 0, result := [], completedAt := 0 }
    let b : Bulk :=
      { handle := 4, toHost := true, running := true, base := 0, data := [], finished := false, lastAccess := 0, sent := 0 }
    let s : State := { State.reset with
      toRecorder := [e]
      recorder.openEvents := { records := [x] }
      recorder.ram := [y]
      recorder.copying := some (0, 1)
      recorder.returning := some (4, 0)
      recorder.exports := [(4, 0, [y], 0)]
      host.handles := [h]
      host.bulks := [b] }
    s.unitHeld 0x40 = false ∧ s.isIncident e.code.toNat = false ∧ isRepeat x e = true
      ∧ isRepeat { x with repeats := 65535 } e = false ∧ sameEvent { x with repeats := 65535 } e = true
      ∧ ({ s with recorder.devA.st := .returning } : State).recorder.dev 0 = { s.recorder.devA with st := .returning }
      ∧ s.recorder.lastGasp.length < 256 ∧ s.recorder.opSeconds ≠ 0xFFFFFFFF#32
      ∧ s.isIncident 0x0206 = false
      ∧ bodyLength State.reset.recorder.openEvents.records + x.bytes.length ≤ bodyMax ∧ x.severity < 3
      ∧ s.recorder.lost = false ∧ s.recorder.devA.st = .inService ∧ s.recorder.devB.st = .inService
      ∧ (s.handle? 4).map (·.outstanding) = some true ∧ s.bulk? 4 = some b ∧ s.ridge.health = .healthy
      ∧ x.mono + s.paramN 0x60010001 * 1000000 ≤ max s.now 60000000000
      ∧ s.eaves.link0.up = true ∧ s.recorder.opAt + 1000000000 ≤ max s.now 1000000000
      ∧ ({ s with frame.strobe := 60000000000, recorder.trendSample := some [1] } : State).trendIndex ≠ s.recorder.trendAt := by
  decide +kernel
/-- The second of two equal records within 10 s counts in the first; the one after REPEAT 65 535 starts a new record (R25, R636). -/
theorem test_repeat_saturates :
    let e : Event :=
      { code := 0x0201#16, kind := 0, payload := [1], frame := 0, taiS := 0, taiNs := 0, tstatus := 0, mono := 5 }
    let x (n : Nat) : Record :=
      { seq := 1, code := 0x0201, opSeconds := 0, powerCycles := 0, taiS := 0, taiNs := 0, tstatus := 0, repeats := n, kind := 0,
        payload := [1], mono := 5 }
    let reps (n : Nat) : List Nat :=
      match execEventRecord 6 { State.reset with toRecorder := [e], recorder.openEvents := { records := [x n] } } with
      | .next u => u.recorder.openEvents.records.map (·.repeats)
      | _ => []
    reps 0 = [1] ∧ reps 65534 = [65535] ∧ reps 65535 = [65535, 0] := by decide +kernel

/-- Sources of every level on a module that is up, down, or failing; released sources; an option load; a bring-up. -/
theorem witness_ResetsHoldAndRelease :
    let s : State :=
      { State.reset with
        rst.up := .up, rst.asserted := [], rst.episode := none, rst.unitEpisodes := [], eaves.link0.up := true, rst.fuses := 0 }
    let e : ResetEpisode := s.newEpisode (s.sourceOf .debug)
    let pin : ResetCause := .pin 12000
    s.rst.badWindows.length = 19 ∧ s.rst.swrAt + 20000000 ≤ 20000000 ∧ s.rst.pinAt + 30000000000 ≤ 30000000000 ∧ s.power.pfSince = none ∧ s.bothLinksDown = false ∧ s.rst.pinStuck = false
      ∧ (s.sourceOf pin).level = 1 ∧ (s.sourceOf (.bor false)).level = 0 ∧ (s.sourceOf .por).level = 0
      ∧ (s.sourceOf (.laneWatchdog .b)).level = 2 ∧ (s.sourceOf (.laneWatchdog .b)).target = LaneId.b.code
      ∧ s.namesOther .b = false ∧ (s.lane .b).excluded = false ∧ (s.lane .b).inReset = false
      ∧ (({ s with rst.fuses := 3 } : State).sourceOf pin).level = 3 ∧ (({ s with rst.fuses := 3 } : State).sourceOf pin).target = 0x80
      ∧ (({ s with rst.swr := some (3, 0x21) } : State).sourceOf .software).target = 0x21
      ∧ (({ s with rst.swr := some (3, 0x40) } : State).sourceOf .software).target = 0x40
      ∧ ({ s with eaves.link0.up := false, eaves.link1.up := false } : State).bothLinksDown = true ∧ (∀ h ∈ s.host.handles, h.outstanding = false)
      ∧ badWindow 3 (256 * 125 / 4) = false ∧ badWindow 3 (256 * 125 / 4 + 256) = true ∧ badWindow 3 0 = true
      ∧ s.rst.badWindows.getD 3 0 = 0 ∧ (s.sourceOf pin).bit = 2 ∧ s.rst.bringup = 0
      ∧ ({ s with rst.episode := some e } : State).rst.episode = some e ∧ s.rst.options.failedReads < 5 := by decide +kernel

/-- A module that is up, one whose supplies fail, one that is being erased. -/
theorem witness_PowerMemoryAndSecurityEventsAct :
    let s : State := { State.reset with rst.up := .up, rst.unitsDown := [], rst.fuses := 0, eaves.link0.up := true }
    let f : State :=
      { s with power.pfSince := some 5, power.inA := .failed, power.inB := .failed, power.voltsA := 1500, power.voltsB := 1599 }
    let d : State := { s with security.debugStep := 2, memory.march := some 4 }
    (InputState.ok.at 1700 10000000, InputState.low.at 1850 100000000, InputState.failed.at 1800 20000000,
        InputState.overvoltage.at 3299 100000000)
        = (.low, .ok, .ok, .ok) ∧ InputState.ok.at 1600 10000000 = .low ∧ InputState.ok.at 1599 5000000 = .failed
      ∧ InputState.ok.at 3401 1000000 = .overvoltage
      ∧ f.power.inA.at 2400 20000000 ≠ f.power.inA ∧ f.rst.held = [] ∧ f.power.pfStopped = false ∧ s.rst.up ≠ .off ∧ f.peerEnabled = false
      ∧ ({ s with power.downA := some 5, power.downB := some 6 } : State).power.downB = some 6 ∧ s.security.debugHandle = none
      ∧ s.power.pfSince = none ∧ ({ s with power.bank := .ready } : State).power.bank = .ready ∧ s.power.capFault = false
      ∧ 74074 * 324 < 24000000 ∧ 47839 * 324 < 15500000 ∧ 0 + s.paramN 0x90010004 * 3600 = 86400
      ∧ s.memory.mems.length = 18 ∧ s.laneA.excluded = false ∧ s.ridge.health ≠ .degraded ∧ s.bothLinksDown = false
      ∧ d.memory.march.isSome = true ∧ bits d.rst.fuses 11 10 = 0
      ∧ ((List.replicate 17 0).filter fun x => 0 < x + 86400).length = 17 := by decide +kernel
/-- A new bank of 0.15 F holds 48 J at full charge (R674). -/
theorem test_bank_energy_when_full : fullEnergy 150000 / 1000000 = 48 := by decide

/-- A unit in RUN with a permit on, and the tick that comes to it, meet the premises; so does the state after reset. -/
theorem witness_PermitsStayOffOutsideRun :
    let k : SafetyChannel := { State.reset.safety.x with permits := [{ Permit.reset with on := true }] }
    let s : State := ({ State.reset with safety.su := .run, safety.x := k } : State).enqueue (.chargerFault 5)
    s.PermitsSafe ∧ State.reset.PermitsSafe ∧ s.pending = [Instr.chargerFault 5] := by
  refine ⟨fun h => absurd rfl h, fun _ c => ?_, rfl⟩
  cases c <;> decide
/-- Its step goes on. -/
theorem witness_PermitsStayOffOutsideRun_steps (s : State) (h : s.pending = [Instr.chargerFault 5]) : ∃ u, step s = .next u := by
  simp [step, h, exec, execChargerFault]

end Sys2Proof.Machine
end

section
/-!
PROOFS. What one count does to a counter (R19): O49.
-/

namespace Sys2Proof.Machine

/-- Counting leaves every other counter alone. -/
theorem State.counter_count_ne (s : State) {id other : Nat} (h : other ≠ id) : (s.count id).counter other = s.counter other := by
  simp only [State.counter, State.count_counters, counted]
  split
  · rfl
  · rw [assoc_assocSet_ne _ _ _ _ (Ne.symm h)]

/-- A counter below its last step rises by one and nothing is told (R19). -/
theorem State.counter_count_below (s : State) (id : Nat) (h : (s.counter id).value.toNat < 0xFFFFFFFE) :
    (s.count id).counter id = { value := (s.counter id).value + 1, overflow := (s.counter id).overflow }
      ∧ (s.count id).toRecorder = s.toRecorder := by
  rw [State.count_below s id h]
  simp [State.counter]

/-- The step to 0xFFFF_FFFF sets the overflow bit and raises event 0x0107 (R19). -/
theorem State.count_last (s : State) (id : Nat) (h : (s.counter id).value = 0xFFFFFFFE#32) :
    s.count id =
      { s with counters := assocSet s.counters id { value := 0xFFFFFFFF#32, overflow := true } }.raise 0x0107 [id] := by
  simp [State.count, h]

/-- Settles O49: the three cases of one count (R19), and its frame. -/
theorem countersHoldTheirLargestValue : Obligations.CountersHoldTheirLargestValue := by
  intro id s
  refine ⟨fun h => ?_, fun h => ?_, State.count_full s id, fun other h => s.counter_count_ne h, s.count_changes id⟩
  · obtain ⟨hc, hr⟩ := s.counter_count_below id h
    exact ⟨by rw [hc], by rw [hc], hr⟩
  · rw [State.count_last s id h]
    exact ⟨by simp [State.counter], _, rfl, rfl, rfl, rfl⟩

end Sys2Proof.Machine
end

section
/-!
SUPPORT. What an update of one piece changes; the checks of R567, which an admitted request passes; a request served and answered at
once.
-/

namespace Sys2Proof.Machine

/-! What an update of one piece of the state changes. -/

theorem State.changes_counters (s : State) (x : List (Nat × Counter)) : s.ChangesOnly [.counters] { s with counters := x } := by
  intro f hf
  cases f <;> first | rfl | exact absurd List.mem_cons_self hf

theorem State.changes_frame (s : State) (x : FrameUnit) : s.ChangesOnly [.frame] { s with frame := x } := by
  intro f hf
  cases f <;> first | rfl | exact absurd List.mem_cons_self hf

theorem State.changes_time (s : State) (x : TimeUnit) : s.ChangesOnly [.time] { s with time := x } := by
  intro f hf
  cases f <;> first | rfl | exact absurd List.mem_cons_self hf

theorem State.changes_host (s : State) (x : HostUnit) : s.ChangesOnly [.host] { s with host := x } := by
  intro f hf
  cases f <;> first | rfl | exact absurd List.mem_cons_self hf

theorem State.changes_eaves (s : State) (x : Eaves) : s.ChangesOnly [.eaves] { s with eaves := x } := by
  intro f hf
  cases f <;> first | rfl | exact absurd List.mem_cons_self hf

theorem State.changes_fio (s : State) (x : FieldIo) : s.ChangesOnly [.fio] { s with fio := x } := by
  intro f hf
  cases f <;> first | rfl | exact absurd List.mem_cons_self hf

theorem State.changes_buses (s : State) (x : Buses) : s.ChangesOnly [.buses] { s with buses := x } := by
  intro f hf
  cases f <;> first | rfl | exact absurd List.mem_cons_self hf

theorem State.changes_host_eaves (s : State) (x : HostUnit) (y : Eaves) : s.ChangesOnly [.host, .eaves] { s with host := x, eaves := y } :=
  State.changesOnly_trans _ (s.changes_host x) (State.changes_eaves { s with host := x } y) (by decide) (by decide)

theorem State.changes_lanes (s : State) (x y : Lane) : s.ChangesOnly [.laneA, .laneB] { s with laneA := x, laneB := y } := by
  intro f hf
  cases f <;> first | rfl | exact absurd (List.mem_cons_of_mem _ List.mem_cons_self) hf | exact absurd List.mem_cons_self hf

/-- The state a request meets once its packet has been taken: other sessions and remembered frames on the host side, the Command class
with its packet, all else as it was. -/
def State.taken (s : State) (ss : List Session) (fs : List (PrpTrailer × Nat)) (c : EavesClass) : State :=
  { s with host.sessions := ss, host.prpSeen := fs, eaves.command := c }

/-- What the authority of a request is read from, the same in two sessions. -/
def Session.SameRights (x y : Session) : Prop :=
  y.number = x.number ∧ y.isOpen = x.isOpen ∧ y.authority = x.authority

theorem State.authority_onSession (s : State) (n : Nat) (f : Session → Session) (r : Req) (hf : ∀ x, Session.SameRights x (f x)) :
    (s.onSession n f).authority r = s.authority r := by
  have hp : ((fun x : Session => x.isOpen && decide (x.number = r.session)) ∘ fun x => if x.number = n then f x else x)
      = fun x : Session => x.isOpen && decide (x.number = r.session) := by
    funext x
    obtain ⟨hn, ho, -⟩ := hf x
    by_cases h : x.number = n <;> simp [h, hn, ho]
  simp only [State.authority, State.sessionOf, State.onSession]
  rw [List.find?_map, hp]
  cases s.host.sessions.find? fun x => x.isOpen && decide (x.number = r.session) with
  | none => rfl
  | some x =>
    by_cases h : x.number = n
    · simpa [h] using (hf x).2.2
    · simp [h]

theorem State.noteFrame_eq (s : State) (r : Req) : ∃ fs, s.noteFrame r = s.taken s.host.sessions fs s.eaves.command := by
  unfold State.noteFrame
  split
  · exact ⟨s.host.prpSeen, rfl⟩
  · split
    · exact ⟨_, rfl⟩
    · exact ⟨s.host.prpSeen, rfl⟩

/-- A session is heard from, and the tag of the request is its newest (R571, R572). -/
def State.noteRequest (s : State) (n : Nat) (r : Req) : State :=
  (s.onSession n fun y => { y with lastPacket := s.now }).onSession n fun y => { y with newestTag := some r.tag }

theorem State.authority_noteRequest (s : State) (n : Nat) (r q : Req) : (s.noteRequest n r).authority q = s.authority q := by
  unfold State.noteRequest
  refine (State.authority_onSession _ n _ q ?_).trans (State.authority_onSession s n _ q ?_)
  all_goals exact fun x => ⟨rfl, rfl, rfl⟩

/-- Steps 4 to 6 of R567 let a packet pass whose tag is right and new. -/
theorem State.checkSession_pass (s : State) (r : Req) (code : Nat) (cov : List Byte) (x : Session)
    (hx : s.session? r.transport r.session = some x) (hm : r.mac = some (authTag (s.sessionKey x) cov))
    (hs : (x.stored.all fun k => !(decide (k.tag = r.tag) && decide (s.now < k.at_ + 10000000000))) = true)
    (hn : (x.newestTag.all fun n => seqLater 16 r.tag.toNat n.toNat) = true) :
    s.checkSession r code cov = .pass (s.noteRequest x.number r) := by
  have hf : (x.stored.find? fun k => decide (k.tag = r.tag) && decide (s.now < k.at_ + 10 * secNs)) = none := by
    rw [List.find?_eq_none]
    intro k hk
    have := List.all_eq_true.1 hs k hk
    rw [Bool.not_eq_true']  at this
    rw [Bool.not_eq_true]
    exact this
  unfold State.checkSession
  rw [hx]
  simp only [hm, ne_eq, not_true_eq_false, if_false, hf]
  cases ht : x.newestTag with
  | none => rfl
  | some n =>
    rw [ht] at hn
    simp only [Option.all_some] at hn
    simp only [hn, if_true]
    rfl

/-- What admission says of a request, one fact per check of R567. -/
structure State.Admitted (s : State) (r : Req) (o : OpInfo) (x : Session) (handle : Nat) (p : List Byte) : Prop where
  session : s.session? r.transport r.session = some x
  heard : s.heard r = true
  mac : r.mac = some (authTag (s.sessionKey x) (r.covered o.code handle p))
  fresh : (x.stored.all fun k => !(decide (k.tag = r.tag) && decide (s.now < k.at_ + 10000000000))) = true
  newest : (x.newestTag.all fun n => seqLater 16 r.tag.toNat n.toNat) = true
  rights : s.checkRights r o (s.needAuth o p) = stOk
  length : o.lengthOk p = true
  confined : s.confinement o = stOk
  unitUp : s.rst.unitsDown.contains (unitServing o.code p) = false
  reachable : o.field = true → s.host.fieldUnreachable = false
  crosses : o.field = true → s.canCross o p = true
  noneWaits : o.field = true → s.eaves.waitingCommands.isEmpty = true

theorem State.admitted_of_admitsOn {s : State} {r : Req} {code handle : Nat} {p : List Byte} {o : OpInfo} (ho : opInfo? code = some o)
    (h : s.admitsOn r code handle p = true) : ∃ x, (s.tick r.t).Admitted r o x handle p := by
  have hc : o.code = code := by
    have := List.find?_some ho
    simpa using this
  subst hc
  unfold State.admitsOn at h
  dsimp only at h
  rw [ho] at h
  cases hx : (s.tick r.t).session? r.transport r.session with
  | none => rw [hx] at h; cases h
  | some x =>
    rw [hx] at h
    simp only [Bool.and_eq_true, decide_eq_true_eq] at h
    obtain ⟨⟨⟨⟨⟨⟨⟨⟨⟨h1, h2⟩, h3⟩, h4⟩, h5⟩, h6⟩, h7⟩, h8⟩, h9⟩, -⟩ := h
    have hfield (hf : o.field = true) : (s.tick r.t).host.fieldUnreachable = false ∧ (s.tick r.t).canCross o p = true
        ∧ (s.tick r.t).eaves.waitingCommands.isEmpty = true := by
      simpa only [hf, Bool.not_true, Bool.false_or, Bool.and_eq_true, Bool.not_eq_true', and_assoc] using h9
    exact ⟨x, hx, h1, h2, h3, h4, h5, h6, h7, by simpa only [Bool.not_eq_true'] using h8,
      fun hf => (hfield hf).1, fun hf => (hfield hf).2.1, fun hf => (hfield hf).2.2⟩

/-- Admission of a request that crosses the barrier finds a link up. -/
theorem State.Admitted.linkUp {s : State} {r : Req} {o : OpInfo} {x : Session} {n : Nat} {p : List Byte} (h : s.Admitted r o x n p)
    (hf : o.field = true) : s.linkUp = true := by
  have := h.crosses hf
  simp only [State.canCross, Bool.and_eq_true] at this
  exact this.1.1

/-- With the rights it had when it was admitted, a request passes steps 7 to 12 of R567. -/
theorem State.Admitted.serveChecked {s : State} {r : Req} {o : OpInfo} {x : Session} {n : Nat} {p : List Byte}
    (h : s.Admitted r o x n p) (ss : List Session) (fs : List (PrpTrailer × Nat))
    (ha : (s.taken ss fs s.eaves.command).authority r = s.authority r) (present : List (Nat × Nat)) (e : Effect) :
    (s.taken ss fs s.eaves.command).serveChecked r o p present e = (s.taken ss fs s.eaves.command).runRequest r o p present e := by
  have hr : (s.taken ss fs s.eaves.command).checkRights r o ((s.taken ss fs s.eaves.command).needAuth o p) = stOk := by
    rw [← h.rights]
    unfold State.checkRights
    rw [ha]
    rfl
  have hu : (o.field && (s.taken ss fs s.eaves.command).host.fieldUnreachable) = false := by
    cases hf : o.field with
    | false => rfl
    | true => exact h.reachable hf
  have hc : (o.field && (!(s.taken ss fs s.eaves.command).canCross o p
      || !(s.taken ss fs s.eaves.command).eaves.waitingCommands.isEmpty)) = false := by
    cases hf : o.field with
    | false => rfl
    | true =>
      have h1 : (s.taken ss fs s.eaves.command).canCross o p = true := h.crosses hf
      have h2 : (s.taken ss fs s.eaves.command).eaves.waitingCommands.isEmpty = true := h.noneWaits hf
      rw [h1, h2]
      rfl
  unfold State.serveChecked
  simp only [hr, h.length, hu, hc, ne_eq, not_true_eq_false, Bool.not_true, Bool.false_eq_true, if_false]

/-- An admitted request reaches the service of its opcode, with nothing changed but time, sessions and remembered frames. -/
theorem State.requestOn_of_admitsOn {s : State} {r : Req} {code handle : Nat} {p : List Byte} {o : OpInfo}
    (ho : opInfo? code = some o) (h : s.admitsOn r code handle p = true) (present : List (Nat × Nat)) (e : Effect) :
    ∃ ss fs, s.requestOn present code handle e r p
      = ((s.tick r.t).taken ss fs (s.tick r.t).eaves.command).runRequest r o p present e := by
  obtain ⟨x, hA⟩ := State.admitted_of_admitsOn ho h
  obtain ⟨fs, hfs⟩ := (s.tick r.t).noteFrame_eq r
  obtain rfl : o.code = code := by simpa using List.find?_some ho
  have hpass := State.checkSession_pass ((s.tick r.t).taken (s.tick r.t).host.sessions fs (s.tick r.t).eaves.command) r o.code _ x
    hA.session hA.mac hA.fresh hA.newest
  refine ⟨(((s.tick r.t).taken (s.tick r.t).host.sessions fs (s.tick r.t).eaves.command).noteRequest x.number r).host.sessions, fs, ?_⟩
  unfold State.requestOn
  simp only [ho, hA.heard, hfs, Bool.not_true, Bool.false_eq_true, if_false]
  rw [hpass]
  exact hA.serveChecked _ fs (State.authority_noteRequest _ x.number r r) present e

/-- A command packet that crosses changes the Command class alone; one that does not cross changes nothing. -/
theorem State.sendCommand_taken (s : State) (ss : List Session) (fs : List (PrpTrailer × Nat)) (r : Req) (o : OpInfo) (n : Nat)
    (p : List Byte) : ∃ c, (o.field = false → c = s.eaves.command)
      ∧ (s.taken ss fs s.eaves.command).sendCommand r o n p = s.taken ss fs c := by
  unfold State.sendCommand
  cases o.field with
  | true => exact ⟨_, fun h => Bool.noConfusion h, rfl⟩
  | false => exact ⟨_, fun _ => rfl, rfl⟩

/-- Taking a request changes the host side and the barrier alone. -/
theorem State.taken_changes (s : State) (ss : List Session) (fs : List (PrpTrailer × Nat)) (c : EavesClass) :
    s.ChangesOnly [.host, .eaves] (s.taken ss fs c) := 
  s.changes_host_eaves _ _

theorem State.sendReply_changes (s : State) (v : Reply) : s.ChangesOnly [.host] (s.sendReply v) :=
  s.changes_host _

theorem State.sendReply_last (s : State) (v : Reply) : (s.sendReply v).host.replies.getLast? = some v := by
  simp [State.sendReply, State.onSession]

theorem State.sendReply_keeps (s : State) (v : Reply) : s.HostKeeps (s.sendReply v) := ⟨rfl, rfl, rfl, rfl, rfl, rfl⟩

theorem State.crossReply_changes (s : State) (v : Reply) : s.ChangesOnly [.host, .eaves] (s.crossReply v) := by
  unfold State.crossReply
  split
  · exact s.changes_host_eaves _ _
  · exact State.changesOnly_mono _ (s.changes_eaves _) (by decide)

theorem State.crossReply_keeps (s : State) (v : Reply) : s.HostKeeps (s.crossReply v) := by
  unfold State.crossReply
  split <;> exact ⟨rfl, rfl, rfl, rfl, rfl, rfl⟩

/-- With a link up a reply that crosses is sent on at once. -/
theorem State.crossReply_last (s : State) (v : Reply) (h : s.linkUp = true) : (s.crossReply v).host.replies.getLast? = some v := by
  unfold State.crossReply
  rw [if_pos h]
  exact State.sendReply_last _ _

/-- An answer changes the host side and the barrier alone, keeps what the host side holds, and is the latest reply. -/
theorem State.answer_ok (s : State) (r : Req) (o : OpInfo) (v : State) (payload : List Byte) (hl : o.field = true → s.linkUp = true) :
    s.ChangesOnly [.host, .eaves] (s.answer r o 0 (answered v payload)) ∧ s.HostKeeps (s.answer r o 0 (answered v payload))
      ∧ (s.answer r o 0 (answered v payload)).host.replies.getLast? = some (r.reply o.code 0 stOk payload) := by
  unfold State.answer
  cases hf : o.field with
  | false =>
    exact ⟨State.changesOnly_mono _ (State.sendReply_changes _ _) (by decide), State.sendReply_keeps _ _, State.sendReply_last _ _⟩
  | true => exact ⟨State.crossReply_changes _ _, State.crossReply_keeps _ _, State.crossReply_last _ _ (hl hf)⟩

/-- A short request that is not held for its frame is served and answered at once. -/
theorem State.runRequest_now (s : State) (r : Req) (o : OpInfo) (p : List Byte) (present : List (Nat × Nat)) (e : Effect)
    (hc : s.confinement o = stOk) (hu : s.rst.unitsDown.contains (unitServing o.code p) = false) (hl : o.long = false)
    (hh : o.held = false) :
    s.runRequest r o p present e
      = (e (s.sendCommand r o 0 p) r p 0).state.answer r o 0 (e (s.sendCommand r o 0 p) r p 0) := by
  unfold State.runRequest
  simp only [hc, hu, hl, hh, ne_eq, not_true_eq_false, Bool.false_eq_true, if_false]

/-- A short command of R578 goes to its frame. -/
theorem State.runRequest_held (s : State) (r : Req) (o : OpInfo) (p : List Byte) (present : List (Nat × Nat)) (e : Effect)
    (hc : s.confinement o = stOk) (hu : s.rst.unitsDown.contains (unitServing o.code p) = false) (hl : o.long = false)
    (hh : o.held = true) : s.runRequest r o p present e = s.forwardCommand r o 0 p present := by
  unfold State.runRequest
  simp only [hc, hu, hl, hh, ne_eq, not_true_eq_false, Bool.false_eq_true, if_false, if_true]

/-- What the host side keeps over two changes. -/
theorem State.HostKeeps.trans {s t u : State} (h1 : s.HostKeeps t) (h2 : t.HostKeeps u) : s.HostKeeps u := by
  obtain ⟨a1, a2, a3, a4, a5, a6⟩ := h1
  obtain ⟨b1, b2, b3, b4, b5, b6⟩ := h2
  exact ⟨b1.trans a1, b2.trans a2, b3.trans a3, b4.trans a4, b5.trans a5, b6.trans a6⟩

/-- What an effect must show so that its opcode serves as stated: the payload, and a state `v` that differs from the one the request met
in the listed pieces. -/
theorem State.serves_of_effect {s : State} {i : Instr} {r : Req} {code : Nat} {p payload : List Byte} {fields : List StateField}
    {P : State → Prop} {o : OpInfo} {e : Effect} (hi : exec i s = .next (s.request code e r p)) (ho : opInfo? code = some o)
    (hl : o.long = false) (hh : o.held = false)
    (hhost : StateField.host ∉ fields) (heaves : StateField.eaves ∉ fields)
    (he : ∀ ss fs c, (o.field = false → c = (s.tick r.t).eaves.command) → ∃ v,
      e ((s.tick r.t).taken ss fs c) r p 0 = answered v payload
      ∧ ((s.tick r.t).taken ss fs c).ChangesOnly fields v ∧ ∀ u, v.ChangesOnly [.host, .eaves] u → P u) :
    s.Serves i r code p stOk payload false fields P := by
  intro ha
  obtain ⟨x, hA⟩ := State.admitted_of_admitsOn ho ha
  obtain ⟨ss, fs, hreq⟩ := State.requestOn_of_admitsOn ho ha [] e
  obtain ⟨c, hcf, hc⟩ := (s.tick r.t).sendCommand_taken ss fs r o 0 p
  obtain ⟨v, hv, hchg, hP⟩ := he ss fs c hcf
  have hrun := State.runRequest_now ((s.tick r.t).taken ss fs (s.tick r.t).eaves.command) r o p [] e hA.confined hA.unitUp hl hh
  rw [hc, hv] at hrun
  have hvh : v.host = ((s.tick r.t).taken ss fs c).host := hchg .host hhost
  have hve : v.eaves = ((s.tick r.t).taken ss fs c).eaves := hchg .eaves heaves
  have hlink (hf : o.field = true) : v.linkUp = true := by
    rw [State.linkUp, hve]
    exact hA.linkUp hf
  obtain ⟨hans, hkeep, hlast⟩ := v.answer_ok r o v payload hlink
  obtain rfl : o.code = code := by simpa using List.find?_some ho
  refine ⟨_, hi.trans (congrArg Host.Outcome.next (hreq.trans hrun)), ⟨hlast, ?_, hP _ hans⟩, ?_⟩
  · refine State.HostKeeps.trans ?_ hkeep
    rw [State.HostKeeps, hvh]
    exact ⟨rfl, rfl, rfl, rfl, rfl, rfl⟩
  · have h1 : s.ChangesOnly requestFields ((s.tick r.t).taken ss fs c) :=
      State.changesOnly_trans _ (s.tick_changes r.t) (State.taken_changes _ _ _ _) (by decide) (by decide)
    have h2 : s.ChangesOnly (requestFields ++ fields) v :=
      State.changesOnly_trans _ h1 hchg (List.subset_append_left _ _) (List.subset_append_right _ _)
    exact State.changesOnly_trans _ h2 hans (fun _ h => h) (List.subset_append_of_subset_left _ (by decide))

/-- A request whose effect only reads. -/
theorem State.reads_of_effect {s : State} {i : Instr} {r : Req} {code : Nat} {p payload : List Byte} {o : OpInfo} {e : Effect}
    (hi : exec i s = .next (s.request code e r p)) (ho : opInfo? code = some o) (hl : o.long = false) (hh : o.held = false)
    (he : ∀ ss fs c, (o.field = false → c = (s.tick r.t).eaves.command) →
      e ((s.tick r.t).taken ss fs c) r p 0 = answered ((s.tick r.t).taken ss fs c) payload) :
    s.Reads i r code p payload :=
  State.serves_of_effect hi ho hl hh (by decide) (by decide) fun ss fs c hc =>
    ⟨_, he ss fs c hc, State.changesOnly_refl _ _, fun u hu => hu .time (by decide)⟩

end Sys2Proof.Machine
end

section
/-!
SUPPORT. Little-endian fields one behind the other; items read (R582).
-/

namespace Sys2Proof.Machine

/-- A slice that ends before what follows does not see it. -/
theorem slice_append_left (a b : List Byte) (o n : Nat) (h : o + n ≤ a.length) : slice (a ++ b) o n = slice a o n := by
  unfold slice
  refine List.map_congr_left fun i hi => ?_
  rw [List.mem_range] at hi
  rw [List.getD_eq_getElem?_getD, List.getD_eq_getElem?_getD, List.getElem?_append_left (by omega)]

/-- A slice that begins behind what comes before does not see it. -/
theorem slice_append_right (a b : List Byte) (o n : Nat) : slice (a ++ b) (a.length + o) n = slice b o n := by
  unfold slice
  refine List.map_congr_left fun i _ => ?_
  have hi : a.length + o + i - a.length = o + i := by omega
  rw [List.getD_eq_getElem?_getD, List.getD_eq_getElem?_getD, List.getElem?_append_right (by omega), hi]

theorem slice_le (n v : Nat) : slice (le n v) 0 n = le n v := by
  have h := slice_append [] (le n v)
  rwa [length_le] at h

/-- The first field of some bytes. -/
theorem field_le_append (n v : Nat) (q : List Byte) : field (le n v ++ q) 0 n = v % 256 ^ n := by
  rw [field, slice_append_left _ _ _ _ (by simp [length_le]), slice_le, ofLe_le]

/-- The fields behind the first one. -/
theorem field_append_right (n v o m : Nat) (q : List Byte) : field (le n v ++ q) (n + o) m = field q o m := by
  have h := slice_append_right (le n v) q o m
  rw [length_le] at h
  rw [field, field, h]

theorem wordsOf_le_append (v : Nat) (q : List Byte) : wordsOf (le 4 v ++ q) = v % 4294967296 :: wordsOf q := by
  have hlen : (le 4 v ++ q).length / 4 = q.length / 4 + 1 := by
    rw [List.length_append, length_le]
    omega
  unfold wordsOf
  rw [hlen, List.range_succ_eq_map, List.map_cons, List.map_map, List.cons.injEq]
  refine ⟨field_le_append 4 v q, List.map_congr_left fun k _ => ?_⟩
  rw [Function.comp_apply, Nat.mul_succ, Nat.add_comm (4 * k) 4, field_append_right]

/-- The words of a list of 32-bit numbers are the numbers. -/
theorem wordsOf_flatMap_le (ids : List Nat) (h : ∀ id ∈ ids, id < 4294967296) : wordsOf (ids.flatMap (le 4)) = ids := by
  induction ids with
  | nil => rfl
  | cons id ids ih =>
    rw [List.flatMap_cons, wordsOf_le_append, ih fun k hk => h k (List.mem_cons_of_mem _ hk),
      Nat.mod_eq_of_lt (h id (List.mem_cons_self))]

theorem length_flatMap_le (ids : List Nat) : (ids.flatMap (le 4)).length = 4 * ids.length := by
  induction ids with
  | nil => rfl
  | cons id ids ih => simp only [List.flatMap_cons, List.length_append, length_le, List.length_cons, ih]; omega

/-- What the effects of the reads of several items see in their payload (R582, R583). -/
theorem paramReadPayload_fields (ids : List Nat) (hn : ids.length ≤ 255) (h : ∀ id ∈ ids, id < 4294967296) :
    (paramReadPayload ids).length = 4 + 4 * ids.length ∧ field (paramReadPayload ids) 0 2 = ids.length
      ∧ field (paramReadPayload ids) 2 2 = 0 ∧ wordsOf ((paramReadPayload ids).drop 4) = ids := by
  have happ : paramReadPayload ids = le 2 ids.length ++ (le 2 0 ++ ids.flatMap (le 4)) := List.append_assoc _ _ _
  refine ⟨?_, ?_, ?_, ?_⟩
  · rw [happ]
    simp only [List.length_append, length_le, length_flatMap_le]
    omega
  · rw [happ, field_le_append, Nat.mod_eq_of_lt (by omega)]
  · rw [happ, field_append_right 2 ids.length 0 2, field_le_append, Nat.zero_mod]
  · exact wordsOf_flatMap_le ids h

/-- Whether an ID is known does not depend on time. -/
theorem State.readItem_isSome_tick (s : State) (t id : Nat) : ((s.tick t).readItem id).isSome = (s.readItem id).isSome := by
  have hs : ((s.tick t).statusItem? id).isSome = (s.statusItem? id).isSome := by
    have hi : (s.tick t).input? (id % 65536) = s.input? (id % 65536) := rfl
    simp only [State.statusItem?, hi, apply_ite Option.isSome, Option.isSome_some, Option.isSome_none, Option.isSome_map]
  have hu : (s.tick t).unitItem? id = s.unitItem? id := rfl
  have hsome (u : State) : (u.readItem id).isSome
      = ((u.statusItem? id).isSome || (u.unitItem? id).isSome || (paramDesc id).isSome) := by
    unfold State.readItem
    cases u.statusItem? id <;> cases u.unitItem? id <;> cases paramDesc id <;> rfl
  rw [hsome, hsome, hs, hu]

/-- Items outside the buses are read with no change (R17). -/
theorem State.readItems_of_known (s : State) (ids : List Nat)
    (h : ∀ id ∈ ids, id / 65536 ≠ 0x4008 ∧ (s.readItem id).isSome = true) :
    s.readItems ids = some (s, ids.flatMap fun id => le 4 id ++ le 4 ((s.readItem id).getD 0)) := by
  induction ids with
  | nil => rfl
  | cons id ids ih =>
    obtain ⟨hb, hs⟩ := h id List.mem_cons_self
    obtain ⟨v, hv⟩ := Option.isSome_iff_exists.1 hs
    have hc : s.readClear id = s := if_neg hb
    rw [State.readItems, hv]
    simp only [hc, ih fun k hk => h k (List.mem_cons_of_mem _ hk), List.flatMap_cons, hv, Option.getD_some]

theorem effParamRead_of_known (s : State) (r : Req) (ids : List Nat) (n : Nat) (hne : ids ≠ []) (hn : ids.length ≤ 255)
    (h : ∀ id ∈ ids, id < 4294967296) {s1 : State} {bs : List Byte} (hr : s.readItems ids = some (s1, bs)) :
    effParamRead s r (paramReadPayload ids) n = answered s1 bs := by
  obtain ⟨hlen, h0, h2, hw⟩ := paramReadPayload_fields ids hn h
  have hpos : ids.length ≠ 0 := fun e => hne (List.length_eq_zero_iff.1 e)
  have hle : ¬255 < ids.length := by omega
  simp only [effParamRead, hlen, h0, h2, hw, hr, hpos, hle, ne_eq, not_true_eq_false, if_false, or_self]

theorem State.reads_paramRead (s : State) (r : Req) (ids : List Nat) (hne : ids ≠ []) (hn : ids.length ≤ 255)
    (h : ∀ id ∈ ids, id < 4294967296 ∧ id / 65536 ≠ 0x4008 ∧ (s.readItem id).isSome = true) :
    s.Reads (.paramRead r ids) r 0x0110 (paramReadPayload ids)
      (ids.flatMap fun id => le 4 id ++ le 4 (((s.tick r.t).readItem id).getD 0)) := by
  refine State.reads_of_effect rfl rfl rfl rfl fun ss fs c _ => ?_
  refine effParamRead_of_known _ r ids 0 hne hn (fun id hid => (h id hid).1) ?_
  refine (State.readItems_of_known ((s.tick r.t).taken ss fs c) ids fun id hid => ⟨(h id hid).2.1, ?_⟩)
  rw [← (h id hid).2.2, ← s.readItem_isSome_tick r.t id]
  rfl

/-- A bus changed changes the buses alone. -/
theorem State.onBus_changes (s : State) (b : Nat) (f : BusCtl → BusCtl) : s.ChangesOnly [.buses] (s.onBus b f) :=
  s.changes_buses _

/-- The status of a bus is read and its LEC cleared (R17, R545). -/
theorem State.readItems_bus (s : State) (b : Nat) (h1 : 1 ≤ b) (h6 : b ≤ 6) :
    s.readItems [0x40080000 + b]
      = some (s.onBus b fun k => { k with lec := 0 }, le 4 (0x40080000 + b) ++ le 4 (s.busStatus b)) := by
  have hd : (0x40080000 + b) / 65536 = 0x4008 := by omega
  have hm : (0x40080000 + b) % 65536 = b := by omega
  have hb : ¬(b = 0 ∨ 6 < b) := by omega
  have hitem : s.readItem (0x40080000 + b) = some (s.busStatus b) := by
    have : s.statusItem? (0x40080000 + b) = some (s.busStatus b) := by
      simp [State.statusItem?, hd, hm, hb]
    simp only [State.readItem, this]
  have hclear : s.readClear (0x40080000 + b) = s.onBus b fun k => { k with lec := 0 } := by
    simp only [State.readClear, hd, hm, if_true]
  simp only [State.readItems, hitem, hclear, List.append_nil]

theorem paramReadPayload_single (id : Nat) : paramReadPayload [id] = [1, 0, 0, 0] ++ le 4 id := by
  have hcount : le 2 1 ++ le 2 0 = [1, 0, 0, 0] := rfl
  simp only [paramReadPayload, List.length_singleton, hcount, List.flatMap_cons, List.flatMap_nil, List.append_nil]

theorem State.serves_statusReadClear (s : State) (r : Req) (b : Nat) (h1 : 1 ≤ b) (h6 : b ≤ 6) :
    s.Serves (.statusReadClear r (0x40080000 + b)) r 0x0110 ([1, 0, 0, 0] ++ le 4 (0x40080000 + b)) stOk
      (le 4 (0x40080000 + b) ++ le 4 ((s.tick r.t).busStatus b)) false [.buses] fun u =>
        u.buses = { s.buses with can := setAt s.buses.can (b - 1) fun k => { k with lec := 0 } } := by
  rw [← paramReadPayload_single]
  have hid (id : Nat) (h : id ∈ [0x40080000 + b]) : id < 4294967296 := by
    rw [List.mem_singleton] at h
    omega
  refine State.serves_of_effect rfl rfl rfl rfl (by decide) (by decide) fun ss fs c _ => ?_
  have hread := State.readItems_bus ((s.tick r.t).taken ss fs c) b h1 h6
  exact ⟨_, effParamRead_of_known _ r _ 0 (by simp) (by simp) hid hread, State.onBus_changes _ b _,
    fun u hu => hu .buses (by decide)⟩

end Sys2Proof.Machine
end

section
/-!
SUPPORT. A command of R578: it crosses to its frame, and is decided there.
-/

namespace Sys2Proof.Machine

/-- A command at the snapshot builder changes the frame alone. -/
theorem State.queueCommand_changes (s : State) (c : Command) : s.ChangesOnly [.frame] (s.queueCommand c) := by
  unfold State.queueCommand
  split <;> exact s.changes_frame _

theorem State.queueCommand_frame (s : State) (c : Command) :
    if s.pastCutoff = true then (s.queueCommand c).frame = { s.frame with laterCommands := s.frame.laterCommands ++ [c] }
      else (s.queueCommand c).frame = { s.frame with commands := s.frame.commands ++ [c] } := by
  unfold State.queueCommand
  split <;> rfl

/-- A command has crossed to the field side: its packet in the Command class, n units of Reply credit granted, and its entry among those
the field has not answered (R68, R599). -/
def State.crossed (s : State) (cls : EavesClass) (n : Nat) (f : Forwarded) : State :=
  { s with
    eaves.command := cls
    eaves.reply.credits := s.eaves.reply.credits - n
    eaves.granted := s.eaves.granted + n
    eaves.inField := s.eaves.inField ++ [f] }

theorem State.crossed_changes (s : State) (cls : EavesClass) (n : Nat) (f : Forwarded) : s.ChangesOnly [.eaves] (s.crossed cls n f) :=
  s.changes_eaves _

/-- A command of R578 crosses, then waits at the snapshot builder. -/
theorem State.forwardCommand_eq (s : State) (r : Req) (o : OpInfo) (n : Nat) (p : List Byte) (present : List (Nat × Nat)) :
    ∃ cls f, (f.session = r.session ∧ f.tag = r.tag ∧ f.opcode = o.code)
      ∧ s.forwardCommand r o n p present
        = (s.crossed cls (o.grant.1 + o.grant.2) f).queueCommand (r.command o.code n p present) := by
  have hsend : ∃ cls, s.sendCommand r o n p = { s with eaves.command := cls } := by
    unfold State.sendCommand
    split
    · exact ⟨_, rfl⟩
    · exact ⟨s.eaves.command, rfl⟩
  obtain ⟨cls, hcls⟩ := hsend
  refine ⟨cls, { transport := r.transport, addr := r.addr, session := r.session, tag := r.tag, opcode := o.code, payload := p,
                 replyCredits := o.grant.1, at_ := s.now }, ⟨rfl, rfl, rfl⟩, ?_⟩
  unfold State.forwardCommand
  rw [hcls]
  rfl

/-- An admitted short command of R578 goes to its frame, whatever its effect. -/
theorem State.forwards_of_admits {s : State} {i : Instr} {r : Req} {code : Nat} {p : List Byte} {present : List (Nat × Nat)}
    {o : OpInfo} {e : Effect} (hi : exec i s = .next (s.requestWith present code e r p)) (ho : opInfo? code = some o)
    (hl : o.long = false) (hh : o.held = true) (ha : s.admits r code p = true) :
    s.Completes i (requestFields ++ [.frame]) fun u => s.Forwards u r code 0 p present ∧ s.HostKeeps u := by
  obtain ⟨x, hA⟩ := State.admitted_of_admitsOn ho ha
  obtain ⟨ss, fs, hreq⟩ := State.requestOn_of_admitsOn ho ha present e
  have hrun := State.runRequest_held ((s.tick r.t).taken ss fs (s.tick r.t).eaves.command) r o p present e hA.confined hA.unitUp hl hh
  obtain ⟨cls, f, hf, hfwd⟩ := State.forwardCommand_eq ((s.tick r.t).taken ss fs (s.tick r.t).eaves.command) r o 0 p present
  obtain rfl : o.code = code := by simpa using List.find?_some ho
  refine ⟨_, hi.trans (congrArg Host.Outcome.next ((hreq.trans hrun).trans hfwd)), ?_, ?_⟩
  · generalize hv : ((s.tick r.t).taken ss fs (s.tick r.t).eaves.command).crossed cls (o.grant.1 + o.grant.2) f = v
    have hq := v.queueCommand_changes (r.command o.code 0 p present)
    have hh : (v.queueCommand (r.command o.code 0 p present)).host = v.host := hq .host (by decide)
    have he : (v.queueCommand (r.command o.code 0 p present)).eaves = v.eaves := hq .eaves (by decide)
    refine ⟨⟨?_, ⟨f, ?_, hf⟩, fun o' ho' => ?_, ?_, ?_⟩, ?_⟩
    · subst hv
      exact State.queueCommand_frame (((s.tick r.t).taken ss fs (s.tick r.t).eaves.command).crossed cls (o.grant.1 + o.grant.2) f)
        (r.command o.code 0 p present)
    · rw [he, ← hv]
      rfl
    · obtain rfl : o = o' := Option.some.inj (ho.symm.trans ho')
      rw [he, ← hv]
      rfl
    · rw [hh, ← hv]
      rfl
    · rw [hh, ← hv]
      rfl
    · rw [State.HostKeeps, hh, ← hv]
      exact ⟨rfl, rfl, rfl, rfl, rfl, rfl⟩
  · have h1 : s.ChangesOnly requestFields ((s.tick r.t).taken ss fs (s.tick r.t).eaves.command) :=
      State.changesOnly_trans _ (s.tick_changes r.t) (State.taken_changes _ _ _ _) (by decide) (by decide)
    have h2 := State.changesOnly_trans requestFields h1 (State.crossed_changes _ cls (o.grant.1 + o.grant.2) f)
      (fun _ h => h) (by decide)
    exact State.changesOnly_trans _ h2 (State.queueCommand_changes _ _) (by decide) (by decide)

/-- A lane's outbox is all that the outcome of a command changes. -/
theorem State.outcome_changes (s : State) (c : Command) (n : Nat) : s.ChangesOnly [.laneA, .laneB] (s.outcome c n) :=
  s.changes_lanes _ _

/-- What a served command must show so that it is decided as stated: status and payload, and a state `v` that differs from the one before in
the listed pieces only. -/
theorem State.decides_of_serve {s v : State} {c : Command} {status : Nat} {payload : List Byte} {stamp : Bool}
    {fields : List StateField} {P : State → Prop} {o : OpInfo} (ho : opInfo? c.opcode = some o) (hl : o.long = false)
    (hserve : fieldEffect c.present c.opcode s c.req c.payload c.handle
      = { state := v, status := status, payload := payload, stamp := stamp })
    (hv : s.ChangesOnly fields v) (hhost : StateField.host ∉ fields) (heaves : StateField.eaves ∉ fields)
    (hframe : StateField.frame ∉ fields) (hP : ∀ u, v.ChangesOnly [.host, .laneA, .laneB] u → P u) :
    s.Decides c status payload stamp fields fun u => s.HostKeeps u ∧ P u := by
  intro hup
  have hvh : v.host = s.host := hv .host hhost
  have hve : v.eaves = s.eaves := hv .eaves heaves
  have hvf : v.frame = s.frame := hv .frame hframe
  have hs : s.serveCommand c = { state := v, status := status, payload := payload, stamp := stamp } := by
    unfold State.serveCommand
    rw [hup, if_neg Bool.false_ne_true, hserve]
  have hin : (v.outcome c status).eaves = s.eaves := hve
  obtain ⟨w, hd⟩ : ∃ w, s.decideCommand c =
      if (s.eaves.inField.any fun f => f.session = c.req.session && f.tag = c.req.tag) = true then
        { v.outcome c status with host.frameReplies := s.host.frameReplies ++
            [{ frame := s.frame.number, stamp := stamp, written := w,
               reply := c.req.reply c.opcode (if status = stAccepted then c.handle else 0) status payload }] }
      else v.outcome c status := by
    refine ⟨if c.opcode = 0x6002 ∧ status = stOk then (v.outcome c status).recorder.nextYseq else 0, ?_⟩
    unfold State.decideCommand
    simp only [ho, hs, hl, Bool.false_and, Bool.false_eq_true, if_false]
    rw [← hve, ← hvf, ← hvh]
    rfl
  have hchg : v.ChangesOnly [.host, .laneA, .laneB] (s.decideCommand c) := by
    rw [hd]
    split
    · exact State.changesOnly_trans _ (v.outcome_changes c status) ((v.outcome c status).changes_host _) (by decide) (by decide)
    · exact State.changesOnly_mono _ (v.outcome_changes c status) (by decide)
  have hhostd : (s.decideCommand c).host = { s.host with frameReplies := (s.decideCommand c).host.frameReplies } := by
    rw [hd]
    rw [← hvh]
    split <;> rfl
  refine ⟨⟨?_, hP _ hchg⟩, State.changesOnly_trans _ hv hchg (List.subset_append_right _ _) (List.subset_append_left _ _),
    ?_, ?_, ?_, fun hw => ⟨w, ?_⟩⟩
  · rw [State.HostKeeps, hhostd]
    exact ⟨rfl, rfl, rfl, rfl, rfl, rfl⟩
  · rw [hhostd]
  · rw [hhostd]
  · rw [hhostd]
  · rw [hd, if_pos hw]

/-- A short command of R578: its request goes to its frame, and its effect is what it is decided with. -/
theorem State.commandsWith_of_effect {s v : State} {i : Instr} {r : Req} {code : Nat} {p : List Byte} {present : List (Nat × Nat)}
    {status : Nat} {payload : List Byte} {stamp : Bool} {fields : List StateField} {P : State → Prop} {o : OpInfo} {e : Effect}
    (hi : exec i s = .next (s.requestWith present code e r p)) (ho : opInfo? code = some o) (hl : o.long = false) (hh : o.held = true)
    (hserve : fieldEffect present code s r p 0 = { state := v, status := status, payload := payload, stamp := stamp })
    (hv : s.ChangesOnly fields v) (hhost : StateField.host ∉ fields) (heaves : StateField.eaves ∉ fields)
    (hframe : StateField.frame ∉ fields) (hP : ∀ u, v.ChangesOnly [.host, .laneA, .laneB] u → P u) :
    s.CommandsWith i r code p present status payload stamp fields P :=
  ⟨State.forwards_of_admits hi ho hl hh,
    State.decides_of_serve (c := r.command code 0 p present) ho hl hserve hv hhost heaves hframe hP⟩

end Sys2Proof.Machine
end

section
/-!
SUPPORT. Counters read and cleared, transmit timestamps read (R19, R20, R191).
-/

namespace Sys2Proof.Machine

/-- COUNTER_READ and COUNTER_READ_CLEAR of known counters (R19, R20). -/
theorem effCounterRead_of_known (s : State) (r : Req) (clear : Bool) (ids : List Nat) (n : Nat) (hne : ids ≠ [])
    (hn : ids.length ≤ 255) (h : ∀ id ∈ ids, counterKnown id = true) :
    effCounterRead clear s r (paramReadPayload ids) n
      = answered (if clear then { s with counters := s.counters.filter fun c => !ids.contains c.1 } else s)
          (ids.flatMap fun id => le 4 id ++ le 4 (s.counter id).value.toNat ++ le 4 (b2n (s.counter id).overflow)) := by
  have hlt (id : Nat) (hid : id ∈ ids) : id < 4294967296 := by
    have hk := h id hid
    simp only [counterKnown, counterUnits, Bool.and_eq_true, List.contains_eq_mem, decide_eq_true_eq, List.mem_cons, List.not_mem_nil,
      or_false] at hk
    omega
  obtain ⟨hlen, h0, h2, hw⟩ := paramReadPayload_fields ids hn hlt
  have hpos : ids.length ≠ 0 := fun e => hne (List.length_eq_zero_iff.1 e)
  have hle : ¬255 < ids.length := by omega
  have hany : (ids.any fun id => !counterKnown id) = false := by
    rw [List.any_eq_false]
    intro id hid
    simp [h id hid]
  simp only [effCounterRead, hlen, h0, h2, hw, hany, hpos, hle, ne_eq, not_true_eq_false, Bool.false_eq_true, if_false, or_self]

/-- Keys filtered out of an association list are absent, the others as before. -/
theorem assoc_filter {β : Type} (l : List (Nat × β)) (keep : Nat → Bool) (k : Nat) :
    assoc (l.filter fun c => keep c.1) k = if keep k = true then assoc l k else none := by
  induction l with
  | nil => simp [assoc]
  | cons e t ih =>
    obtain ⟨j, v⟩ := e
    by_cases hj : keep j = true <;> by_cases hk : j = k
    · subst hk
      simp [hj, assoc]
    · simp [hj, hk, assoc, ih]
    · subst hk
      simp [hj, ih]
    · simp [hj, hk, assoc, ih]

/-- A clear resets exactly the counters it names. -/
theorem State.counter_of_filter {s u : State} {ids : List Nat} (hu : u.counters = s.counters.filter fun c => !ids.contains c.1) (id : Nat) :
    u.counter id = if id ∈ ids then { value := 0, overflow := false } else s.counter id := by
  unfold State.counter
  rw [hu, assoc_filter s.counters fun k => !ids.contains k]
  by_cases h : id ∈ ids <;> simp [h]

theorem State.commands_counterRead (s : State) (r : Req) (ids : List Nat) (hne : ids ≠ []) (hn : ids.length ≤ 255)
    (h : ∀ id ∈ ids, counterKnown id = true) :
    s.Commands (.counterRead r (paramReadPayload ids)) r 0x0112 (paramReadPayload ids) stOk
      (ids.flatMap fun id => le 4 id ++ le 4 (s.counter id).value.toNat ++ le 4 (b2n (s.counter id).overflow)) false []
      fun u => u.counters = s.counters :=
  State.commandsWith_of_effect rfl rfl rfl rfl (effCounterRead_of_known s r false ids 0 hne hn h) (State.changesOnly_refl _ _)
    (by decide) (by decide) (by decide) fun u hu => hu .counters (by decide)

theorem State.commands_counterReadClear (s : State) (r : Req) (ids : List Nat) (hne : ids ≠ []) (hn : ids.length ≤ 255)
    (h : ∀ id ∈ ids, counterKnown id = true) :
    s.Commands (.counterReadClear r (paramReadPayload ids)) r 0x0113 (paramReadPayload ids) stOk
      (ids.flatMap fun id => le 4 id ++ le 4 (s.counter id).value.toNat ++ le 4 (b2n (s.counter id).overflow)) false [.counters]
      fun u => (∀ id ∈ ids, u.counter id = { value := 0, overflow := false })
        ∧ ∀ id, id ∉ ids → u.counter id = s.counter id := by
  refine State.commandsWith_of_effect rfl rfl rfl rfl (effCounterRead_of_known s r true ids 0 hne hn h) (s.changes_counters _)
    (by decide) (by decide) (by decide) fun u hu => ?_
  have hc : u.counters = s.counters.filter fun c => !ids.contains c.1 := hu .counters (by decide)
  exact ⟨fun id hid => by rw [State.counter_of_filter hc, if_pos hid], fun id hid => by rw [State.counter_of_filter hc, if_neg hid]⟩

/-- The queue of a port is read and emptied (R191). -/
theorem State.commands_txtsRead (s : State) (r : Req) (port : Nat) (hp : port ≤ 2) :
    s.Commands (.txtsRead r [BitVec.ofNat 8 port, 0, 0, 0]) r 0x1203 [BitVec.ofNat 8 port, 0, 0, 0] stOk
      (le 1 (s.time.txq port).entries.length ++ le 1 (b2n (s.time.txq port).ovf) ++ [0, 0]
        ++ (s.time.txq port).entries.flatMap TxStamp.bytes) false [.time] fun u => u.time = s.time.setTxq port .reset := by
  have h0 : field [BitVec.ofNat 8 port, 0, 0, 0] 0 1 = port := by
    obtain rfl | rfl | rfl : port = 0 ∨ port = 1 ∨ port = 2 := by omega
    all_goals rfl
  have h1 : field [BitVec.ofNat 8 port, 0, 0, 0] 1 3 = 0 := rfl
  refine State.commandsWith_of_effect (v := { s with time := s.time.setTxq port .reset }) rfl rfl rfl rfl ?_
    (s.changes_time _) (by decide) (by decide) (by decide) fun u hu => hu .time (by decide)
  show effTxtsRead s r _ 0 = _
  have hle : ¬2 < port := by omega
  simp only [effTxtsRead, h0, h1, hle, ne_eq, not_true_eq_false, or_self, if_false]
  rfl

end Sys2Proof.Machine
end

section
/-!
PROOFS. Requests that read (R580 to R583, R601): O45.
-/

namespace Sys2Proof.Machine

theorem State.reads_identify (s : State) (r : Req) (p : List Byte) (h : r.session ≠ 0) :
    s.Reads (.identify r p) r 0x0100 p ((s.tick r.t).identity r.transport) :=
  State.reads_of_effect (e := effIdentify) (if_neg h) rfl rfl rfl fun _ _ _ _ => rfl

/-- The identity outside a session: the host processor answers by itself (R567, R580). -/
theorem State.identify_outside_session (s : State) (r : Req) (hr : r.session = 0) (hu : s.hostUp = true) (hp : r.prp = none) :
    s.Completes (.identify r []) [.now, .time, .host] fun u =>
      u.host = { s.host with replies := s.host.replies ++ [r.reply 0x0100 0 stOk ((s.tick r.t).identity r.transport)] } := by
  have hheard : (s.tick r.t).heard r = true := by
    have hu' : (s.tick r.t).hostUp = true := hu
    simp [State.heard, State.secondCopy, hp, hu']
  have hnote : (s.tick r.t).noteFrame r = s.tick r.t := by
    unfold State.noteFrame
    rw [hp]
  have hi : exec (.identify r []) s = .next ((s.tick r.t).sendPlain r 0x0100 stOk ((s.tick r.t).identity r.transport)) := by
    show execIdentify r [] s = _
    simp [execIdentify, hr, hheard, hnote]
  have hreply : ({ r.reply 0x0100 0 stOk ((s.tick r.t).identity r.transport) with session := 0, flags := 1 } : Reply)
      = r.reply 0x0100 0 stOk ((s.tick r.t).identity r.transport) := by
    simp [Req.reply, replyFlags, hr]
  refine ⟨_, hi, ?_, State.changesOnly_trans _ (s.tick_changes r.t) ((s.tick r.t).changes_host _) (by decide) (by decide)⟩
  simp only [State.sendPlain, hreply]
  rfl

/-- The barrier's own status: the host processor answers, so that no packet crosses and no credit moves (R601). -/
theorem State.reads_eavesStatus (s : State) (r : Req) (p : List Byte) :
    s.Reads (.eavesStatus r p) r 0x8010 p
      (([0, 1].flatMap fun n => le 1 (b2n (s.eaves.link n).up) ++ [0, 0, 0] ++ le 4 (s.eaves.link n).latency
          ++ le 4 (s.counter (ctrEaves 0 n)).value.toNat ++ le 4 (s.counter (ctrEaves 1 n)).value.toNat)
        ++ [EavesKind.command, .reply, .event, .bulkToHost, .bulkToField].flatMap fun k =>
          le 4 (s.freeCredits k) ++ le 4 (s.counter (ctrEaves 4 k.index)).value.toNat) := by
  refine State.reads_of_effect rfl rfl rfl rfl fun ss fs c hc => ?_
  obtain rfl := hc rfl
  have hlinks (f : Nat → List Byte) : [0, 1].flatMap f = f 0 ++ f 1 := by simp
  rw [hlinks]
  rfl

/-- Settles O45: one lemma per kind of read; those that read a layout alone are their effect, seen at the time of the request. -/
theorem readsAnswerFromTheState : Obligations.ReadsAnswerFromTheState := by
  intro r s
  refine ⟨fun p => ⟨?status, ?safety⟩, s.reads_identify r, s.identify_outside_session r, ?ref, ?alloc, ?case, ?gnss, ?time, ?memory,
    ?history, s.reads_eavesStatus r, s.reads_paramRead r, s.serves_statusReadClear r,
    fun ids hne hn h => ⟨s.commands_counterRead r ids hne hn h, s.commands_counterReadClear r ids hne hn h⟩, s.commands_txtsRead r⟩
  case status | safety => exact State.reads_of_effect rfl rfl rfl rfl fun _ _ _ _ => rfl
  all_goals exact fun p => State.reads_of_effect rfl rfl rfl rfl fun _ _ _ _ => rfl

end Sys2Proof.Machine
end

section
/-!
SUPPORT. Outputs and forces; status bits cleared (R468 to R473, R482, R514, R515).
-/

namespace Sys2Proof.Machine

theorem getElem?_setAt {α : Type} (l : List α) (i j : Nat) (f : α → α) :
    (setAt l i f)[j]? = if j = i then l[j]?.map f else l[j]? := by
  induction l generalizing i j with
  | nil => simp [setAt]
  | cons a t ih =>
    cases i with
    | zero => cases j <;> simp [setAt]
    | succ i =>
      cases j with
      | zero => simp [setAt]
      | succ j => simpa [setAt] using ih i j

/-- A channel whose output has been driven: command, pulse and RESTART_WAIT may differ (R472). -/
def DioChannel.Driven (x y : DioChannel) : Prop :=
  y = { x with cmd := y.cmd, pulsing := y.pulsing, restartWait := y.restartWait }

theorem DioChannel.Driven.trans {x y z : DioChannel} (h1 : x.Driven y) (h2 : y.Driven z) : x.Driven z := by
  unfold DioChannel.Driven at h1 h2 ⊢
  rw [h2, h1]

/-- From s to u every channel has at most been driven, and nothing but channels differs. -/
def State.Drives (s u : State) : Prop :=
  (∃ l, u = { s with fio.channels := l })
    ∧ ∀ (d : Nat) (x : DioChannel), s.fio.channels[d]? = some x → ∃ y, u.fio.channels[d]? = some y ∧ x.Driven y

theorem State.Drives.refl (s : State) : s.Drives s := ⟨⟨s.fio.channels, rfl⟩, fun _ x h => ⟨x, h, rfl⟩⟩

theorem State.Drives.trans {s t u : State} (h1 : s.Drives t) (h2 : t.Drives u) : s.Drives u := by
  obtain ⟨⟨l1, rfl⟩, h1⟩ := h1
  obtain ⟨⟨l2, rfl⟩, h2⟩ := h2
  refine ⟨⟨l2, rfl⟩, fun d x hx => ?_⟩
  obtain ⟨y, hy, hxy⟩ := h1 d x hx
  obtain ⟨z, hz, hyz⟩ := h2 d y hy
  exact ⟨z, hz, hxy.trans hyz⟩

theorem State.onDio_channel (s : State) (c d : Nat) (f : DioChannel → DioChannel) :
    (s.onDio c f).fio.channels[d]? = if d = c - 1 then s.fio.channels[d]?.map f else s.fio.channels[d]? :=
  getElem?_setAt _ _ _ _

/-- The pass over one output: nothing, or its channel driven (R472). -/
theorem State.dioSet_cases (s : State) (c : Nat) :
    s.dioSet c = s ∨ ∃ f, (∀ x : DioChannel, x.Driven (f x)) ∧ s.dioSet c = s.onDio c f := by
  unfold State.dioSet
  split
  · exact .inl rfl
  · dsimp only
    split
    · exact .inr ⟨fun k => { k with cmd := false, pulsing := false }, fun _ => rfl, rfl⟩
    · split
      · exact .inr ⟨fun k => { k with cmd := false, pulsing := false, restartWait := s.dioTarget c }, fun _ => rfl, rfl⟩
      · exact .inr ⟨fun k => { k with cmd := s.dioTarget c, pulsing := k.pulsing && k.cmd = s.dioTarget c }, fun _ => rfl, rfl⟩

theorem State.dioSet_drives (s : State) (c : Nat) : s.Drives (s.dioSet c) := by
  rcases s.dioSet_cases c with h | ⟨f, hf, h⟩
  · rw [h]
    exact .refl s
  · rw [h]
    refine ⟨⟨_, rfl⟩, fun d x hx => ?_⟩
    rw [State.onDio_channel, hx]
    split
    · exact ⟨f x, rfl, hf x⟩
    · exact ⟨x, rfl, rfl⟩

theorem State.dioSet_other (s : State) (c d : Nat) (h : d ≠ c - 1) : (s.dioSet c).fio.channels[d]? = s.fio.channels[d]? := by
  rcases s.dioSet_cases c with e | ⟨f, -, e⟩
  · rw [e]
  · rw [e, State.onDio_channel, if_neg h]

/-- The pass over all outputs drives channels and changes nothing else (R472). -/
theorem State.dioPass_drives (s : State) : s.Drives s.dioPass := by
  unfold State.dioPass
  generalize List.range 32 = cs
  induction cs generalizing s with
  | nil => exact .refl s
  | cons i cs ih => exact (s.dioSet_drives (i + 1)).trans (ih _)

theorem State.Drives.changes {s u : State} (h : s.Drives u) : s.ChangesOnly [.fio] u := by
  obtain ⟨⟨l, rfl⟩, -⟩ := h
  exact s.changes_fio _

theorem State.Drives.outputs {s u : State} (h : s.Drives u) : u.fio.outputs = s.fio.outputs := by
  obtain ⟨⟨l, rfl⟩, -⟩ := h
  rfl

theorem State.onDio_changes (s : State) (c : Nat) (f : DioChannel → DioChannel) : s.ChangesOnly [.fio] (s.onDio c f) :=
  s.changes_fio _

theorem State.dio_of_getElem? {s : State} {c : Nat} {x : DioChannel} (h : s.fio.channels[c - 1]? = some x) : s.dio c = x := by
  simp [State.dio, List.getD_eq_getElem?_getD, h]

/-- A forced output that nothing holds off is commanded as it is forced (rule 6 of R472, R473). -/
theorem State.dioSet_forced (s : State) (c : Nat) (x : DioChannel) (v : Bool) (hx : s.fio.channels[c - 1]? = some x)
    (hdir : s.dioDir c = 2) (hf : x.forced = some v) (hr : s.fio.inReset = false) (hi : s.fio.inhibit = false)
    (hs : x.supplyOff = false) (hl : x.latched = false) (hw : x.restartWait = false) :
    s.dioSet c = s.onDio c fun k => { k with cmd := v, pulsing := k.pulsing && k.cmd = v } := by
  have hd := State.dio_of_getElem? hx
  have ht : s.dioTarget c = v := by
    unfold State.dioTarget
    rw [hd, hf]
  unfold State.dioSet
  simp only [hdir, hd, hr, hi, hs, hl, hw, ht, ne_eq, not_true_eq_false, Bool.or_self, Bool.false_eq_true, if_false]

/-- What the pass of an analogue output changes: its code and whether a limit acts (R515). -/
theorem State.aoSet_eq (s : State) (cmds : Nat → Int × Int) (i : Nat) :
    ∃ code clamped, s.aoSet cmds i
      = { s with fio.outputs := setAt s.fio.outputs i fun (o : AnalogOut) => { o with code := code, clamped := clamped } } := by
  unfold State.aoSet
  dsimp only
  split
  · exact ⟨_, _, rfl⟩
  · split
    · exact ⟨_, _, rfl⟩
    · split
      · exact ⟨_, _, rfl⟩
      · split
        · exact ⟨_, _, rfl⟩
        · split
          · exact ⟨_, _, rfl⟩
          · exact ⟨_, _, rfl⟩

/-- An analogue output changed by a command, then set. -/
def State.aoWrite (s : State) (i : Nat) (g : AnalogOut → AnalogOut) : State :=
  State.aoSet { s with fio.outputs := setAt s.fio.outputs i g } s.sentCmd i

/-- A command to an analogue output changes it as the command says, sets its code, and leaves every other output and channel alone. -/
theorem State.aoWrite_spec (s : State) (i : Nat) (g : AnalogOut → AnalogOut) (x : AnalogOut) (hx : s.fio.outputs[i]? = some x) :
    s.ChangesOnly [.fio] (s.aoWrite i g) ∧ (∀ d, d ≠ i → (s.aoWrite i g).fio.outputs[d]? = s.fio.outputs[d]?)
      ∧ (s.aoWrite i g).fio.channels = s.fio.channels
      ∧ ∃ code clamped, (s.aoWrite i g).fio.outputs[i]? = some { g x with code := code, clamped := clamped } := by
  obtain ⟨code, clamped, he⟩ := State.aoSet_eq { s with fio.outputs := setAt s.fio.outputs i g } s.sentCmd i
  rw [State.aoWrite, he]
  refine ⟨s.changes_fio _, fun d hd => ?_, rfl, code, clamped, ?_⟩
  · show (setAt (setAt s.fio.outputs i g) i _)[d]? = _
    rw [getElem?_setAt, if_neg hd, getElem?_setAt, if_neg hd]
  · show (setAt (setAt s.fio.outputs i g) i _)[i]? = _
    rw [getElem?_setAt, if_pos rfl, getElem?_setAt, if_pos rfl, hx]
    rfl

/-! A status item written (R17, R18, R582). -/

theorem entriesOf_single (id v : Nat) (hid : id < 4294967296) (hv : v < 4294967296) :
    entriesOf (le 4 id ++ le 4 v) = [(id, BitVec.ofNat 32 v)] := by
  have hlen : (le 4 id ++ le 4 v).length / 8 = 1 := by rw [List.length_append, length_le, length_le]
  have h0 : field (le 4 id ++ le 4 v) 0 4 = id := (field_le_append 4 id _).trans (Nat.mod_eq_of_lt hid)
  have h4 : field (le 4 id ++ le 4 v) 4 4 = v := by
    have h := (field_le_append 4 v []).trans (Nat.mod_eq_of_lt hv)
    rw [List.append_nil] at h
    rw [field_append_right 4 id 0 4, h]
  unfold entriesOf
  rw [hlen]
  simp only [List.range_one, List.map_cons, List.map_nil, Nat.mul_zero, Nat.zero_add, h0, h4]

/-- An item that is a status and no parameter passes the checks of an entry when the authority suffices. -/
theorem State.entryStatus_of_statusItem (s : State) (r : Req) (id : Nat) (v : Word) (hd : paramDesc id = none)
    (hs : (s.statusItem? id).isSome = true) (ha : writeAuthority id ≤ s.authority r) (hop : operatorParams.contains id = false)
    (hne : id ≠ 0x2001000A) : s.entryStatus r (id, v) = stOk := by
  obtain ⟨n, hn⟩ := Option.isSome_iff_exists.1 hs
  have hread : s.readItem id = some n := by simp only [State.readItem, hn]
  have hro : itemReadOnly id = false := by simp only [itemReadOnly, hd]
  have hval : valueOk id v = true := by simp only [valueOk, hd]
  have hsb : itemStandbyOnly id = false := by simp only [itemStandbyOnly, hd]
  have hau : ¬s.authority r < writeAuthority id := by omega
  simp only [State.entryStatus, hread, hro, hval, hsb, hau, hop, hne, Option.isNone_some, Bool.not_true, Bool.false_and,
    Bool.false_eq_true, false_and, if_false]

/-- A PARAM_WRITE of one status item is its write of bits. -/
theorem effParamWrite_statusItem (s : State) (r : Req) (id mask n : Nat) (present : List (Nat × Nat)) (hid : id < 4294967296)
    (hm : mask < 4294967296) (hd : paramDesc id = none) (hok : s.entryStatus r (id, BitVec.ofNat 32 mask) = stOk) :
    effParamWrite present s r (le 4 id ++ le 4 mask) n
      = answered (s.writeClear id mask ((assoc present id).getD 0)) [0, 0, 0, 0] := by
  have hlen : (le 4 id ++ le 4 mask).length % 8 = 0 := by rw [List.length_append, length_le, length_le]
  have hmask : (BitVec.ofNat 32 mask).toNat = mask := by rw [BitVec.toNat_ofNat]; exact Nat.mod_eq_of_lt hm
  have hff : s.firstFailure r [(id, BitVec.ofNat 32 mask)] = none := by simp [State.firstFailure, hok]
  have hcf : s.crossFailure [] = none := rfl
  have hsp (u : State) : u.setParams [] = u := rfl
  simp only [effParamWrite, hlen, entriesOf_single id mask hid hm, hd, hff, hcf, hsp, hmask, ne_eq, not_true_eq_false, if_false,
    List.isEmpty_cons, List.length_singleton, List.filter_cons, List.filter_nil, Option.isSome_none, Option.isNone_none,
    Bool.false_eq_true, Nat.reduceLT, or_self, if_true, List.foldl_cons, List.foldl_nil]
  rfl

theorem paramDesc_dioStatus (c : Nat) (h : c ≤ 32) : paramDesc (0x30050000 + c) = none := by
  have hu : (0x30050000 + c) / 0x1000000 = 0x30 := by omega
  have hids : ∀ d ∈ paramsDio, d.id < 0x30050000 ∨ 0x33000000 ≤ d.id := by decide
  unfold paramDesc
  rw [hu, List.find?_eq_none]
  intro d hd
  have := hids d hd
  simp only [decide_eq_true_eq]
  omega

theorem paramDesc_busStatus (b : Nat) (h : b ≤ 6) : paramDesc (0x40080000 + b) = none := by
  have hu : (0x40080000 + b) / 0x1000000 = 0x40 := by omega
  unfold paramDesc
  rw [hu]
  rfl

/-- The parameters an OPERATOR may write lie below the status items. -/
theorem operatorParams_lt (id : Nat) (h : 0x30000000 ≤ id) : operatorParams.contains id = false := by
  have hall : ∀ k ∈ operatorParams, k < 0x30000000 := by decide
  rw [List.contains_eq_mem, decide_eq_false_iff_not]
  intro hid
  have := hall id hid
  omega

end Sys2Proof.Machine
end

section
/-!
PROOFS. Commands to outputs, channels and buses: O48.
-/

namespace Sys2Proof.Machine

/-- A channel written by DIO_HOST_OUTPUT (R469). -/
def DioChannel.hostWrite (x : DioChannel) (v : Bool) (now : Nat) : DioChannel :=
  { x with hostValue := v, hostAt := now, hostExpired := false }

/-- The state with every channel of a list written from the bits of v. -/
def State.hostWrites (s : State) (v : Nat) (cs : List Nat) : State :=
  cs.foldl (fun s c => s.onDio c fun k => k.hostWrite (bit v (c - 1)) s.now) s

theorem State.hostWrites_changes (s : State) (v : Nat) (cs : List Nat) : s.ChangesOnly [.fio] (s.hostWrites v cs) :=
  changesOnly_foldl _ _ (fun s c => s.onDio_changes c _) cs s

/-- Exactly the named channels are written (R469). -/
theorem State.hostWrites_channel (s : State) (v : Nat) (cs : List Nat) (hcs : ∀ c ∈ cs, 1 ≤ c) (i : Nat) (x : DioChannel)
    (hx : s.fio.channels[i]? = some x) :
    (s.hostWrites v cs).fio.channels[i]? = some (if i + 1 ∈ cs then x.hostWrite (bit v i) s.now else x) := by
  induction cs generalizing s x with
  | nil => simpa [State.hostWrites] using hx
  | cons c cs ih =>
    have hc := hcs c List.mem_cons_self
    have hstep : (s.onDio c fun k => k.hostWrite (bit v (c - 1)) s.now).fio.channels[i]?
        = some (if i + 1 = c then x.hostWrite (bit v i) s.now else x) := by
      rw [State.onDio_channel, hx]
      by_cases h : i + 1 = c
      · have hi : i = c - 1 := by omega
        rw [if_pos hi, if_pos h, hi]
        rfl
      · rw [if_neg (by omega), if_neg h]
    have hrest := ih _ (fun k hk => hcs k (List.mem_cons_of_mem _ hk)) _ hstep
    refine hrest.trans (congrArg some ?_)
    show (if i + 1 ∈ cs then DioChannel.hostWrite _ (bit v i) s.now else _) = _
    by_cases h1 : i + 1 = c <;> by_cases h2 : i + 1 ∈ cs <;> simp [h1, h2, DioChannel.hostWrite]

/-- The channels a mask names (R469). -/
def namedChannels (mask : Nat) : List Nat := (List.range 32).filterMap fun i => if bit mask i then some (i + 1) else none

theorem mem_namedChannels (mask i : Nat) : i + 1 ∈ namedChannels mask ↔ i < 32 ∧ bit mask i = true := by
  simp [namedChannels, List.mem_filterMap]

theorem one_le_of_mem_namedChannels {mask c : Nat} (h : c ∈ namedChannels mask) : 1 ≤ c := by
  obtain ⟨i, -, hi⟩ := List.mem_filterMap.1 h
  split at hi
  · cases hi
    omega
  · cases hi

theorem effDioHostOutput_eq (s : State) (r : Req) (p : List Byte) (n : Nat)
    (h : ∀ i, i < 32 → bit (u32 p 0) i = true → s.dioDir (i + 1) = 2 ∧ s.dioSource (i + 1) = 4) :
    effDioHostOutput s r p n = served (s.hostWrites (u32 p 4) (namedChannels (u32 p 0))).dioPass := by
  have hany : ((namedChannels (u32 p 0)).any fun c => s.dioDir c ≠ 2 || s.dioSource c ≠ 4) = false := by
    rw [List.any_eq_false]
    intro c hc
    obtain ⟨i, rfl⟩ : ∃ i, c = i + 1 := ⟨c - 1, by have := one_le_of_mem_namedChannels hc; omega⟩
    obtain ⟨hi, hb⟩ := (mem_namedChannels _ i).1 hc
    obtain ⟨hd, hs⟩ := h i hi hb
    simp [hd, hs]
  unfold effDioHostOutput
  exact if_neg (by rw [namedChannels] at hany; rw [hany]; exact Bool.false_ne_true)

theorem State.commands_dioHostOutput (s : State) (r : Req) (p : List Byte)
    (h : ∀ i, i < 32 → bit (u32 p 0) i = true → s.dioDir (i + 1) = 2 ∧ s.dioSource (i + 1) = 4) :
    s.Commands (.dioHostOutput r p) r 0x3001 p stOk [] true [.fio] fun u =>
      ∀ i x, i < 32 → s.fio.channels[i]? = some x → ∃ y, u.fio.channels[i]? = some y
        ∧ y.forced = x.forced
        ∧ if bit (u32 p 0) i then y.hostValue = bit (u32 p 4) i ∧ y.hostAt = s.now ∧ y.hostExpired = false
          else y.hostValue = x.hostValue ∧ y.hostAt = x.hostAt ∧ y.hostExpired = x.hostExpired := by
  have hdrive := (s.hostWrites (u32 p 4) (namedChannels (u32 p 0))).dioPass_drives
  refine State.commandsWith_of_effect rfl rfl rfl rfl (effDioHostOutput_eq s r p 0 h)
    (State.changesOnly_trans _ (s.hostWrites_changes _ _) hdrive.changes (by decide) (by decide))
    (by decide) (by decide) (by decide) fun u hu i x hi hx => ?_
  have hfio := hu .fio (by decide)
  have hw := s.hostWrites_channel (u32 p 4) (namedChannels (u32 p 0)) (fun c hc => one_le_of_mem_namedChannels hc) i x hx
  obtain ⟨y, hy, hxy⟩ := hdrive.2 i _ hw
  refine ⟨y, by rw [hfio]; exact hy, ?_⟩
  unfold DioChannel.Driven at hxy
  by_cases hb : bit (u32 p 0) i = true
  · rw [if_pos ((mem_namedChannels _ i).2 ⟨hi, hb⟩)] at hxy
    rw [if_pos hb, hxy]
    exact ⟨rfl, rfl, rfl, rfl⟩
  · rw [if_neg fun hm => hb ((mem_namedChannels _ i).1 hm).2] at hxy
    rw [if_neg hb, hxy]
    exact ⟨rfl, rfl, rfl, rfl⟩

/-- DIO_FORCE of an output (R473). -/
theorem effDioForce_eq (s : State) (r : Req) (p : List Byte) (n c a : Nat) (hc : field p 0 1 = c) (ha : field p 1 1 = a)
    (h0 : u16 p 2 = 0) (h1 : 1 ≤ c) (h32 : c ≤ 32) (h2 : a ≤ 2) (hdir : s.dioDir c = 2) (hext : (s.dio c).extDrive = false) :
    effDioForce s r p n = served ((s.onDio c fun k => { k with forced := if a = 0 then none else some (a = 2) }).dioSet c) := by
  have hu0 : u8 p 0 = c := hc
  have hu1 : u8 p 1 = a := ha
  have hbad : ¬(c = 0 ∨ 32 < c ∨ 2 < a ∨ u16 p 2 ≠ 0) := by omega
  unfold effDioForce
  simp only [hu0, hu1, hbad, hdir, hext, if_false, ne_eq, not_true_eq_false, Bool.false_eq_true, and_false, or_self]

theorem State.commands_dioForce (s : State) (r : Req) (p : List Byte) (c a : Nat) (x : DioChannel) (hc : field p 0 1 = c)
    (ha : field p 1 1 = a) (h0 : u16 p 2 = 0) (h1 : 1 ≤ c) (h32 : c ≤ 32) (h2 : a ≤ 2) (hdir : s.dioDir c = 2)
    (hx : s.fio.channels[c - 1]? = some x) (hext : x.extDrive = false) :
    s.Commands (.dioForce r p) r 0x3002 p stOk [] true [.fio] fun u =>
      (∀ d, d ≠ c - 1 → u.fio.channels[d]? = s.fio.channels[d]?) ∧ u.fio.outputs = s.fio.outputs
        ∧ ∃ y, u.fio.channels[c - 1]? = some y ∧ y.forced = (if a = 0 then none else some (decide (a = 2)))
          ∧ (a ≠ 0 → s.fio.inReset = false → s.fio.inhibit = false → x.supplyOff = false → x.latched = false →
              x.restartWait = false → y.cmd = decide (a = 2)) := by
  have hserve := effDioForce_eq s r p 0 c a hc ha h0 h1 h32 h2 hdir (by rw [State.dio_of_getElem? hx]; exact hext)
  generalize hs1 : (s.onDio c fun k => { k with forced := if a = 0 then none else some (decide (a = 2)) }) = s1 at hserve
  have hchg1 : s.ChangesOnly [.fio] s1 := hs1 ▸ s.onDio_changes c _
  have hx1 : s1.fio.channels[c - 1]? = some { x with forced := if a = 0 then none else some (decide (a = 2)) } := by
    rw [← hs1, State.onDio_channel, if_pos rfl, hx]
    rfl
  have hdrive := s1.dioSet_drives c
  refine State.commandsWith_of_effect rfl rfl rfl rfl hserve
    (State.changesOnly_trans _ hchg1 hdrive.changes (by decide) (by decide)) (by decide) (by decide) (by decide) fun u hu => ?_
  have hfio := hu .fio (by decide)
  rw [hfio]
  refine ⟨fun d hd => ?_, ?_, ?_⟩
  · rw [State.dioSet_other s1 c d hd, ← hs1, State.onDio_channel, if_neg hd]
  · rw [hdrive.outputs, ← hs1]
    rfl
  · obtain ⟨y, hy, hxy⟩ := hdrive.2 _ _ hx1
    refine ⟨y, hy, ?_, fun hane hr hi hs hl hw => ?_⟩
    · rw [hxy]
    · have hset := State.dioSet_forced s1 c _ (decide (a = 2)) hx1 (hs1 ▸ hdir) (if_neg hane) (hs1 ▸ hr) (hs1 ▸ hi) hs hl hw
      rw [hset, State.onDio_channel, if_pos rfl, hx1] at hy
      cases hy
      rfl

/-- The code of an analogue output command, read as the mode of the output reads it (R514). -/
def State.aoCode (s : State) (i : Nat) (p : List Byte) : Int := if u8 (s.aoEntry i) 0 = 1 then fieldInt p 2 2 else u16 p 2

/-- An analogue output written by AO_HOST_OUTPUT (R514). -/
def AnalogOut.hostWrite (o : AnalogOut) (v : Int) (now : Nat) : AnalogOut := { o with hostCode := v, hostAt := now, hostExpired := false }

/-- An analogue output forced, or its force ended, by AO_FORCE (R515). -/
def AnalogOut.force (o : AnalogOut) (v : Option Int) : AnalogOut := { o with forced := v }

/-- A command that writes an analogue output. -/
theorem State.commands_aoWrite {s : State} {i : Instr} {r : Req} {code : Nat} {p : List Byte} {k : Nat} {g : AnalogOut → AnalogOut}
    {x : AnalogOut} {o : OpInfo} {Q : AnalogOut → Prop} (hi : exec i s = .next (s.requestWith [] code (fieldEffect [] code) r p))
    (ho : opInfo? code = some o) (hl : o.long = false) (hh : o.held = true) (hx : s.fio.outputs[k]? = some x)
    (hserve : fieldEffect [] code s r p 0 = served (s.aoWrite k g))
    (hQ : ∀ c b, Q { g x with code := c, clamped := b }) :
    s.Commands i r code p stOk [] true [.fio] fun u =>
      (∀ d, d ≠ k → u.fio.outputs[d]? = s.fio.outputs[d]?) ∧ u.fio.channels = s.fio.channels
        ∧ ∃ y, u.fio.outputs[k]? = some y ∧ Q y := by
  obtain ⟨hchg, hother, hch, c, b, hout⟩ := s.aoWrite_spec k g x hx
  refine State.commandsWith_of_effect hi ho hl hh hserve hchg (by decide) (by decide) (by decide) fun u hu => ?_
  have hfio := hu .fio (by decide)
  rw [hfio]
  exact ⟨hother, hch, _, hout, hQ c b⟩

theorem State.commands_aoHostOutput (s : State) (r : Req) (p : List Byte) (i : Nat) (x : AnalogOut) (hp : field p 0 1 = i) (hi : i < 4)
    (hx : s.fio.outputs[i]? = some x) (h1 : u8 p 1 = 0) (hsrc : u8 (s.aoEntry i) 1 = 3) :
    s.Commands (.aoHostOutput r p) r 0x3101 p stOk [] true [.fio] fun u =>
      (∀ d, d ≠ i → u.fio.outputs[d]? = s.fio.outputs[d]?) ∧ u.fio.channels = s.fio.channels
        ∧ ∃ y, u.fio.outputs[i]? = some y ∧ y.hostCode = s.aoCode i p ∧ y.hostAt = s.now ∧ y.hostExpired = false := by
  have hserve : effAoHostOutput s r p 0 = served (s.aoWrite i fun o => o.hostWrite (s.aoCode i p) s.now) := by
    have hu0 : u8 p 0 = i := hp
    have hbad : ¬(4 ≤ i ∨ u8 p 1 ≠ 0) := by omega
    unfold effAoHostOutput
    simp only [hu0, hbad, hsrc, if_false, ne_eq, not_true_eq_false]
    rfl
  exact State.commands_aoWrite rfl rfl rfl rfl hx hserve fun _ _ => ⟨rfl, rfl, rfl⟩

theorem State.commands_aoForce (s : State) (r : Req) (p : List Byte) (i : Nat) (x : AnalogOut) (hp : field p 0 1 = i) (hi : i < 4)
    (hx : s.fio.outputs[i]? = some x) (h1 : u8 p 1 ≤ 1) :
    s.Commands (.aoForce r p) r 0x3102 p stOk [] true [.fio] fun u =>
      (∀ d, d ≠ i → u.fio.outputs[d]? = s.fio.outputs[d]?) ∧ u.fio.channels = s.fio.channels
        ∧ ∃ y, u.fio.outputs[i]? = some y ∧ y.forced = if u8 p 1 = 1 then some (s.aoCode i p) else none := by
  have hserve : effAoForce s r p 0 = served (s.aoWrite i fun o => o.force (if u8 p 1 = 1 then some (s.aoCode i p) else none)) := by
    have hu0 : u8 p 0 = i := hp
    have hbad : ¬(4 ≤ i ∨ 1 < u8 p 1) := by omega
    unfold effAoForce
    simp only [hu0, hbad, if_false]
    rfl
  exact State.commands_aoWrite rfl rfl rfl rfl hx hserve fun _ _ => rfl

theorem State.raiseIf_changes (s : State) (b : Bool) (c : Nat) (a : List Nat) : s.ChangesOnly [.toRecorder] (s.raiseIf b c a) := by
  cases b with
  | false => exact State.changesOnly_refl _ _
  | true => exact s.raise_changes c a

theorem State.clearedEvents_changes (s : State) (c : Nat) (old new : DioChannel) :
    s.ChangesOnly [.toRecorder] (s.clearedEvents c old new) := by
  have step {t u : State} (h : s.ChangesOnly [.toRecorder] t) (h' : t.ChangesOnly [.toRecorder] u) : s.ChangesOnly [.toRecorder] u :=
    State.changesOnly_trans _ h h' (fun _ h => h) (fun _ h => h)
  exact step (step (step (s.raiseIf_changes _ _ _) (State.raiseIf_changes _ _ _ _)) (State.raiseIf_changes _ _ _ _))
    (State.raiseIf_changes _ _ _ _)

/-- A channel whose fault bits have been written 1: those cleared, and those the hardware sets (R18, R482). -/
def DioChannel.cleared (x : DioChannel) (mask present : Nat) : DioChannel := (x.clearBits mask).setBits present

/-- A write of fault bits: the written bits clear and those still present stand; the other channels are driven at most (R18, R468). -/
theorem State.clearChannel_spec (s : State) (c mask present : Nat) (x : DioChannel) (hx : s.fio.channels[c - 1]? = some x) :
    s.ChangesOnly [.fio, .toRecorder] (s.clearChannel c mask present)
      ∧ (∃ y w, (s.clearChannel c mask present).fio.channels[c - 1]? = some y
          ∧ DioChannel.Driven { x.cleared mask present with restartWait := w } y)
      ∧ ∀ d z, d ≠ c - 1 → s.fio.channels[d]? = some z →
        ∃ y, (s.clearChannel c mask present).fio.channels[d]? = some y ∧ z.Driven y := by
  obtain ⟨w, heq⟩ : ∃ w, s.clearChannel c mask present
      = ((s.onDio c fun _ => { x.cleared mask present with restartWait := w }).clearedEvents c x (x.cleared mask present)).dioPass := by
    refine ⟨(x.cleared mask present).restartWait || (x.latched && !(x.cleared mask present).latched && s.dioFlag c 3), ?_⟩
    unfold State.clearChannel
    rw [State.dio_of_getElem? hx]
    rfl
  generalize hs1 : (s.onDio c fun _ => { x.cleared mask present with restartWait := w }) = s1 at heq
  have hev := s1.clearedEvents_changes c x (x.cleared mask present)
  generalize s1.clearedEvents c x (x.cleared mask present) = s2 at heq hev
  have hfio : s2.fio = s1.fio := hev .fio (by decide)
  have hdrive := s2.dioPass_drives
  rw [heq]
  refine ⟨?_, ?_, fun d z hd hz => hdrive.2 d z ?_⟩
  · have h1 : s.ChangesOnly [.fio, .toRecorder] s2 :=
      State.changesOnly_trans _ (hs1 ▸ s.onDio_changes c _) hev (by decide) (by decide)
    exact State.changesOnly_trans _ h1 hdrive.changes (fun _ h => h) (by decide)
  · have hc : s2.fio.channels[c - 1]? = some { x.cleared mask present with restartWait := w } := by
      rw [hfio, ← hs1, State.onDio_channel, if_pos rfl, hx]
      rfl
    obtain ⟨y, hy, hxy⟩ := hdrive.2 _ _ hc
    exact ⟨y, w, hy, hxy⟩
  · rw [hfio, ← hs1, State.onDio_channel, if_neg hd]
    exact hz

theorem State.commands_channelFaultClear (s : State) (r : Req) (c mask present : Nat) (x : DioChannel) (h1 : 1 ≤ c) (h32 : c ≤ 32)
    (hm : mask < 4294967296) (hx : s.fio.channels[c - 1]? = some x) (ha : 1 ≤ s.authority r) :
    s.CommandsWith (.channelFaultClear r c mask present) r 0x0111 (le 4 (0x30050000 + c) ++ le 4 mask) [(0x30050000 + c, present)] stOk
      [0, 0, 0, 0] false [.fio, .toRecorder] fun u => ∃ y, u.fio.channels[c - 1]? = some y
        ∧ y.extDrive = ((x.extDrive && !bit mask 7) || bit present 7) ∧ y.overload = ((x.overload && !bit mask 8) || bit present 8)
        ∧ y.readback = ((x.readback && !bit mask 9) || bit present 9)
        ∧ y.groupOverload = ((x.groupOverload && !bit mask 10) || bit present 10)
        ∧ ∀ d z, d ≠ c - 1 → s.fio.channels[d]? = some z → ∃ w, u.fio.channels[d]? = some w
            ∧ (w.extDrive, w.overload, w.readback, w.groupOverload) = (z.extDrive, z.overload, z.readback, z.groupOverload) := by
  have hdiv : (0x30050000 + c) / 65536 = 0x3005 := by omega
  have hmod : (0x30050000 + c) % 65536 = c := by omega
  have hpd := paramDesc_dioStatus c h32
  have hitem : (s.statusItem? (0x30050000 + c)).isSome = true := by
    have hc : ¬(c = 0 ∨ 32 < c) := by omega
    simp [State.statusItem?, hdiv, hmod, hc]
  have hauth : writeAuthority (0x30050000 + c) ≤ s.authority r := by
    rw [writeAuthority, if_pos (.inr hdiv)]
    exact ha
  have hok := s.entryStatus_of_statusItem r (0x30050000 + c) (BitVec.ofNat 32 mask) hpd hitem hauth
    (operatorParams_lt _ (by omega)) (by omega)
  have hwrite : s.writeClear (0x30050000 + c) mask present = s.clearChannel c mask present := by
    simp only [State.writeClear, hdiv, hmod, if_true]
  have hserve := effParamWrite_statusItem s r (0x30050000 + c) mask 0 [(0x30050000 + c, present)] (by omega) hm hpd hok
  have hpresent : (assoc [(0x30050000 + c, present)] (0x30050000 + c)).getD 0 = present := by simp [assoc]
  rw [hpresent, hwrite] at hserve
  obtain ⟨hchg, ⟨y, w, hy, hxy⟩, hother⟩ := s.clearChannel_spec c mask present x hx
  refine State.commandsWith_of_effect rfl rfl rfl rfl hserve hchg (by decide) (by decide) (by decide) fun u hu => ?_
  have hfio := hu .fio (by decide)
  rw [hfio]
  refine ⟨y, hy, by rw [hxy]; rfl, by rw [hxy]; rfl, by rw [hxy]; rfl, by rw [hxy]; rfl, fun d z hd hz => ?_⟩
  obtain ⟨v, hv, hzv⟩ := hother d z hd hz
  exact ⟨v, hv, by rw [hzv]⟩

theorem State.commands_w1cClear (s : State) (r : Req) (b mask now : Nat) (h1 : 1 ≤ b) (h6 : b ≤ 6) (hm : mask < 4294967296)
    (ha : 2 ≤ s.authority r) :
    s.CommandsWith (.w1cClear r (0x40080000 + b) mask now) r 0x0111 (le 4 (0x40080000 + b) ++ le 4 mask) [(0x40080000 + b, now)] stOk
      [0, 0, 0, 0] false [.buses] fun u => u.buses = { s.buses with can := setAt s.buses.can (b - 1) fun k => { k with
        protExc := (k.protExc && !bit mask 11) || bit now 11
        overrun := (k.overrun && !bit mask 10) || bit now 10
        txFull := (k.txFull && !bit mask 9) || bit now 9 } } := by
  have hdiv : (0x40080000 + b) / 65536 = 0x4008 := by omega
  have hmod : (0x40080000 + b) % 65536 = b := by omega
  have hpd := paramDesc_busStatus b h6
  have hitem : (s.statusItem? (0x40080000 + b)).isSome = true := by
    have hb : ¬(b = 0 ∨ 6 < b) := by omega
    simp [State.statusItem?, hdiv, hmod, hb]
  have hauth : writeAuthority (0x40080000 + b) ≤ s.authority r := by
    unfold writeAuthority
    split <;> omega
  have hok := s.entryStatus_of_statusItem r (0x40080000 + b) (BitVec.ofNat 32 mask) hpd hitem hauth
    (operatorParams_lt _ (by omega)) (by omega)
  have hserve := effParamWrite_statusItem s r (0x40080000 + b) mask 0 [(0x40080000 + b, now)] (by omega) hm hpd hok
  have hpresent : (assoc [(0x40080000 + b, now)] (0x40080000 + b)).getD 0 = now := by simp [assoc]
  have hwrite : s.writeClear (0x40080000 + b) mask now = s.onBus b fun k => { k with
      protExc := (k.protExc && !bit mask 11) || bit now 11
      overrun := (k.overrun && !bit mask 10) || bit now 10
      txFull := (k.txFull && !bit mask 9) || bit now 9 } := by
    simp only [State.writeClear, hdiv, hmod, if_true, Nat.reduceEqDiff, if_false]
  rw [hpresent, hwrite] at hserve
  exact State.commandsWith_of_effect rfl rfl rfl rfl hserve (s.onBus_changes b _) (by decide) (by decide) (by decide)
    fun u hu => hu .buses (by decide)

theorem State.commands_busRecover (s : State) (r : Req) (p : List Byte) (b : Nat) (hp : field p 0 1 = b) (h0 : field p 1 3 = 0)
    (h1 : 1 ≤ b) (h6 : b ≤ 6) (hoff : (s.bus b).busOff = true) :
    s.Commands (.busRecover r p) r 0x4002 p stOk [] true [.buses] fun u =>
      u.buses = { s.buses with can := setAt s.buses.can (b - 1) fun k => { k with recovering := true } } := by
  have hserve : effBusRecover s r p 0 = served (s.onBus b fun k => { k with recovering := true }) := by
    have hu0 : u8 p 0 = b := hp
    have hbad : ¬(b = 0 ∨ 6 < b ∨ field p 1 3 ≠ 0) := by omega
    unfold effBusRecover
    simp only [hu0, hbad, hoff, if_false, Bool.not_true, Bool.false_eq_true]
  exact State.commandsWith_of_effect rfl rfl rfl rfl hserve (s.onBus_changes b _) (by decide) (by decide) (by decide)
    fun u hu => hu .buses (by decide)

/-- Settles O48: one lemma per command. -/
theorem outputCommandsDriveTheirChannels : Obligations.OutputCommandsDriveTheirChannels := by
  intro r p s
  refine ⟨s.commands_dioHostOutput r p, ?force, ?analogue, s.commands_channelFaultClear r, s.commands_w1cClear r,
    s.commands_busRecover r p⟩
  case force => exact fun c a x hc ha h0 h1 h32 h2 hdir hx hext => s.commands_dioForce r p c a x hc ha h0 h1 h32 h2 hdir hx hext
  case analogue =>
    exact fun i x hp hi hx => ⟨s.commands_aoHostOutput r p i x hp hi hx, s.commands_aoForce r p i x hp hi hx⟩

end Sys2Proof.Machine
end

section
/-!
PROOFS. The recorder: O57.
-/

namespace Sys2Proof.Machine

theorem State.sendCompletion_handles (s : State) (h : HandleRec) (final : Nat) (result : List Byte) :
    (s.sendCompletion h final result).host.handles = s.host.handles := by
  unfold State.sendCompletion
  split <;> rfl

theorem State.sendCompletion_linkUp (s : State) (h : HandleRec) (final : Nat) (result : List Byte) :
    (s.sendCompletion h final result).linkUp = s.linkUp := by
  unfold State.sendCompletion
  split <;> rfl

/-- A fold over copies of one entry stays where one step leaves it. -/
theorem foldl_replicate_of_fixed {α β : Type} (g : β → α → β) (b : β) (a : α) (n : Nat) (h : g b a = b) :
    (List.replicate n a).foldl g b = b := by
  induction n with
  | zero => rfl
  | succ n ih => rw [List.replicate_succ, List.foldl_cons, h, ih]

theorem State.hostRaise_of_linkUp (s : State) (code : Nat) (args : List Nat) (h : s.linkUp = true) :
    s.hostRaise code args = s.raise code args := if_pos h

/-- Discarding the oldest unread result discards every handle of its number: all of them, when more than 256 completed ones share it. -/
theorem State.trimResults_replicate (s : State) (h : HandleRec) (n : Nat) (hup : s.linkUp = true) (hc : h.outstanding = false)
    (hs : s.host.handles = List.replicate (n + 257) h) : s.trimResults.host.handles = [] := by
  have hdone : s.host.handles.filter (fun k => !k.outstanding) = h :: List.replicate (n + 256) h := by
    rw [hs, List.filter_replicate, if_pos (by rw [hc]; rfl), List.replicate_succ]
  have hlen : ¬(h :: List.replicate (n + 256) h).length ≤ 256 := by simp
  have hnone : s.host.handles.filter (fun k => k.number ≠ h.number) = [] := by
    rw [hs, List.filter_replicate, if_neg (by simp)]
  unfold State.trimResults
  simp only [hdone, hlen, if_false, List.foldl_cons]
  rw [foldl_replicate_of_fixed]
  · dsimp only
    rw [hnone, State.hostRaise_of_linkUp]
    · rfl
    · exact hup
  · exact if_neg (Nat.lt_irrefl _)

/-- A handle whose completion has reached the host side (R584). -/
def HandleRec.completed (h : HandleRec) (final : Nat) (result : List Byte) (now : Nat) : HandleRec :=
  { h with stage := .complete, final := final, result := result, completedAt := now }

/-- When 257 outstanding handles share a number, the completion of one leaves none of them: nothing in the state keeps handle numbers apart,
and a completion that reaches the host side completes, and then discards, every handle of its number (R584). -/
theorem State.finish_replicate (s : State) (h : HandleRec) (n final : Nat) (result : List Byte) (hup : s.linkUp = true)
    (ho : h.outstanding = true) (hs : s.host.handles = List.replicate (n + 257) h) :
    (s.finish h.number final result).host.handles = [] := by
  have hfind (u : State) (hu : u.host.handles = List.replicate (n + 257) h) : u.handle? h.number = some h := by
    rw [State.handle?, hu, List.replicate_succ]
    exact List.find?_cons_of_pos (by simp)
  have hcross (u : State) (hu : u.host.handles = List.replicate (n + 257) h) (hl : u.linkUp = true) :
      (u.arriveCompletion h.number final result).host.handles = [] := by
    unfold State.arriveCompletion
    rw [hfind u hu]
    simp only [ho, Bool.not_true, Bool.false_eq_true, if_false]
    refine State.trimResults_replicate _ (h.completed final result u.now) n ?_ rfl ?_
    · rw [State.sendCompletion_linkUp]
      exact hl
    · rw [State.sendCompletion_handles]
      show (u.host.handles.map _) = _
      rw [hu, List.map_replicate, if_pos rfl]
      rfl
  unfold State.finish State.crossCompletion
  rw [if_pos hup, hfind s hs]
  simp only [ho, Bool.not_true, Bool.false_eq_true, if_false]
  exact hcross _ hs hup

/-- A handle of a NAND_RETURN that runs (R645). -/
def returnHandle : HandleRec :=
  { number := 1, user := 0, session := 0, opcode := 0x6005, tag := 0, authority := 3, credits := 1, stage := .running, progress := 255,
    final := 0, result := [], completedAt := 0 }

/-- Device A is returning to service, and 257 outstanding handles have the number of the operation. -/
def crowdedReturn : State :=
  { State.reset with
    host.handles := List.replicate 257 returnHandle
    recorder.returning := some (1, 0)
    recorder.devA.st := .returning }

/-- Refutes O57: the statement admits states in which many handles share one number. In `crowdedReturn` a NAND_RETURN that fails completes
all 257 handles of number 1; as more than 256 results are then unread, the oldest is discarded by its number (R584), and with it all
others: no handle is left that shows TEST_FAILED. -/
theorem not_recorderKeepsRecordsAndYealms : ¬ Obligations.RecorderKeepsRecordsAndYealms := by
  intro h
  obtain ⟨-, -, -, -, -, -, -, -, -, hreturn, -⟩ := h 0 crowdedReturn rfl
  have hcount : (crowdedReturn.host.handles.filter fun h => !h.outstanding).length < 256 := by
    show ((List.replicate 257 returnHandle).filter _).length < 256
    rw [List.filter_replicate, if_neg (by decide)]
    decide
  obtain ⟨u, hu, ⟨-, -, k, hk, -⟩, -⟩ := (hreturn 1 0 returnHandle rfl (by decide) rfl rfl rfl rfl hcount).2
  obtain ⟨v, hv, hup, hhandles⟩ : ∃ v : State, exec (.nandReturnComplete 0 false) crowdedReturn = .next (v.finish 1 stTestFailed [])
      ∧ v.linkUp = true ∧ v.host.handles = List.replicate 257 returnHandle := ⟨_, rfl, rfl, rfl⟩
  obtain rfl : v.finish 1 stTestFailed [] = u := Host.Outcome.next.inj (hv.symm.trans hu)
  have hnone : (v.finish 1 stTestFailed []).host.handles = [] := v.finish_replicate returnHandle 0 stTestFailed [] hup rfl hhandles
  rw [State.handle?, hnone] at hk
  cases hk

end Sys2Proof.Machine
end

section
/-!
SUPPORT. The time unit: what its operations leave alone. The servo, the conflict timer and the errors met on selection touch the time
unit and the records only, and neither the sources nor the offset (R166, R168, R169, R176).
-/

namespace Sys2Proof.Machine

/-! The sources of the time unit by number (R163, R166). -/

@[simp] theorem TimeUnit.src_setSrc_self (x : TimeUnit) (n : Nat) (v : TimeSource) : (x.setSrc n v).src n = v := by
  unfold TimeUnit.setSrc TimeUnit.src
  split
  · rfl
  · split <;> rfl

theorem TimeUnit.src_setSrc_ne (x : TimeUnit) {n m : Nat} (v : TimeSource) (hn : 1 ≤ n ∧ n ≤ 3) (hm : 1 ≤ m ∧ m ≤ 3) (h : m ≠ n) :
    (x.setSrc n v).src m = x.src m := by
  obtain rfl | rfl | rfl : n = 1 ∨ n = 2 ∨ n = 3 := by omega
  all_goals obtain rfl | rfl | rfl : m = 1 ∨ m = 2 ∨ m = 3 := by omega
  all_goals first | rfl | exact absurd rfl h

/-- A source written is all that changes in the time unit. -/
theorem TimeUnit.setSrc_eq (x : TimeUnit) (n : Nat) (v : TimeSource) :
    ∃ a b c, x.setSrc n v = { x with gnss := a, ptp1Src := b, ptp2Src := c } := by
  unfold TimeUnit.setSrc
  split
  · exact ⟨v, x.ptp1Src, x.ptp2Src, rfl⟩
  · split
    · exact ⟨x.gnss, v, x.ptp2Src, rfl⟩
    · exact ⟨x.gnss, x.ptp1Src, v, rfl⟩

@[simp] theorem TimeUnit.setSrc_source (x : TimeUnit) (n : Nat) (v : TimeSource) : (x.setSrc n v).source = x.source := by
  obtain ⟨a, b, c, h⟩ := x.setSrc_eq n v
  rw [h]

/-- A measurement makes its error, the offset it was taken against and its uncertainty the source's own (R166). -/
theorem TimeSource.measure_eq (x : TimeSource) (n now unc : Nat) (e base : Int) :
    ∃ since lo hi, x.measure n now e base unc
      = { x with valid := true, validSince := since, minE := lo, maxE := hi, e := e, base := base, unc := unc } := by
  obtain ⟨valid, since, lo, hi, qualified, qualSince, e0, base0, unc0⟩ := x
  unfold TimeSource.measure
  cases valid
  case false => exact ⟨now, e, e, rfl⟩
  case true =>
    simp only [Bool.not_true, Bool.false_eq_true, if_false]
    split
    · exact ⟨since, lo, hi, rfl⟩
    · split
      · exact ⟨now, e, e, rfl⟩
      · exact ⟨since, min lo e, max hi e, rfl⟩

/-! What an update of the time unit changes after the clock has moved. -/

theorem State.changes_tick_time (s : State) (t : Nat) (x : TimeUnit) : s.ChangesOnly [.now, .time] { s.tick t with time := x } :=
  State.changesOnly_trans _ (s.tick_changes t) ((s.tick t).changes_time x) (by decide) (by decide)

theorem State.changes_toRecorder (s : State) (r : List Event) : s.ChangesOnly [.toRecorder] { s with toRecorder := r } := by
  intro f hf
  cases f <;> first | rfl | exact absurd List.mem_cons_self hf

theorem State.changes_gnss (s : State) (x : Gnss) : s.ChangesOnly [.gnss] { s with gnss := x } := by
  intro f hf
  cases f <;> first | rfl | exact absurd List.mem_cons_self hf

theorem State.changes_time_toRecorder (s : State) (x : TimeUnit) (r : List Event) :
    s.ChangesOnly [.time, .toRecorder] { s with time := x, toRecorder := r } :=
  State.changesOnly_trans _ (s.changes_time x) (State.changes_toRecorder { s with time := x } r) (by decide) (by decide)

theorem State.changes_tick_time_toRecorder (s : State) (t : Nat) (x : TimeUnit) (r : List Event) :
    s.ChangesOnly [.now, .time, .toRecorder] { s.tick t with time := x, toRecorder := r } :=
  State.changesOnly_trans _ (s.tick_changes t) ((s.tick t).changes_time_toRecorder x r) (by decide) (by decide)

/-! The operations of the time unit, each with the pieces it may write. -/

theorem State.watchConflict_eq (s : State) :
    ∃ c b, s.watchConflict = { s with time.conflictSince := c, time.conflictTold := b } := by
  unfold State.watchConflict
  split
  · exact ⟨_, s.time.conflictTold, rfl⟩
  · exact ⟨none, false, rfl⟩

theorem State.follow_eq (s : State) (e : Int) :
    ∃ p l b, s.follow e = { s with time.pending := p, time.slewLeft := l, time.slewing := b } := by
  unfold State.follow
  split
  · exact ⟨_, s.time.slewLeft, s.time.slewing, rfl⟩
  · exact ⟨s.time.pending, _, _, rfl⟩

theorem State.servo_eq (s : State) (e : Int) : ∃ w r, s.servo e = { s with time.ocxoWord := w, time.offsetRate := r } := by
  unfold State.servo
  dsimp only
  split
  · exact ⟨s.time.ocxoWord, s.time.offsetRate, rfl⟩
  · exact ⟨_, _, rfl⟩

theorem State.settled_eq (s : State) : ∃ x h, s.settled = { s with time.st := x, time.hold := h } := by
  unfold State.settled
  split
  · exact ⟨.unsynchronised, s.time.hold, rfl⟩
  · exact ⟨.locked, none, rfl⟩

theorem State.tellState_eq (s : State) (old : TimeState) :
    ∃ es, s.tellState old = { s with toRecorder := s.toRecorder ++ es } := by
  have keep : s = { s with toRecorder := s.toRecorder ++ [] } := by rw [List.append_nil]
  unfold State.tellState
  split
  · exact ⟨[], keep⟩
  · split
    · exact ⟨[_], rfl⟩
    · exact ⟨[_], rfl⟩
    · exact ⟨[], keep⟩

theorem State.enterLocked_eq (s : State) :
    ∃ x h es, s.enterLocked = { s with time.st := x, time.hold := h, toRecorder := s.toRecorder ++ es } := by
  obtain ⟨x, h, hx⟩ := s.settled_eq
  obtain ⟨es, hes⟩ := s.settled.tellState_eq s.time.st
  refine ⟨x, h, es, ?_⟩
  rw [State.enterLocked, hes, hx]

/-- The part of the time unit that an error met by the servo can change: a pending step, the slew, the time state. -/
def TimeUnit.ServoMoves (x y : TimeUnit) : Prop :=
  ∃ p l b st h, y = { x with pending := p, slewLeft := l, slewing := b, st := st, hold := h }

theorem TimeUnit.ServoMoves.src {x y : TimeUnit} (h : x.ServoMoves y) (n : Nat) : y.src n = x.src n := by
  obtain ⟨p, l, b, st, hold, rfl⟩ := h
  rfl

theorem TimeUnit.ServoMoves.source {x y : TimeUnit} (h : x.ServoMoves y) : y.source = x.source := by
  obtain ⟨p, l, b, st, hold, rfl⟩ := h
  rfl

/-- An error met on selection waits as a step or is slewed, and what it tells follows what was told before (R176, R177, R182). -/
theorem State.meetError_eq (s : State) (e : Int) :
    ∃ x es, s.meetError e = { s with time := x, toRecorder := s.toRecorder ++ es } ∧ s.time.ServoMoves x := by
  unfold State.meetError
  split
  · refine ⟨{ s.time with pending := some { e := e, announced := false, pulses := 0, confirmed := true, lowSince := none } }, [], ?_,
      _, s.time.slewLeft, s.time.slewing, s.time.st, s.time.hold, rfl⟩
    rw [List.append_nil]
  · split
    · obtain ⟨st, h, es, hes⟩ := (s.slew e).enterLocked_eq
      exact ⟨_, es, hes, s.time.pending, _, _, st, h, rfl⟩
    · exact ⟨_, [_], rfl, _, s.time.slewLeft, s.time.slewing, s.time.st, s.time.hold, rfl⟩

/-- Another source selected: event 0x1201 names it, and the sources are as they were (R167, R168, R200). -/
theorem State.selectSource_spec (s : State) (n : Nat) (h : s.time.source ≠ n) :
    ∃ x es, s.selectSource n = { s with time := x, toRecorder := s.toRecorder ++ es } ∧ x.source = n ∧ (∀ m, x.src m = s.time.src m)
      ∧ ∃ e ∈ es, e.Says 0x1201 [n] := by
  let s1 : State := { s with time.source := n, time.pending := none, time.slewing := false, time.slewLeft := 0 }
  obtain ⟨x, es, hmeet, hx⟩ := (s1.raise 0x1201 [n]).meetError_eq ((s1.raise 0x1201 [n]).errorOf n)
  refine ⟨x, s1.makeEvent 0x1201 0 ([n].flatMap (le 4)) :: es, ?_, hx.source, hx.src, _, List.mem_cons_self, rfl, rfl, rfl⟩
  have hsel : s.selectSource n = (s1.raise 0x1201 [n]).meetError ((s1.raise 0x1201 [n]).errorOf n) := by
    simp only [State.selectSource, ne_eq, h, not_false_eq_true, decide_true, State.raiseIf_true]
    rfl
  rw [hsel, hmeet, State.raise_toRecorder, List.append_assoc]
  rfl

/-! The look at the sources that precedes each command about them (R153, R166). -/

/-- Whether a source delivers is read from the GNSS solution, the PTP instances and the parameters. -/
theorem State.sourceValid_congr {s u : State} (hg : u.gnss = s.gnss) (hp : u.params = s.params) (h1 : u.time.ptp1 = s.time.ptp1)
    (h2 : u.time.ptp2 = s.time.ptp2) (n : Nat) : u.sourceValid n = s.sourceValid n := by
  have hparam : u.paramN = s.paramN := by
    funext id
    rw [State.paramN, State.paramN, State.param, State.param, hp]
  unfold State.sourceValid TimeUnit.ptp
  rw [hg, hparam, h1, h2]

theorem State.disqualify_of_not_selected (s : State) (n : Nat) (h : s.time.source ≠ n) :
    s.disqualify n
      = { s with time := s.time.setSrc n { s.time.src n with valid := false, qualified := false } }.watchConflict := by
  rw [State.disqualify, if_neg h]

/-- A source that is not selected is disqualified: it alone is touched, and the conflict timer (R166, R169). -/
theorem State.disqualify_spec (s : State) (n : Nat) (h : s.time.source ≠ n) :
    ∃ x, s.disqualify n = { s with time := x } ∧ x.source = s.time.source ∧ x.ptp1 = s.time.ptp1 ∧ x.ptp2 = s.time.ptp2
      ∧ ∀ m, x.src m = (s.time.setSrc n { s.time.src n with valid := false, qualified := false }).src m := by
  rw [s.disqualify_of_not_selected n h]
  obtain ⟨c, b, hw⟩ := State.watchConflict_eq
    { s with time := s.time.setSrc n { s.time.src n with valid := false, qualified := false } }
  rw [hw]
  obtain ⟨a, a1, a2, ht⟩ := s.time.setSrc_eq n { s.time.src n with valid := false, qualified := false }
  rw [ht]
  exact ⟨_, rfl, rfl, rfl, rfl, fun _ => rfl⟩

/-- The look at one source (R166). -/
def State.checkSource (s : State) (n : Nat) : State := if (s.time.src n).valid && !s.sourceValid n then s.disqualify n else s

theorem State.checkSources_eq (s : State) : s.checkSources = ((s.checkSource 1).checkSource 2).checkSource 3 := rfl

/-- A source that delivers, or has not been valid, is left alone. -/
theorem State.checkSource_of_holds (s : State) (n : Nat) (h : (s.time.src n).valid = true → s.sourceValid n = true) :
    s.checkSource n = s := by
  refine if_neg fun hlost => ?_
  obtain ⟨hv, hs⟩ := Bool.and_eq_true_iff.mp hlost
  rw [h hv] at hs
  exact absurd hs (by decide)

theorem State.checkSources_of_sourcesHold (s : State) (h : s.SourcesHold 0) : s.checkSources = s := by
  have keep (m : Nat) (h1 : 1 ≤ m) (h3 : m ≤ 3) : s.checkSource m = s :=
    s.checkSource_of_holds m (h m h1 h3 (by omega))
  rw [s.checkSources_eq, keep 1 (by omega) (by omega), keep 2 (by omega) (by omega), keep 3 (by omega) (by omega)]

/-- Once the one source that stopped is disqualified, all others hold. -/
theorem State.sourcesHold_disqualify (s : State) (n : Nat) (hn : 1 ≤ n ∧ n ≤ 3) (h : s.SourcesHold n) (hsel : s.time.source ≠ n) :
    (s.disqualify n).SourcesHold 0 := by
  obtain ⟨x, hx, -, h1, h2, hsrc⟩ := s.disqualify_spec n hsel
  rw [hx]
  intro m hm1 hm3 _ hv
  change (x.src m).valid = true at hv
  rw [hsrc] at hv
  rw [State.sourceValid_congr (s := s) (u := { s with time := x }) rfl rfl h1 h2]
  by_cases hmn : m = n
  · subst hmn
    rw [TimeUnit.src_setSrc_self] at hv
    cases hv
  · rw [TimeUnit.src_setSrc_ne _ _ hn ⟨hm1, hm3⟩ hmn] at hv
    exact h m hm1 hm3 hmn hv

/-- The look at the sources disqualifies the one that has stopped, when it is not the selected one (R166). -/
theorem State.checkSources_of_stopped (s : State) (n : Nat) (hn : 1 ≤ n ∧ n ≤ 3) (h : s.SourcesHold n) (hsel : s.time.source ≠ n)
    (hv : (s.time.src n).valid = true) (hs : s.sourceValid n = false) : s.checkSources = s.disqualify n := by
  have hstop : s.checkSource n = s.disqualify n := by
    rw [State.checkSource, hv, hs]
    rfl
  have before (m : Nat) (h1 : 1 ≤ m) (h3 : m ≤ 3) (hm : m ≠ n) : s.checkSource m = s := s.checkSource_of_holds m (h m h1 h3 hm)
  have after (m : Nat) (h1 : 1 ≤ m) (h3 : m ≤ 3) : (s.disqualify n).checkSource m = s.disqualify n :=
    State.checkSource_of_holds _ m (s.sourcesHold_disqualify n hn h hsel m h1 h3 (by omega))
  rw [s.checkSources_eq]
  obtain rfl | rfl | rfl : n = 1 ∨ n = 2 ∨ n = 3 := by omega
  · rw [hstop, after 2 (by omega) (by omega), after 3 (by omega) (by omega)]
  · rw [before 1 (by omega) (by omega) (by omega), hstop, after 3 (by omega) (by omega)]
  · rw [before 1 (by omega) (by omega) (by omega), before 2 (by omega) (by omega) (by omega), hstop]

/-- The clock moves no source and no delivery. -/
theorem State.tick_checkSources (s : State) (t : Nat) (h : s.SourcesHold 0) : (s.tick t).checkSources = s.tick t :=
  (s.tick t).checkSources_of_sourcesHold h

end Sys2Proof.Machine
end

section
/-!
PROOFS. Time sources: O17.
-/

namespace Sys2Proof.Machine

/-- A source written, its error taken by the servo if it is the selected one, and the conflict timer: no other source changes. -/
theorem State.measured_spec (s : State) (n : Nat) (v : TimeSource) (e : Int) :
    let s1 : State := { s with time := s.time.setSrc n v }
    ∃ x, (if s1.time.source = n then (s1.follow e).servo e else s1).watchConflict = { s with time := x }
      ∧ ∀ m, x.src m = (s.time.setSrc n v).src m := by
  intro s1
  have hservo : ∃ x, (if s1.time.source = n then (s1.follow e).servo e else s1) = { s1 with time := x } ∧ ∀ m, x.src m = s1.time.src m := by
    split
    · obtain ⟨p, l, b, hf⟩ := s1.follow_eq e
      obtain ⟨w, r, hw⟩ := (s1.follow e).servo_eq e
      rw [hw, hf]
      exact ⟨_, rfl, fun _ => rfl⟩
    · exact ⟨_, rfl, fun _ => rfl⟩
  obtain ⟨x, hx, hsrc⟩ := hservo
  obtain ⟨c, b, hc⟩ := State.watchConflict_eq { s1 with time := x }
  rw [hx, hc]
  exact ⟨_, rfl, hsrc⟩

theorem State.completes_timeOffsetMeasurement (s : State) (t n unc : Nat) (hn : 1 ≤ n ∧ n ≤ 3) (h : s.SourcesHold 0)
    (hv : s.sourceValid n = true) :
    s.Completes (.timeOffsetMeasurement t n unc) [.now, .time] fun u =>
      (u.time.src n).e = s.sourceOffset n ∧ (u.time.src n).unc = unc ∧ (u.time.src n).valid = true
        ∧ (u.time.src n).base = (s.tick t).time.offset ∧ ∀ m, 1 ≤ m → m ≤ 3 → m ≠ n → u.time.src m = s.time.src m := by
  obtain ⟨x, hx, hsrc⟩ := (s.tick t).measured_spec n
    (((s.tick t).time.src n).measure n (s.tick t).now ((s.tick t).sourceOffset n) (s.tick t).time.offset unc)
    ((s.tick t).sourceOffset n)
  have hexec : exec (.timeOffsetMeasurement t n unc) s = .next { s.tick t with time := x } := by
    have hgo : ¬(n < 1 ∨ 3 < n ∨ (s.tick t).sourceValid n = false) := by
      rintro (hlow | hhigh | hstopped)
      · omega
      · omega
      · exact absurd (hv.symm.trans hstopped) (by decide)
    rw [← hx]
    change execTimeOffsetMeasurement t n unc s = _
    rw [execTimeOffsetMeasurement, s.tick_checkSources t h, if_neg hgo]
  refine ⟨_, hexec, ?_, s.changes_tick_time t x⟩
  obtain ⟨since, lo, hi, hm⟩ :=
    ((s.tick t).time.src n).measure_eq n (s.tick t).now unc ((s.tick t).sourceOffset n) (s.tick t).time.offset
  have hself := ((hsrc n).trans (TimeUnit.src_setSrc_self _ _ _)).trans hm
  exact ⟨congrArg TimeSource.e hself, congrArg TimeSource.unc hself, congrArg TimeSource.valid hself, congrArg TimeSource.base hself,
    fun m h1 h3 hm => (hsrc m).trans (TimeUnit.src_setSrc_ne _ _ hn ⟨h1, h3⟩ hm)⟩

theorem State.completes_timeOffsetMeasurement_stopped (s : State) (t n unc : Nat) (hn : 1 ≤ n ∧ n ≤ 3) (h : s.SourcesHold n)
    (hv : (s.time.src n).valid = true) (hs : s.sourceValid n = false) (hsel : s.time.source ≠ n) :
    s.Completes (.timeOffsetMeasurement t n unc) [.now, .time] fun u =>
      (u.time.src n).valid = false ∧ (u.time.src n).qualified = false ∧ u.time.source = s.time.source
        ∧ ∀ m, 1 ≤ m → m ≤ 3 → m ≠ n → u.time.src m = s.time.src m := by
  obtain ⟨x, hx, hsource, h1, h2, hsrc⟩ := (s.tick t).disqualify_spec n hsel
  have hexec : exec (.timeOffsetMeasurement t n unc) s = .next { s.tick t with time := x } := by
    have hstay : State.sourceValid { s.tick t with time := x } n = false :=
      (State.sourceValid_congr (s := s.tick t) (u := { s.tick t with time := x }) rfl rfl h1 h2 n).trans hs
    change execTimeOffsetMeasurement t n unc s = _
    rw [execTimeOffsetMeasurement, (s.tick t).checkSources_of_stopped n hn h hsel hv hs, hx, if_pos (.inr (.inr hstay))]
  have hself := (hsrc n).trans (TimeUnit.src_setSrc_self _ _ _)
  exact ⟨_, hexec, ⟨congrArg TimeSource.valid hself, congrArg TimeSource.qualified hself, hsource,
    fun m h1 h3 hm => (hsrc m).trans (TimeUnit.src_setSrc_ne _ _ hn ⟨h1, h3⟩ hm)⟩, s.changes_tick_time t x⟩

/-- A source that has been valid within its limit for long enough to qualify (R166). -/
def State.Qualifies (s : State) (t n : Nat) : Prop :=
  (s.time.src n).valid = true ∧ (s.time.src n).qualified = false ∧ (s.time.src n).validSince + 10000000000 ≤ max s.now t
    ∧ (s.time.src n).maxE - (s.time.src n).minE ≤ qualLimit n

/-- The state in which source n has just become qualified (R166). -/
def State.qualified (s : State) (n : Nat) : State :=
  { s with time := s.time.setSrc n { s.time.src n with qualified := true, qualSince := s.now } }

theorem State.exec_sourceQualified (s : State) (t n : Nat) (hn : 1 ≤ n ∧ n ≤ 3) (h : s.SourcesHold 0) (hq : s.Qualifies t n) :
    exec (.sourceQualified t n) s =
      let u := (s.tick t).qualified n
      .next (if (s.time.source = 0 ∨ s.time.source = 4) ∧ n ∈ s.priority then u.selectSource n else u).watchConflict := by
  obtain ⟨hv, hnq, hsince, hlim⟩ := hq
  have hgo : ¬(n < 1 ∨ 3 < n) := by omega
  have hall : ((s.tick t).time.src n).valid = true ∧ ((s.tick t).time.src n).qualified = false
      ∧ ((s.tick t).time.src n).validSince + 10 * secNs ≤ (s.tick t).now
      ∧ ((s.tick t).time.src n).maxE - ((s.tick t).time.src n).minE ≤ qualLimit n := ⟨hv, hnq, hsince, hlim⟩
  change execSourceQualified t n s = _
  rw [execSourceQualified, s.tick_checkSources t h]
  simp only [if_neg hgo, if_pos hall, TimeUnit.setSrc_source]
  rfl

theorem State.completes_sourceQualified_kept (s : State) (t n : Nat) (hn : 1 ≤ n ∧ n ≤ 3) (h : s.SourcesHold 0) (hq : s.Qualifies t n)
    (hkeep : (s.time.source ≠ 0 ∧ s.time.source ≠ 4) ∨ n ∉ s.priority) :
    s.Completes (.sourceQualified t n) [.now, .time] fun u =>
      (u.time.src n).qualified = true ∧ (u.time.src n).qualSince = max s.now t ∧ u.time.source = s.time.source := by
  have hno : ¬((s.time.source = 0 ∨ s.time.source = 4) ∧ n ∈ s.priority) := by
    rintro ⟨hsource, hmem⟩
    obtain ⟨h0, h4⟩ | hout := hkeep
    · exact hsource.elim h0 h4
    · exact hout hmem
  obtain ⟨c, b, hw⟩ := ((s.tick t).qualified n).watchConflict_eq
  refine ⟨_, s.exec_sourceQualified t n hn h hq, ?_⟩
  rw [if_neg hno, hw]
  have hself : ((s.tick t).time.setSrc n { (s.tick t).time.src n with qualified := true, qualSince := (s.tick t).now }).src n = _ :=
    TimeUnit.src_setSrc_self _ _ _
  exact ⟨⟨congrArg TimeSource.qualified hself, congrArg TimeSource.qualSince hself, TimeUnit.setSrc_source _ _ _⟩,
    s.changes_tick_time t _⟩

theorem State.completes_sourceQualified_selected (s : State) (t n : Nat) (hn : 1 ≤ n ∧ n ≤ 3) (h : s.SourcesHold 0)
    (hq : s.Qualifies t n) (hsel : s.time.source = 0 ∨ s.time.source = 4) (hp : n ∈ s.priority) :
    s.Completes (.sourceQualified t n) [.now, .time, .toRecorder] fun u =>
      (u.time.src n).qualified = true ∧ u.time.source = n ∧ ∃ e ∈ u.toRecorder, e.Says 0x1201 [n] := by
  have hother : ((s.tick t).qualified n).time.source ≠ n := by
    have hs : ((s.tick t).qualified n).time.source = s.time.source := TimeUnit.setSrc_source _ _ _
    omega
  obtain ⟨x, es, hu, hsource, hsrc, e, he, hsays⟩ := State.selectSource_spec _ n hother
  obtain ⟨c, b, hw⟩ := (((s.tick t).qualified n).selectSource n).watchConflict_eq
  refine ⟨_, s.exec_sourceQualified t n hn h hq, ?_⟩
  rw [if_pos ⟨hsel, hp⟩, hw, hu]
  have hself := (hsrc n).trans (TimeUnit.src_setSrc_self _ _ _)
  exact ⟨⟨congrArg TimeSource.qualified hself, hsource, e, List.mem_append_right _ he, hsays⟩, s.changes_tick_time_toRecorder t _ _⟩

theorem State.completes_revertDelayExpiry (s : State) (t n : Nat) (hn : 1 ≤ n ∧ n ≤ 3) (h : s.SourcesHold 0)
    (hq : (s.time.src n).qualified = true) (h0 : s.time.source ≠ 0) (hrank : s.rank n < s.rank s.time.source)
    (hdelay : (s.time.src n).qualSince + s.paramN 0x12010008 * 1000000000 ≤ max s.now t) :
    s.Completes (.revertDelayExpiry t n) [.now, .time, .toRecorder] fun u =>
      u.time.source = n ∧ ∃ e ∈ u.toRecorder, e.Says 0x1201 [n] := by
  have hother : (s.tick t).time.source ≠ n := by
    intro hsame
    change s.time.source = n at hsame
    rw [hsame] at hrank
    exact Nat.lt_irrefl _ hrank
  obtain ⟨x, es, hu, hsource, -, e, he, hsays⟩ := (s.tick t).selectSource_spec n hother
  have hexec : exec (.revertDelayExpiry t n) s = .next ((s.tick t).selectSource n) := by
    have hall : 1 ≤ n ∧ n ≤ 3 ∧ ((s.tick t).time.src n).qualified = true ∧ (s.tick t).time.source ≠ 0
        ∧ (s.tick t).rank n < (s.tick t).rank (s.tick t).time.source
        ∧ ((s.tick t).time.src n).qualSince + (s.tick t).paramN 0x12010008 * secNs ≤ (s.tick t).now :=
      ⟨hn.1, hn.2, hq, h0, hrank, hdelay⟩
    change execRevertDelayExpiry t n s = _
    rw [execRevertDelayExpiry, s.tick_checkSources t h]
    exact if_pos hall
  refine ⟨_, hexec, ?_⟩
  rw [hu]
  exact ⟨⟨hsource, e, List.mem_append_right _ he, hsays⟩, s.changes_tick_time_toRecorder t _ _⟩

theorem State.completes_sourceConflict (s : State) (t t0 : Nat) (h : s.SourcesHold 0) (hc : (s.tick t).conflicting = true)
    (hnew : s.time.conflictTold = false) (ht0 : s.time.conflictSince = some t0) (hdue : t0 + 10000000000 ≤ max s.now t) :
    s.Completes (.sourceConflict t) [.now, .time, .toRecorder] fun u =>
      u.time.conflictTold = true ∧ u.time.source = s.time.source ∧ s.Tells u 0x120A [] := by
  have hwatch : (s.tick t).watchConflict = { s.tick t with time.conflictSince := some t0 } := by
    have hsince : (s.tick t).time.conflictSince = some t0 := ht0
    rw [State.watchConflict, if_pos hc, hsince]
    rfl
  have hexec : exec (.sourceConflict t) s
      = .next ({ s.tick t with time.conflictSince := some t0, time.conflictTold := true }.raise 0x120A []) := by
    change execSourceConflict t s = _
    rw [execSourceConflict, s.tick_checkSources t h, hwatch]
    exact if_pos ⟨hnew, decide_eq_true hdue⟩
  exact ⟨_, hexec, ⟨rfl, rfl, _, rfl, rfl, rfl, rfl⟩, s.changes_tick_time_toRecorder t _ _⟩

/-- Settles O17: one lemma per command and outcome. -/
theorem timeSourcesQualifyAndAreSelected : Obligations.TimeSourcesQualifyAndAreSelected := by
  intro t n s h1 h3
  have hn : 1 ≤ n ∧ n ≤ 3 := ⟨h1, h3⟩
  refine ⟨?measured, ?stopped, ?qualified, ?revert, ?conflict⟩
  case measured => exact fun unc h hv => s.completes_timeOffsetMeasurement t n unc hn h hv
  case stopped => exact fun unc h hv hs hsel => s.completes_timeOffsetMeasurement_stopped t n unc hn h hv hs hsel
  case qualified =>
    intro h hv hnq hsince hlim
    have hq : s.Qualifies t n := ⟨hv, hnq, hsince, hlim⟩
    exact ⟨s.completes_sourceQualified_kept t n hn h hq, s.completes_sourceQualified_selected t n hn h hq⟩
  case revert => exact s.completes_revertDelayExpiry t n hn
  case conflict => exact s.completes_sourceConflict t

end Sys2Proof.Machine
end

section
/-!
PROOFS. Holdover, the OCXO, steps and leap seconds: O18.
-/

namespace Sys2Proof.Machine

/-! Holdover and the OCXO (R171, R172, R175). -/

theorem State.completes_holdoverLimit (s : State) (t : Nat) (h : Holdover) (hst : s.time.st = .holdover) (hh : s.time.hold = some h)
    (hlim : h.entry + s.paramN 0x12010004 * 1000000000 ≤ max s.now t) :
    s.Completes (.holdoverLimit t) [.now, .time, .toRecorder] fun u =>
      u.time = { (s.tick t).time with st := .unsynchronised } ∧ s.Tells u 0x1203 [] := by
  have hexec : exec (.holdoverLimit t) s = .next ({ s.tick t with time.st := .unsynchronised }.raise 0x1203 []) := by
    have hst' : (s.tick t).time.st = .holdover := hst
    have hh' : (s.tick t).time.hold = some h := hh
    change execHoldoverLimit t s = _
    simp only [execHoldoverLimit, hst', hh']
    exact if_pos hlim
  exact ⟨_, hexec, ⟨rfl, _, rfl, rfl, rfl, rfl⟩, s.changes_tick_time_toRecorder t _ _⟩

theorem State.completes_ocxoWarmupComplete (s : State) (t : Nat) (h : s.time.warming = true) :
    s.Completes (.ocxoWarmupComplete t) [.now, .time, .toRecorder] fun u =>
      u.time = { (s.tick t).time with warming := false, offsetRate := 0 } ∧ s.Tells u 0x1208 [] := by
  have hexec : exec (.ocxoWarmupComplete t) s
      = .next ({ s.tick t with time.warming := false, time.offsetRate := 0 }.raise 0x1208 []) := if_pos h
  exact ⟨_, hexec, ⟨rfl, _, rfl, rfl, rfl, rfl⟩, s.changes_tick_time_toRecorder t _ _⟩

theorem State.completes_ocxoFailure (s : State) (t : Nat) (h : s.time.ocxoFail = false) :
    s.Completes (.ocxoFailure t) [.now, .time, .toRecorder] fun u =>
      u.time = { (s.tick t).time with ocxoFail := true, offsetRate := 0, st := .unsynchronised }
        ∧ (s.time.st = .unsynchronised → s.Tells u 0x1207 [])
        ∧ (s.time.st ≠ .unsynchronised → ∃ a b, u.toRecorder = s.toRecorder ++ [a, b] ∧ a.Says 0x1207 [] ∧ b.Says 0x1203 []) := by
  let s1 : State := { s.tick t with time.ocxoFail := true, time.offsetRate := 0, time.st := .unsynchronised }
  have hexec : exec (.ocxoFailure t) s = .next ((s1.raise 0x1207 []).raiseIf (decide (s.time.st ≠ .unsynchronised)) 0x1203 []) := by
    have hok : ¬(s.tick t).time.ocxoFail = true := by
      change ¬s.time.ocxoFail = true
      rw [h]
      decide
    exact if_neg hok
  refine ⟨_, hexec, ?_⟩
  by_cases hst : s.time.st = .unsynchronised
  · simp only [ne_eq, hst, not_true_eq_false, decide_false, State.raiseIf_false]
    exact ⟨⟨rfl, fun _ => ⟨_, rfl, rfl, rfl, rfl⟩, fun hne => hne.elim⟩, s.changes_tick_time_toRecorder t _ _⟩
  · simp only [ne_eq, hst, not_false_eq_true, decide_true, State.raiseIf_true]
    exact ⟨⟨rfl, fun he => he.elim, fun _ => ⟨_, _, List.append_assoc _ _ _, ⟨rfl, rfl, rfl⟩, rfl, rfl, rfl⟩⟩,
      s.changes_tick_time_toRecorder t _ _⟩

/-! The pulse boundary (R177 to R182, R192, R195). The host copy and Port 4 follow the pulse; of module time only a due step moves
anything. -/

theorem State.hostFollows_eq (s : State) : ∃ h, s.hostFollows = { s with time.host := h } := by
  unfold State.hostFollows
  split
  · exact ⟨s.time.host, rfl⟩
  · exact ⟨_, rfl⟩

theorem State.hostStep_eq (s : State) : ∃ h, s.hostStep = { s with time.host := h } := by
  unfold State.hostStep
  split
  · exact ⟨s.time.host, rfl⟩
  · split
    · exact s.hostFollows_eq
    · exact ⟨_, rfl⟩

theorem State.port4Pulse_eq (s : State) (sec edge : Nat) :
    ∃ d p, s.port4Pulse sec edge = { s with time.pulseDriven := d, time.tod := p } := ⟨_, _, rfl⟩

/-- The state in which the pulse boundary is met: the clock has moved, and the host copy may have gone on to its next pulse. -/
def State.atPulse (s : State) (t : Nat) (h : HostTime) : State := { s.tick t with time.host := h }

theorem State.atPulse_changes (s : State) (t : Nat) (h : HostTime) : s.ChangesOnly [.now, .time] (s.atPulse t h) :=
  s.changes_tick_time t _

theorem State.atPulse_host (s : State) (t : Nat) : s.atPulse t (s.tick t).time.host = s.tick t := rfl

/-- A pulse whose second has not been served: the boundary of module time, between what the host copy and Port 4 do (R178, R192, R195). -/
theorem State.exec_timePulse (s : State) (t : Nat) (h : s.SourcesHold 0) (hnew : s.time.nextPulse ≤ (s.tick t).taiS) :
    ∃ host d p, exec (.timePulse t) s = .next { (s.atPulse t host).pulseBoundary with time.pulseDriven := d, time.tod := p } := by
  have hserve : (s.tick t).time.nextPulse ≤ (s.tick t).taiS := hnew
  change ∃ host d p, execTimePulse t s = _
  simp only [execTimePulse, s.tick_checkSources t h, if_pos hserve]
  split
  · obtain ⟨host, hstep⟩ : ∃ host, State.hostStep
        { s.tick t with time.host.nextPulse := ((s.tick t).hostTaiNs / (secNs : Int)).toNat + 1 } = s.atPulse t host :=
      State.hostStep_eq _
    obtain ⟨d, p, hport⟩ := (s.atPulse t host).pulseBoundary.port4Pulse_eq ((s.tick t).hostTaiNs / (secNs : Int)).toNat
      ((((s.tick t).hostTaiNs / (secNs : Int)).toNat * secNs : Nat) - (s.tick t).time.host.offset).toNat
    exact ⟨host, d, p, by rw [hstep, hport]⟩
  · exact ⟨(s.tick t).time.host, (s.tick t).pulseBoundary.time.pulseDriven, (s.tick t).pulseBoundary.time.tod,
      by rw [s.atPulse_host]⟩

theorem State.pulseBoundary_of_none (s : State) (h : s.time.pending = none) :
    s.pulseBoundary = { s with time.nextPulse := s.taiS + 1 } := by
  unfold State.pulseBoundary
  rw [h]

theorem State.pulseBoundary_of_waiting (s : State) (p : PendingStep) (h : s.time.pending = some p) (hdue : s.stepDue p = false) :
    s.pulseBoundary = { s with time.pending := some { p with pulses := p.pulses + 1 }, time.nextPulse := s.taiS + 1 } := by
  unfold State.pulseBoundary
  rw [h]
  simp only [hdue, Bool.false_eq_true, if_false]

/-- What a step tells: its time-step record, event 0x1205, and the event of a state entered (R179, R200, R632). -/
theorem State.stepTold_eq (s : State) (payload : List Byte) (old : TimeState) :
    ∃ es, ((s.record 0x60F0 2 payload).raise 0x1205 []).tellState old = { s with toRecorder := s.toRecorder ++ es }
      ∧ ∃ r ∈ es, r.Says 0x1205 [] := by
  let told := (s.record 0x60F0 2 payload).makeEvent 0x1205 0 ([].flatMap (le 4))
  obtain ⟨es, hes⟩ := ((s.record 0x60F0 2 payload).raise 0x1205 []).tellState_eq old
  refine ⟨s.makeEvent 0x60F0 2 payload :: told :: es, ?_, told, List.mem_cons_of_mem _ List.mem_cons_self, rfl, rfl, rfl⟩
  rw [hes, State.raise_toRecorder, State.record_toRecorder, List.append_assoc, List.append_assoc]
  rfl

/-- A step made: beside the new time, the time state and what is told, with event 0x1205 among it (R178, R179, R632). -/
theorem State.makeStep_eq (s : State) (e : Int) (cause : Nat) :
    ∃ x h es, s.makeStep e cause = { s.stepOffset e with time.st := x, time.hold := h, toRecorder := s.toRecorder ++ es }
      ∧ ∃ r ∈ es, r.Says 0x1205 [] := by
  obtain ⟨x, h, hx⟩ := (s.stepOffset e).settled_eq
  unfold State.makeStep
  dsimp only
  rw [hx]
  obtain ⟨es, hes, hsays⟩ := State.stepTold_eq { s.stepOffset e with time.st := x, time.hold := h } _ s.time.st
  exact ⟨x, h, es, hes, hsays⟩

/-- The part of the time unit that the end of a pulse boundary may still write once a step is made. -/
def TimeUnit.AfterStep (x y : TimeUnit) : Prop := ∃ st hold n h, y = { x with st := st, hold := hold, nextPulse := n, host := h }

theorem State.pulseBoundary_of_due (s : State) (p : PendingStep) (h : s.time.pending = some p) (hdue : s.stepDue p = true) :
    ∃ x es, s.pulseBoundary = { s.stepOffset p.e with time := x, toRecorder := s.toRecorder ++ es }
      ∧ (s.stepOffset p.e).time.AfterStep x ∧ ∃ r ∈ es, r.Says 0x1205 [] := by
  unfold State.pulseBoundary
  rw [h]
  simp only [hdue, if_true]
  generalize (if s.time.source = 4 then 1 else if p.announced = true then 0 else 2) = cause
  obtain ⟨st, hold, es, hstep, hsays⟩ := s.makeStep_eq p.e cause
  obtain ⟨host, hfollow⟩ :=
    { s.makeStep p.e cause with time.nextPulse := pulseAfterStep (s.makeStep p.e cause).taiNsTotal }.hostFollows_eq
  rw [hfollow, hstep]
  exact ⟨_, es, rfl, ⟨st, hold, _, host, rfl⟩, hsays⟩

theorem State.stepOffset_changes (s : State) (e : Int) : s.ChangesOnly [.gnss, .time, .laneA, .laneB] (s.stepOffset e) := by
  have hgnss : s.ChangesOnly [.gnss] { s with gnss.clkBias := s.gnss.clkBias - e } := s.changes_gnss _
  have hlanes : s.ChangesOnly [.gnss, .laneA, .laneB]
      { s with gnss.clkBias := s.gnss.clkBias - e, laneA := (s.stepOffset e).laneA, laneB := (s.stepOffset e).laneB } :=
    State.changesOnly_trans _ hgnss (State.changes_lanes _ _ _) (by decide) (by decide)
  exact State.changesOnly_trans _ hlanes (State.changes_time _ (s.stepOffset e).time) (by decide) (by decide)

theorem State.completes_timePulse_plain (s : State) (t : Nat) (h : s.SourcesHold 0) (hnew : s.time.nextPulse ≤ (s.tick t).taiS)
    (hp : s.time.pending = none) :
    s.Completes (.timePulse t) [.now, .time] fun u =>
      u.time.offset = (s.tick t).time.offset ∧ u.time.nextPulse = (s.tick t).taiS + 1 ∧ u.time.stepGen = s.time.stepGen := by
  obtain ⟨host, d, p, hexec⟩ := s.exec_timePulse t h hnew
  rw [(s.atPulse t host).pulseBoundary_of_none hp] at hexec
  exact ⟨_, hexec, ⟨rfl, rfl, rfl⟩, s.changes_tick_time t _⟩

theorem State.completes_timePulse_waiting (s : State) (t : Nat) (p : PendingStep) (h : s.SourcesHold 0)
    (hnew : s.time.nextPulse ≤ (s.tick t).taiS) (hp : s.time.pending = some p) (hdue : s.stepDue p = false) :
    s.Completes (.timePulse t) [.now, .time] fun u =>
      u.time.offset = (s.tick t).time.offset ∧ u.time.pending = some { p with pulses := p.pulses + 1 }
        ∧ u.time.stepGen = s.time.stepGen := by
  obtain ⟨host, d, q, hexec⟩ := s.exec_timePulse t h hnew
  rw [(s.atPulse t host).pulseBoundary_of_waiting p hp hdue] at hexec
  exact ⟨_, hexec, ⟨rfl, rfl, rfl⟩, s.changes_tick_time t _⟩

theorem State.completes_timePulse_due (s : State) (t : Nat) (p : PendingStep) (h : s.SourcesHold 0)
    (hnew : s.time.nextPulse ≤ (s.tick t).taiS) (hp : s.time.pending = some p) (hdue : s.stepDue p = true) :
    s.Completes (.timePulse t) [.now, .time, .gnss, .laneA, .laneB, .toRecorder] fun u =>
      u.time.offset = offset96 ((s.tick t).time.offset - p.e * 4294967296 / 10) ∧ u.time.stepGen = !s.time.stepGen
        ∧ u.time.lastStep = some (max s.now t) ∧ u.time.pending = none ∧ u.time.slewing = false ∧ u.time.slewLeft = 0
        ∧ ∃ e ∈ u.toRecorder, e.Says 0x1205 [] := by
  obtain ⟨host, d, q, hexec⟩ := s.exec_timePulse t h hnew
  obtain ⟨x, es, hstep, ⟨st, hold, n, host', rfl⟩, r, hr, hsays⟩ := (s.atPulse t host).pulseBoundary_of_due p hp hdue
  rw [hstep] at hexec
  refine ⟨_, hexec, ⟨rfl, rfl, rfl, rfl, rfl, rfl, r, List.mem_append_right _ hr, hsays⟩, ?_⟩
  have hmoved : s.ChangesOnly [.now, .time, .gnss, .laneA, .laneB] ((s.atPulse t host).stepOffset p.e) :=
    State.changesOnly_trans _ (s.atPulse_changes t host) (State.stepOffset_changes _ p.e) (by decide) (by decide)
  exact State.changesOnly_trans _ hmoved (State.changes_time_toRecorder _ _ _) (by decide) (by decide)

theorem State.completes_stepCancel (s : State) (t t0 : Nat) (p : PendingStep) (h : s.SourcesHold 0) (hp : s.time.pending = some p)
    (ha : p.announced = true) (hl : p.lowSince = some t0) (hlong : t0 + 2000000000 ≤ max s.now t) :
    s.Completes (.stepCancel t) [.now, .time, .toRecorder] fun u =>
      u.time.pending = none ∧ u.time.offset = (s.tick t).time.offset ∧ u.time.slewLeft = -p.e * 4294967296 / 10
        ∧ u.time.stepGen = s.time.stepGen := by
  have hexec : exec (.stepCancel t) s = .next (State.slew { s.tick t with time.pending := none } p.e).enterLocked := by
    have hp' : (s.tick t).time.pending = some p := hp
    have hlow : (s.tick t).since p.lowSince (2 * secNs) = true := by
      rw [hl]
      exact decide_eq_true hlong
    change execStepCancel t s = _
    simp only [execStepCancel, s.tick_checkSources t h, hp']
    exact if_pos ⟨ha, hlow⟩
  obtain ⟨x, hold, es, hlocked⟩ := (State.slew { s.tick t with time.pending := none } p.e).enterLocked_eq
  rw [hlocked] at hexec
  exact ⟨_, hexec, ⟨rfl, rfl, rfl, rfl⟩, s.changes_tick_time_toRecorder t _ _⟩

/-! Leap seconds (R184). -/

/-- Module time, and all that knows of the leap, once an announced leap second has been made (R184). -/
def State.leapt (s : State) : State :=
  { s with
    time.taiUtc := some (s.taiMinusUtc + s.time.leap)
    time.leap := 0
    time.ptp1 := s.time.ptp1.afterLeap
    time.ptp2 := s.time.ptp2.afterLeap
    gnss.utc := s.gnss.utc.map afterLeap }

theorem State.leapt_changes (s : State) : s.ChangesOnly [.gnss, .time] s.leapt :=
  State.changesOnly_trans _ (s.changes_gnss s.leapt.gnss) (State.changes_time { s with gnss := s.leapt.gnss } s.leapt.time) (by decide)
    (by decide)

theorem State.completes_leapSecond (s : State) (t : Nat) (hleap : s.time.leap ≠ 0)
    (hdue : (s.time.leapStart : Int) + s.time.leap ≤ (s.tick t).taiS) :
    s.Completes (.leapSecond t) [.now, .time, .gnss, .toRecorder] fun u =>
      u.time = { (s.tick t).time with
        taiUtc := some (s.taiMinusUtc + s.time.leap), leap := 0, ptp1 := s.time.ptp1.afterLeap, ptp2 := s.time.ptp2.afterLeap }
      ∧ u.gnss = { s.gnss with utc := s.gnss.utc.map fun x => (x.1 + x.2, 0) } ∧ s.Tells u 0x120B [] := by
  have hexec : exec (.leapSecond t) s = .next ((s.tick t).leapt.raise 0x120B []) := by
    have hgo : ¬((s.tick t).time.leap = 0 ∨ ((s.tick t).taiS : Int) < (s.tick t).time.leapStart + (s.tick t).time.leap) := by
      rintro (hnone | hearly)
      · exact hleap hnone
      · exact absurd hdue (Int.not_le.mpr hearly)
    exact if_neg hgo
  refine ⟨_, hexec, ⟨rfl, rfl, _, rfl, rfl, rfl, rfl⟩, ?_⟩
  have hleapt : s.ChangesOnly [.now, .time, .gnss] (s.tick t).leapt :=
    State.changesOnly_trans _ (s.tick_changes t) (s.tick t).leapt_changes (by decide) (by decide)
  exact State.changesOnly_trans _ hleapt (State.raise_changes _ _ _) (by decide) (by decide)

/-- Settles O18: one lemma per command and outcome. -/
theorem holdoverStepsAndLeapSeconds : Obligations.HoldoverStepsAndLeapSeconds := by
  refine ⟨fun t s => ⟨?limit, s.completes_ocxoWarmupComplete t, s.completes_ocxoFailure t⟩,
    fun t s h => ⟨s.completes_timePulse_plain t h, ?waiting, ?due, ?cancel⟩, fun t s => s.completes_leapSecond t⟩
  case limit => exact fun x => s.completes_holdoverLimit t x
  case waiting => exact fun p => s.completes_timePulse_waiting t p h
  case due => exact fun p => s.completes_timePulse_due t p h
  case cancel => exact fun p t0 => s.completes_stepCancel t t0 p h

end Sys2Proof.Machine
end

section
/-!
SUPPORT. The alarms of a failure case: when its series have lasted, and what they make of the alarm words (R364).
-/

namespace Sys2Proof.Machine

/-- A series lasts from its first frame on, the 32-bit frame numbers counted round (R364). -/
theorem lasted_of_le_age {cur : Word} {f n : Nat} (hf : f < 4294967296) (hage : n ≤ (cur - BitVec.ofNat 32 f).toNat) :
    lasted cur.toNat n (some f) = true := by
  have hsince : framesSince cur.toNat f = (cur - BitVec.ofNat 32 f).toNat := by
    rw [framesSince, cw, BitVec.toNat_sub, BitVec.toNat_ofNat, Nat.mod_eq_of_lt hf]
    omega
  rw [lasted, hsince]
  exact decide_eq_true hage

/-- The word of FAIL alarms replaced. -/
def Core.withFailAlm (k : Core) (v : Word) : Core := { k with cases := { k.cases with failAlm := v } }

/-- The word of MARGINAL warnings replaced. -/
def Core.withMargAlm (k : Core) (v : Word) : Core := { k with cases := { k.cases with margAlm := v } }

section
variable (s : State) (w : Work) (p c : Nat)

theorem Work.failAlarm_of_off (hoff : bit w.core.cases.failAlm.toNat c = false)
    (hold : lasted s.frame.number.toNat (framesOf (s.paramN 0x22010007) p) (w.core.cases.cases.getD c (.reset c)).failSince = true) :
    w.failAlarm s p c = (w.setCore (w.core.withFailAlm (w.core.cases.failAlm ||| BitVec.ofNat 32 (2 ^ c)))).raise 0x2201 [c] := by
  simp only [Work.failAlarm, hoff, hold]
  rfl

theorem Work.failAlarm_of_on (hon : bit w.core.cases.failAlm.toNat c = true)
    (hold : lasted s.frame.number.toNat (framesOf (s.paramN 0x22010008) p) (w.core.cases.cases.getD c (.reset c)).clearSince = true) :
    w.failAlarm s p c = (w.setCore (w.core.withFailAlm (w.core.cases.failAlm &&& ~~~BitVec.ofNat 32 (2 ^ c)))).raise 0x2202 [c] := by
  simp only [Work.failAlarm, hon, hold]
  rfl

theorem Work.marginalAlarm_of_off (hoff : bit w.core.cases.margAlm.toNat c = false)
    (hold : lasted s.frame.number.toNat (framesOf (s.paramN 0x22010007) p) (w.core.cases.cases.getD c (.reset c)).badSince = true) :
    w.marginalAlarm s p c = (w.setCore (w.core.withMargAlm (w.core.cases.margAlm ||| BitVec.ofNat 32 (2 ^ c)))).raise 0x2203 [c] := by
  simp only [Work.marginalAlarm, hoff, hold]
  rfl

theorem Work.marginalAlarm_of_on (hon : bit w.core.cases.margAlm.toNat c = true)
    (hold : lasted s.frame.number.toNat (framesOf (s.paramN 0x22010008) p) (w.core.cases.cases.getD c (.reset c)).okSince = true) :
    w.marginalAlarm s p c = (w.setCore (w.core.withMargAlm (w.core.cases.margAlm &&& ~~~BitVec.ofNat 32 (2 ^ c)))).raise 0x2204 [c] := by
  simp only [Work.marginalAlarm, hon, hold]
  rfl

end

/-- A command by which each lane changes its core and tells one event. -/
theorem State.lanesWork_raises (s : State) {t code : Nat} {i : Instr} {l : LaneId} {f : State → Work → Work} {core : Core}
    {args : List Nat} (hr : (s.lane l).runs = true) (he : exec i s = .next ((s.tick t).lanesWork f))
    (hf : f (s.tick t) { lane := s.lane l, events := [], counts := [] }
      = (Work.setCore { lane := s.lane l, events := [], counts := [] } core).raise code args) :
    s.Completes i laneFields (s.Turns t l core [(code, args)]) :=
  s.lanesWork_completes t i l f core [(code, args)] hr he ⟨[], hf⟩

section
variable (s : State) (t c : Nat) (l : LaneId) (f : Nat) (hr : (s.lane l).runs = true) (hf : f < 4294967296)
include hr hf

theorem State.completes_failAlarmSet (hoff : bit (s.lane l).core.cases.failAlm.toNat c = false)
    (hsince : ((s.lane l).core.cases.cases.getD c (.reset c)).failSince = some f)
    (hage : framesOf (s.paramN 0x22010007) s.frame.period ≤ (s.frame.number - BitVec.ofNat 32 f).toNat) :
    s.Completes (.failAlarmSet t c) laneFields (s.Turns t l
      ((s.lane l).core.withFailAlm ((s.lane l).core.cases.failAlm ||| BitVec.ofNat 32 (2 ^ c))) [(0x2201, [c])]) :=
  s.lanesWork_raises hr rfl <| Work.failAlarm_of_off _ _ _ _ hoff <|
    (congrArg (lasted _ _) hsince).trans (lasted_of_le_age hf hage)

theorem State.completes_failAlarmClear (hon : bit (s.lane l).core.cases.failAlm.toNat c = true)
    (hsince : ((s.lane l).core.cases.cases.getD c (.reset c)).clearSince = some f)
    (hage : framesOf (s.paramN 0x22010008) s.frame.period ≤ (s.frame.number - BitVec.ofNat 32 f).toNat) :
    s.Completes (.failAlarmClear t c) laneFields (s.Turns t l
      ((s.lane l).core.withFailAlm ((s.lane l).core.cases.failAlm &&& ~~~BitVec.ofNat 32 (2 ^ c))) [(0x2202, [c])]) :=
  s.lanesWork_raises hr rfl <| Work.failAlarm_of_on _ _ _ _ hon <|
    (congrArg (lasted _ _) hsince).trans (lasted_of_le_age hf hage)

theorem State.completes_marginalWarningSet (hoff : bit (s.lane l).core.cases.margAlm.toNat c = false)
    (hsince : ((s.lane l).core.cases.cases.getD c (.reset c)).badSince = some f)
    (hage : framesOf (s.paramN 0x22010007) s.frame.period ≤ (s.frame.number - BitVec.ofNat 32 f).toNat) :
    s.Completes (.marginalWarningSet t c) laneFields (s.Turns t l
      ((s.lane l).core.withMargAlm ((s.lane l).core.cases.margAlm ||| BitVec.ofNat 32 (2 ^ c))) [(0x2203, [c])]) :=
  s.lanesWork_raises hr rfl <| Work.marginalAlarm_of_off _ _ _ _ hoff <|
    (congrArg (lasted _ _) hsince).trans (lasted_of_le_age hf hage)

theorem State.completes_marginalWarningClear (hon : bit (s.lane l).core.cases.margAlm.toNat c = true)
    (hsince : ((s.lane l).core.cases.cases.getD c (.reset c)).okSince = some f)
    (hage : framesOf (s.paramN 0x22010008) s.frame.period ≤ (s.frame.number - BitVec.ofNat 32 f).toNat) :
    s.Completes (.marginalWarningClear t c) laneFields (s.Turns t l
      ((s.lane l).core.withMargAlm ((s.lane l).core.cases.margAlm &&& ~~~BitVec.ofNat 32 (2 ^ c))) [(0x2204, [c])]) :=
  s.lanesWork_raises hr rfl <| Work.marginalAlarm_of_on _ _ _ _ hon <|
    (congrArg (lasted _ _) hsince).trans (lasted_of_le_age hf hage)

end

end Sys2Proof.Machine
end

section
/-!
SUPPORT. What a dispatch and a packed message leave alone (R469 to R472, R515, R536, R547).
-/

namespace Sys2Proof.Machine

theorem State.changes_out (s : State) (x : OutStage) : s.ChangesOnly [.out] { s with out := x } := by
  intro f hf
  cases f <;> first | rfl | exact absurd List.mem_cons_self hf

theorem State.countN_changes (s : State) (id n : Nat) : s.ChangesOnly [.counters, .toRecorder] (s.countN id n) := by
  induction n generalizing s with
  | zero => exact State.changesOnly_refl _ _
  | succ n ih => exact State.changesOnly_trans _ (s.count_changes id) (ih _) (fun _ h => h) (fun _ h => h)

theorem State.aoSet_changes (s : State) (cmds : Nat → Int × Int) (i : Nat) : s.ChangesOnly [.fio] (s.aoSet cmds i) := by
  obtain ⟨code, clamped, h⟩ := s.aoSet_eq cmds i
  rw [h]
  exact s.changes_fio _

theorem State.aoPass_changes (s : State) : s.ChangesOnly [.fio] s.aoPass :=
  changesOnly_foldl _ _ (fun s i => s.aoSet_changes s.sentCmd i) _ s

theorem State.fioDispatch_changes (s : State) (bits : Nat) : s.ChangesOnly [.fio, .toRecorder] (s.fioDispatch bits) := by
  have htaken := s.changes_fio { s.fio with
    cmdBits := bits, duty := s.peer.duty = .duty && s.paramN 0x71010001 = 1, undispatched := 0, expired := false }
  have htold := State.changesOnly_trans [.fio, .toRecorder] htaken (State.raiseIf_changes _ s.fio.expired 0x3007 [0]) (by decide)
    (by decide)
  have hdriven := State.changesOnly_trans [.fio, .toRecorder] htold (State.dioPass_drives _).changes (by decide) (by decide)
  exact State.changesOnly_trans _ hdriven (State.aoPass_changes _) (by decide) (by decide)

theorem State.writeEntry_changes (s : State) (b buf owner : Nat) (f : CanFrame) (lifetime : Nat) :
    s.ChangesOnly [.buses, .counters, .toRecorder] (s.writeEntry b buf owner f lifetime) := by
  unfold State.writeEntry
  dsimp only
  split
  · exact State.changesOnly_refl _ _
  · split
    · exact State.changesOnly_trans _ (s.onBus_changes b _) (State.count_changes _ _) (by decide) (by decide)
    · split
      · exact State.changesOnly_trans _ (s.onBus_changes b _) (State.raiseIf_changes _ _ _ _) (by decide) (by decide)
      · exact State.changesOnly_mono _ (s.onBus_changes b _) (by decide)

theorem State.packEntry_changes (s : State) (src : PackSource) (b k : Nat) (e : List Byte) :
    s.ChangesOnly [.buses, .counters, .toRecorder] (s.packEntry src b k e) :=
  State.changesOnly_trans _
    (State.changesOnly_trans [.buses, .counters, .toRecorder] (s.onBus_changes b _) (State.countN_changes _ _ _) (by decide) (by decide))
    (State.writeEntry_changes _ _ _ _ _ _) (fun _ h => h) (fun _ h => h)

end Sys2Proof.Machine
end

section
/-!
SUPPORT. Load-shed contacts: the factors they scale commands by, the change accepted and the rewrite it brings (R366 to R369).
-/

namespace Sys2Proof.Machine

theorem ofLe_lt (bs : List Byte) : ofLe bs < 256 ^ bs.length := by
  induction bs with
  | nil => decide
  | cons b bs ih =>
    have hb := b.isLt
    rw [ofLe, List.length_cons, Nat.pow_succ]
    omega

/-- A 16-bit factor is below 1, which 65536 stands for (R367, R368). -/
theorem u16_le_one (bs : List Byte) (o : Nat) : u16 bs o ≤ 65536 := by
  have h := ofLe_lt (slice bs o 2)
  rw [show (slice bs o 2).length = 2 by simp [slice]] at h
  exact Nat.le_of_lt h

theorem Bank.shedFactors_le_one (b : Bank) (k act : Nat) :
    (b.shedFactors k act).1 ≤ 65536 ∧ (b.shedFactors k act).2 ≤ 65536 := by
  unfold Bank.shedFactors
  split
  · decide
  · split
    · decide
    · exact ⟨u16_le_one _ _, u16_le_one _ _⟩

/-- A load-shed contact, 0 for LS1 and 1 for LS2. -/
def State.contact (s : State) (k : Nat) : Contact := if k = 0 then s.out.ls1 else s.out.ls2

/-- Whether the snapshot of the released record already showed a contact (R368). -/
def State.shown (s : State) (k : Nat) : Bool := if k = 0 then s.out.shown1 else s.out.shown2

/-- KF and KC of a contact for an actuator of a section: those of the table where it sheds the section, else 1 (R367, R368). -/
def Bank.sectionFactors (b : Bank) (k act sec : Nat) : Nat × Nat :=
  if 1 ≤ sec ∧ bit (b.shedSections k) (sec - 1) = true then b.shedFactors k act else (65536, 65536)

theorem Bank.sectionFactors_le_one (b : Bank) (k act sec : Nat) :
    (b.sectionFactors k act sec).1 ≤ 65536 ∧ (b.sectionFactors k act sec).2 ≤ 65536 := by
  unfold Bank.sectionFactors
  split
  · exact b.shedFactors_le_one k act
  · decide

theorem State.contactFactors_of_released (s : State) (k act sec : Nat) (h : (s.contact k).applied = false) :
    s.contactFactors k act sec = (65536, 65536) := by
  have h' : (if k = 0 then s.out.ls1 else s.out.ls2).applied = false := h
  simp only [State.contactFactors, h', Bool.false_and, Bool.false_eq_true, if_false]

theorem State.contactFactors_of_applied (s : State) (k act sec : Nat) (h : (s.contact k).applied = true) (hs : s.shown k = false) :
    s.contactFactors k act sec = s.config.active.sectionFactors k act sec := by
  have h' : (if k = 0 then s.out.ls1 else s.out.ls2).applied = true := h
  have hs' : (if k = 0 then s.out.shown1 else s.out.shown2) = false := hs
  simp only [State.contactFactors, Bank.sectionFactors, h', hs', Bool.not_false, Bool.true_and, Bool.and_eq_true, decide_eq_true_eq]

/-- A command scaled by KF and KC in units of 1 / 65536, rounded to the nearest (R368). -/
def ActCmd.scaledBy (q : ActCmd) (f : Nat × Nat) : ActCmd :=
  { q with
    fx := (q.fx * f.1 + 32768) / 65536
    fy := (q.fy * f.1 + 32768) / 65536
    cmd1 := (q.cmd1 * f.2 + 32768) / 65536 }

/-- Of the factors of two contacts the lower acts (R368). -/
theorem State.scaled_eq_scaledBy (s : State) (q : ActCmd) (sec : Nat) (f : Nat × Nat)
    (hsec : ((s.config.active.act? q.num).map (·.section_)).getD 0 = sec)
    (hf : min ((s.contactFactors 0 q.num sec).1 : Int) (s.contactFactors 1 q.num sec).1 = f.1)
    (hc : min ((s.contactFactors 0 q.num sec).2 : Int) (s.contactFactors 1 q.num sec).2 = f.2) :
    s.scaled q = q.scaledBy f := by
  simp only [State.scaled, ActCmd.scaledBy, hsec, hf, hc]

/-- While one contact alone is applied, each command is scaled by its factors (R368). -/
theorem State.scaled_of_one_applied (s : State) (k : Nat) (q : ActCmd) (hk : k ≤ 1) (h : (s.contact k).applied = true)
    (hs : s.shown k = false) (hother : (s.contact (1 - k)).applied = false) :
    s.scaled q = q.scaledBy
      (s.config.active.sectionFactors k q.num (((s.config.active.act? q.num).map (·.section_)).getD 0)) := by
  generalize hsec : ((s.config.active.act? q.num).map (·.section_)).getD 0 = sec
  have hown := s.contactFactors_of_applied k q.num sec h hs
  have hone := s.contactFactors_of_released (1 - k) q.num sec hother
  obtain ⟨hf, hc⟩ := s.config.active.sectionFactors_le_one k q.num sec
  obtain rfl | rfl : k = 0 ∨ k = 1 := by omega
  · refine s.scaled_eq_scaledBy q sec _ hsec ?_ ?_ <;> rw [hown, hone]
    · exact Int.min_eq_left (Int.ofNat_le.mpr hf)
    · exact Int.min_eq_left (Int.ofNat_le.mpr hc)
  · refine s.scaled_eq_scaledBy q sec _ hsec ?_ ?_ <;> rw [hown, hone]
    · exact Int.min_eq_right (Int.ofNat_le.mpr hf)
    · exact Int.min_eq_right (Int.ofNat_le.mpr hc)

/-- Outside a ramp the commands in force are those released (R381, R392). -/
theorem State.standing_of_no_hold (s : State) (h : s.ridge.holdStage = .none) : s.standing = s.out.released := by
  rw [State.standing, h]

/-! The change of a contact. -/

/-- Whether a level of a contact is its shedding level (R366). -/
def State.sheds (s : State) (k : Nat) (closed : Bool) : Bool := if s.paramN (0x22040001 + k) = 1 then !closed else closed

/-- A contact whose other level has been accepted. -/
def State.turned (s : State) (k : Nat) (closed : Bool) : Contact :=
  { closed := closed, applied := s.sheds k closed, changes := min 65535 ((s.contact k).changes + 1), ts := s.now }

/-- The state with a contact changed; a contact that was not applied has not been shown to a record (R368). -/
def State.putContact (s : State) (k : Nat) (new : Contact) : State :=
  if k = 0 then { s with out.ls1 := new, out.shown1 := s.out.shown1 && (s.contact k).applied }
  else { s with out.ls2 := new, out.shown2 := s.out.shown2 && (s.contact k).applied }

/-- The state in which the change of a contact has been taken and told (R366). -/
def State.contactTold (s : State) (k : Nat) (closed : Bool) : State :=
  (s.putContact k (s.turned k closed)).raise (if s.sheds k closed then 0x2207 else 0x2208) [k, s.config.active.shedSections k]

theorem contactClosed_of_decided (old : Bool) {ua : Nat} (h : ua ≤ 1000 ∨ 3000 ≤ ua) : contactClosed old ua = decide (3000 ≤ ua) := by
  unfold contactClosed
  split
  case isTrue hclosed => exact (decide_eq_true hclosed).symm
  case isFalse hopen =>
    rw [if_pos (h.resolve_right hopen)]
    exact (decide_eq_false hopen).symm

section
variable (s : State) (t k : Nat) {ua : Nat} {closed : Bool} (hlevel : contactClosed (s.contact k).closed ua = closed)
include hlevel

theorem State.exec_loadShedContactAccept_of_level_held (h : (s.contact k).closed = closed) :
    exec (.loadShedContactAccept t k ua) s = .next (s.tick t) :=
  if_pos (h.trans hlevel.symm)

theorem State.exec_loadShedContactAccept_of_change (h : (s.contact k).closed ≠ closed) :
    exec (.loadShedContactAccept t k ua) s
      = .next (if s.sheds k closed then ((s.tick t).contactTold k closed).rewriteScaled k else (s.tick t).contactTold k closed) := by
  subst hlevel
  exact if_neg h

end

theorem State.putContact_eq (s : State) (k : Nat) (new : Contact) :
    ∃ a b x y, s.putContact k new = { s with out.ls1 := a, out.ls2 := b, out.shown1 := x, out.shown2 := y } := by
  unfold State.putContact
  split
  · exact ⟨new, s.out.ls2, _, s.out.shown2, rfl⟩
  · exact ⟨s.out.ls1, new, s.out.shown1, _, rfl⟩

theorem State.contactTold_changes (s : State) (k : Nat) (closed : Bool) :
    s.ChangesOnly [.out, .toRecorder] (s.contactTold k closed) := by
  obtain ⟨a, b, x, y, h⟩ := s.putContact_eq k (s.turned k closed)
  have hput : s.ChangesOnly [.out] (s.putContact k (s.turned k closed)) := by
    rw [h]
    exact s.changes_out _
  exact State.changesOnly_trans _ hput (State.raise_changes _ _ _) (by decide) (by decide)

section
variable (s : State) (k : Nat) (closed : Bool)

theorem State.contactTold_contact : (s.contactTold k closed).contact k = s.turned k closed := by
  by_cases h : k = 0 <;> simp only [State.contact, State.contactTold, State.putContact, State.raise_out, h, if_true, if_false]

theorem State.contactTold_other :
    if k = 0 then (s.contactTold k closed).out.ls2 = s.out.ls2 else (s.contactTold k closed).out.ls1 = s.out.ls1 := by
  by_cases h : k = 0 <;> simp only [State.contactTold, State.putContact, State.raise_out, h, if_true, if_false]

theorem State.contactTold_shown (h : (s.contact k).applied = false) : (s.contactTold k closed).shown k = false := by
  unfold State.shown State.contactTold State.putContact
  rw [h]
  by_cases hk : k = 0 <;> simp only [State.raise_out, hk, Bool.and_false, if_true, if_false]

theorem State.contactTold_commands : (s.contactTold k closed).out.released = s.out.released
    ∧ (s.contactTold k closed).out.sent = s.out.sent ∧ (s.contactTold k closed).out.dispatched = s.out.dispatched := by
  obtain ⟨a, b, x, y, hput⟩ := s.putContact_eq k (s.turned k closed)
  rw [State.contactTold, hput]
  exact ⟨rfl, rfl, rfl⟩

theorem State.contactTold_tells (h : s.sheds k closed = false) :
    s.Tells (s.contactTold k closed) 0x2208 [k, s.config.active.shedSections k] := by
  obtain ⟨a, b, x, y, hput⟩ := s.putContact_eq k (s.turned k closed)
  rw [State.contactTold, hput, h]
  exact ⟨_, rfl, rfl, rfl, rfl⟩

end

theorem State.contactTold_rest_released (s : State) {k : Nat} (closed : Bool) (hk : k ≤ 1)
    (h : (if k = 0 then s.out.ls2.applied else s.out.ls1.applied) = false) :
    ((s.contactTold k closed).contact (1 - k)).applied = false := by
  have hkeep := s.contactTold_other k closed
  obtain rfl | rfl : k = 0 ∨ k = 1 := by omega
  all_goals exact (congrArg Contact.applied hkeep).trans h

/-! The scaling rewrite (R369). -/

/-- The state in which the commands in force have been scaled and sent, before outputs and messages follow. -/
def State.sentScaled (s : State) : State :=
  { s with
    out.sent := if s.twin then [] else s.standing.map s.scaled
    out.dispatched := s.dispatchedNow (s.standing.map s.scaled) }

/-- The outputs and the waiting frames that follow leave the commands sent alone. -/
theorem State.rewriteScaled_changes (s : State) (k : Nat) (h : s.fio.inhibit = false) :
    s.sentScaled.ChangesOnly [.fio, .buses, .counters, .toRecorder] (s.rewriteScaled k) := by
  unfold State.rewriteScaled
  rw [if_neg (by rw [h]; decide)]
  refine State.changesOnly_trans _ (State.fioDispatch_changes s.sentScaled _)
    (changesOnly_foldl [.buses, .counters, .toRecorder] _ (fun s b => changesOnly_foldl _ _ (fun s m => ?_) _ s) _ _)
    (by decide) (by decide)
  split
  · exact State.changesOnly_refl _ _
  · dsimp only
    split
    · exact State.packEntry_changes _ _ _ _ _
    · exact State.changesOnly_refl _ _

theorem State.sentScaled_changes (s : State) : s.ChangesOnly [.out] s.sentScaled := s.changes_out _

/-- With duty and no hold, the rewrite sends the released commands by the factors of the one contact applied (R368, R369). -/
theorem State.rewriteScaled_sent (s : State) {k : Nat} (hk : k ≤ 1) (hin : s.fio.inhibit = false) (hduty : s.peer.duty = .duty)
    (hstage : s.ridge.holdStage = .none) (h : (s.contact k).applied = true) (hs : s.shown k = false)
    (hother : (s.contact (1 - k)).applied = false) :
    (s.rewriteScaled k).out.sent = s.out.released.map fun q =>
      q.scaledBy (s.config.active.sectionFactors k q.num (((s.config.active.act? q.num).map (·.section_)).getD 0)) := by
  have hout : (s.rewriteScaled k).out = s.sentScaled.out := s.rewriteScaled_changes k hin .out (by decide)
  have htwin : s.twin = false := by simp only [State.twin, hduty, ne_eq, not_true_eq_false, decide_false]
  rw [hout, State.sentScaled, htwin, s.standing_of_no_hold hstage]
  exact List.map_congr_left fun q _ => s.scaled_of_one_applied k q hk h hs hother

theorem State.rewriteScaled_contact (s : State) (k j : Nat) (hin : s.fio.inhibit = false) :
    (s.rewriteScaled k).contact j = s.contact j := by
  have hout : (s.rewriteScaled k).out = s.sentScaled.out := s.rewriteScaled_changes k hin .out (by decide)
  rw [State.contact, hout]
  rfl

end Sys2Proof.Machine
end

section
/-!
PROOFS. Alarms of the failure cases and load-shed contacts: O30.
-/

namespace Sys2Proof.Machine

theorem State.tick_contactTold_changes (s : State) (t k : Nat) (closed : Bool) :
    s.ChangesOnly [.now, .time, .out, .toRecorder] ((s.tick t).contactTold k closed) :=
  State.changesOnly_trans _ (s.tick_changes t) ((s.tick t).contactTold_changes k closed) (by decide) (by decide)

section
variable (s : State) (t k : Nat) {ua : Nat} {closed : Bool} (hlevel : contactClosed (s.contact k).closed ua = closed)
include hlevel

theorem State.completes_loadShedContactAccept_held (h : (s.contact k).closed = closed) :
    s.Completes (.loadShedContactAccept t k ua) [.now, .time] fun u => u.out = s.out :=
  ⟨_, s.exec_loadShedContactAccept_of_level_held t k hlevel h, rfl, s.tick_changes t⟩

theorem State.completes_loadShedContactAccept_ended (h : (s.contact k).closed ≠ closed) (hsheds : s.sheds k closed = false) :
    s.Completes (.loadShedContactAccept t k ua) [.now, .time, .out, .toRecorder] fun u =>
      u.contact k = (s.tick t).turned k closed
        ∧ (if k = 0 then u.out.ls2 = s.out.ls2 else u.out.ls1 = s.out.ls1)
        ∧ u.out.sent = s.out.sent ∧ u.out.dispatched = s.out.dispatched ∧ s.Tells u 0x2208 [k, s.config.active.shedSections k] := by
  have hexec := s.exec_loadShedContactAccept_of_change t k hlevel h
  rw [if_neg (by rw [hsheds]; decide)] at hexec
  obtain ⟨-, hsent, hdispatched⟩ := (s.tick t).contactTold_commands k closed
  exact ⟨_, hexec, ⟨(s.tick t).contactTold_contact k closed, (s.tick t).contactTold_other k closed, hsent, hdispatched,
    (s.tick t).contactTold_tells k closed hsheds⟩, s.tick_contactTold_changes t k closed⟩

theorem State.completes_loadShedContactAccept_shed (hk : k ≤ 1) (h : (s.contact k).closed ≠ closed)
    (hsheds : s.sheds k closed = true) (hold : (s.contact k).applied = false) (hin : s.fio.inhibit = false)
    (hduty : s.peer.duty = .duty) (hstage : s.ridge.holdStage = .none)
    (hother : (if k = 0 then s.out.ls2.applied else s.out.ls1.applied) = false) :
    s.Completes (.loadShedContactAccept t k ua) [.now, .time, .out, .fio, .buses, .counters, .toRecorder] fun u =>
      u.contact k = (s.tick t).turned k closed
        ∧ u.out.sent = s.out.released.map fun q =>
          q.scaledBy (s.config.active.sectionFactors k q.num (((s.config.active.act? q.num).map (·.section_)).getD 0)) := by
  have hexec := s.exec_loadShedContactAccept_of_change t k hlevel h
  rw [if_pos hsheds] at hexec
  have htold := s.tick_contactTold_changes t k closed
  have hcontact := (s.tick t).contactTold_contact k closed
  have hshown := (s.tick t).contactTold_shown k closed hold
  have hrest := (s.tick t).contactTold_rest_released closed hk hother
  obtain ⟨hreleased, -, -⟩ := (s.tick t).contactTold_commands k closed
  generalize (s.tick t).contactTold k closed = v at *
  have hconfig : v.config = s.config := htold .config (by decide)
  have hpeer : v.peer = s.peer := htold .peer (by decide)
  have hridge : v.ridge = s.ridge := htold .ridge (by decide)
  have hfio : v.fio = s.fio := htold .fio (by decide)
  have happlied : (v.contact k).applied = true := (congrArg Contact.applied hcontact).trans hsheds
  have hsent := v.rewriteScaled_sent hk (by rw [hfio, hin]) (by rw [hpeer, hduty]) (by rw [hridge, hstage]) happlied hshown hrest
  have hscaled := State.changesOnly_trans [.now, .time, .out, .toRecorder] htold v.sentScaled_changes (by decide) (by decide)
  rw [hreleased, hconfig] at hsent
  exact ⟨_, hexec, ⟨(v.rewriteScaled_contact k k (by rw [hfio, hin])).trans hcontact, hsent⟩,
    State.changesOnly_trans _ hscaled (v.rewriteScaled_changes k (by rw [hfio, hin])) (by decide) (by decide)⟩

end

/-- Settles O30: one lemma per alarm, and one per outcome of a contact's sample. -/
theorem alarmsOfFailureCasesAndLoadShed : Obligations.AlarmsOfFailureCasesAndLoadShed := by
  intro t c l s
  refine ⟨fun hr _ => ⟨?failSet, ?failClear, ?marginalSet, ?marginalClear⟩, fun k ua hk hua => ⟨?held, ?ended, ?shed⟩⟩
  case failSet => exact fun f hf => s.completes_failAlarmSet t c l f hr hf
  case failClear => exact fun f hf => s.completes_failAlarmClear t c l f hr hf
  case marginalSet => exact fun f hf => s.completes_marginalWarningSet t c l f hr hf
  case marginalClear => exact fun f hf => s.completes_marginalWarningClear t c l f hr hf
  case held => exact s.completes_loadShedContactAccept_held t k (contactClosed_of_decided _ hua)
  case ended => exact s.completes_loadShedContactAccept_ended t k (contactClosed_of_decided _ hua)
  case shed => exact s.completes_loadShedContactAccept_shed t k (contactClosed_of_decided _ hua) hk

end Sys2Proof.Machine
end
